-- ==== Sys2Proof/Word.lean ====
section
/-! DEFINITION. The plain words of the model: bytes, serials, and the two index types of the part
(four legs, 128 drop indices a leg). -/

namespace Sys2Proof

/-- One byte of the control port. -/
abbrev Byte := BitVec 8

/-- The 8-byte identity of a drop unit (00_scope 3). -/
abbrev Serial := BitVec 64

/-- A leg number, 0 to 3. -/
abbrev Leg := Fin 4

/-- A drop index on one leg, 0 to 127. -/
abbrev Drop := Fin 128

/-- The value of a leg byte of a request, if it names a leg (a leg number above 3 does not). -/
def toLeg? (b : Byte) : Option Leg := if h : b.toNat < 4 then some ⟨b.toNat, h⟩ else none

/-- The value of a drop byte of a request, if it names a drop index. -/
def toDrop? (b : Byte) : Option Drop := if h : b.toNat < 128 then some ⟨b.toNat, h⟩ else none

end Sys2Proof
end

