-- ==== Sys2Proof/Syntax.lean ====
section
/-! DEFINITION. The commands of the part: one constructor of `Instr` per row of spec/opcode_table.json,
with the operands that the row's rules give it, and the plain data those operands are made of.
The requests of the host are also a type of their own, `Request`, which TAKE_REQUEST decodes from
a record. -/

namespace Sys2Proof

/-- A stamp: the pair (cycle, round) of R1. -/
structure Stamp where
  cycle : Nat
  round : Nat
deriving DecidableEq, Repr

/-! ### What the receivers see -/

/-- The header of a burst (R56); `echo` is `none` for NONE. -/
structure BurstHeader where
  drop        : Drop
  echo        : Option (Fin 16)
  dyingGasp   : Bool
  wakeRequest : Bool
  unitFault   : Bool
  backlog     : Vector (BitVec 24) 4
deriving DecidableEq, Repr

/-- A burst whose delimiter the receiver found: where the delimiter begins, in eighths from the
start of the receive frame; the LEVEL input over the 6 preamble beats before it (R105); the header
read behind it and whether its CRC is good (R56); the bytes that follow the header (R110). -/
structure FoundBurst where
  delimiter : Nat
  preamble  : List Byte
  header    : BurstHeader
  crcGood   : Bool
  payload   : List Byte
deriving DecidableEq, Repr

/-- What a granted burst window showed (R104): whether a beat of it was lit, and the burst behind the
first delimiter found in it. -/
structure WindowLight where
  lit   : Bool
  found : Option FoundBurst
deriving DecidableEq, Repr

/-- An announce burst found in a discovery window (R57, R113); `delimiter` is in eighths from the start of
the receive frame. -/
structure FoundAnnounce where
  delimiter  : Nat
  serial     : Serial
  power      : Byte
  capability : Byte
  crcGood    : Bool
deriving DecidableEq, Repr

/-- Some consecutive beats with the same LIGHT and LEVEL inputs. -/
structure LightRun where
  beats : Nat
  lit   : Bool
  level : Byte
deriving DecidableEq, Repr

/-- The LIGHT and LEVEL inputs over a receive frame, from beat 0 on; beats after the last run are dark
at level 0. -/
abbrev FrameLight := List LightRun

/-- The kind of an observed-dark region (R116). -/
inductive Region where
  | idle | watch | probe
deriving DecidableEq, Repr

/-- The round report of R116. `round` is the stamp of the round it describes; `probeCount` is present only
when the map placed a probe window; the probe window's sample stands among `samples`. -/
structure RoundReport where
  round      : Stamp
  stray      : Nat
  probeCount : Option Nat
  tails      : List (Drop × Nat)
  samples    : List (Region × Nat)
  misfit     : Nat
  garbled    : Nat
deriving DecidableEq, Repr

/-! ### Requests of the host -/

/-- One lane template of an ENROL_ADD body (11.8): the class byte and the two figures. -/
structure WireTemplate where
  cls    : Byte
  first  : BitVec 16
  second : BitVec 16
deriving DecidableEq, Repr

/-- The eleven settings of a ROGUE_SET body (R131, 11.10). -/
structure WireRogue where
  stray         : Byte
  clash         : Byte
  tail          : Byte
  glow          : Byte
  combination   : Byte
  reference     : Byte
  watchSpan     : BitVec 16
  strayBeatMin  : Byte
  tailLimit     : Byte
  glowMargin    : Byte
  confirmGap    : BitVec 16
  confirmWindow : BitVec 16
  probeSpan     : Byte
  holdOff       : Byte
deriving DecidableEq, Repr

/-- The five settings of a LEG_SET body (R7, 11.10). -/
structure WireLegSet where
  discovery    : BitVec 16
  trimLow      : Byte
  trimHigh     : Byte
  upThrottle   : BitVec 16
  downThrottle : BitVec 16
  lostHold     : Byte
deriving DecidableEq, Repr

/-- The fields of an ENROL_ADD body (R21, 11.10). -/
structure WireEnrol where
  serial    : Serial
  allowed   : Byte
  account   : BitVec 32
  mode      : Byte
  quota     : BitVec 64
  templates : List WireTemplate
deriving DecidableEq, Repr

/-- A request of the host with its arguments as the record carries them (11.8, 11.10). -/
inductive Request where
  | identify
  | status
  | portSet (mode : Byte) (mask : BitVec 32)
  | clearLatch
  | restart
  | pulseRead
  | legOn (leg : Byte) (reach : BitVec 16)
  | legOff (leg : Byte)
  | legSet (leg : Byte) (settings : WireLegSet)
  | legStatus (leg : Byte)
  | setReach (leg : Byte) (reach : BitVec 16)
  | announceSet (leg : Byte) (host : Vector Byte 40)
  | enrolAdd (entry : WireEnrol)
  | enrolRemove (serial : Serial)
  | enrolRead (serial : Serial)
  | strangerRead (leg : Byte) (clear : Byte)
  | admitDrop (leg drop : Byte)
  | dismiss (leg drop : Byte)
  | dropRead (leg drop : Byte)
  | laneAdd (leg drop port cls : Byte) (first second : BitVec 16)
  | laneChange (leg lane cls port : Byte) (first second : BitVec 16)
  | laneRemove (leg lane : Byte)
  | laneRead (leg lane : Byte)
  | mapRead (leg : Byte)
  | windowStats (leg : Byte)
  | sleep (leg drop : Byte) (interval : BitVec 16)
  | wake (leg drop : Byte)
  | rogueSet (leg : Byte) (settings : WireRogue)
  | rogueArm (leg : Byte)
  | rogueDisarm (leg : Byte)
  | rogueRead (leg : Byte)
  | release (leg drop : Byte)
  | bandSet (band : Byte) (whenKind : Byte) (cycle : BitVec 32) (round : BitVec 16)
  | bandQuotaSet (flags : Byte)
  | bandRead
  | quotaSet (account : BitVec 32) (quota : BitVec 64)
  | periodSet (length : BitVec 16)
  | closePeriod (mask : Byte)
  | journalRead (count mode : Byte)
  | journalRelease (seq : BitVec 32)
  | journalWatermark (level : BitVec 16)
  | meterRead (leg drop : Byte)
deriving DecidableEq, Repr

/-! ### The commands -/

/-- The commands, one per row of spec/opcode_table.json, in the table's order. A request carries its `tag`
(0: no reply is wanted, R195) and its body's fields. -/
inductive Instr where
  | pinReset
  | lockReached
  | lossOfLock
  | pulseCapture
  | laserFaultAsserted (leg : Leg)
  | roundBoundary
  | announcementBlockBoundary
  | cycleBoundary
  | preparingEnd (leg : Leg)
  | retimingEnd (leg : Leg)
  | faultRecovery (leg : Leg)
  | lostHoldExpiry (leg : Leg) (drop : Drop)
  | discoveryDue (leg : Leg)
  | wakeCheckDue (leg : Leg) (drop : Drop)
  | echoWaitResendDue (leg : Leg) (drop : Drop)
  | orderFailed (leg : Leg) (drop : Drop)
  | orderRetry (leg : Leg)
  | suspectTimeout (leg : Leg)
  | holdoffExpiry (leg : Leg)
  | grantedWindowEnd (leg : Leg) (light : WindowLight)
  | missedCountLimit (leg : Leg) (drop : Drop)
  | outOfBandRunLimit (leg : Leg) (drop : Drop) (level : Byte)
  | discoveryWindowEnd (leg : Leg) (light : FrameLight) (announces : List FoundAnnounce)
  | rangingWindowEnd (leg : Leg) (bursts : List FoundBurst)
  | receiveRoundEnd (leg : Leg) (light : FrameLight)
  | spanEnd (leg : Leg) (report : RoundReport)
  | stepReading (leg : Leg) (report : RoundReport)
  | downstreamFrameArrival (tag : BitVec 32) (data : List Byte)
  | writeTransactionEnd (bytes : List Byte)
  | badOpcodeTransaction (opcode : Byte)
  | readOpcode
  | readTransactionEnd (whole : Bool)
  | takeRequest
  | heldCloseWrite
  | retiringVacated (leg : Leg) (drop : Drop)
  | legDrained (leg : Leg)
  | identify (tag : Byte)
  | status (tag : Byte)
  | portSet (tag : Byte) (mode : Byte) (mask : BitVec 32)
  | clearLatch (tag : Byte)
  | restart (tag : Byte)
  | pulseRead (tag : Byte)
  | legOn (tag : Byte) (leg : Byte) (reach : BitVec 16)
  | legOff (tag : Byte) (leg : Byte)
  | legSet (tag : Byte) (leg : Byte) (settings : WireLegSet)
  | legStatus (tag : Byte) (leg : Byte)
  | setReach (tag : Byte) (leg : Byte) (reach : BitVec 16)
  | announceSet (tag : Byte) (leg : Byte) (host : Vector Byte 40)
  | enrolAdd (tag : Byte) (entry : WireEnrol)
  | enrolRemove (tag : Byte) (serial : Serial)
  | enrolRead (tag : Byte) (serial : Serial)
  | strangerRead (tag : Byte) (leg : Byte) (clear : Byte)
  | admitDrop (tag : Byte) (leg drop : Byte)
  | dismiss (tag : Byte) (leg drop : Byte)
  | dropRead (tag : Byte) (leg drop : Byte)
  | laneAdd (tag : Byte) (leg drop port cls : Byte) (first second : BitVec 16)
  | laneChange (tag : Byte) (leg lane cls port : Byte) (first second : BitVec 16)
  | laneRemove (tag : Byte) (leg lane : Byte)
  | laneRead (tag : Byte) (leg lane : Byte)
  | mapRead (tag : Byte) (leg : Byte)
  | windowStats (tag : Byte) (leg : Byte)
  | sleep (tag : Byte) (leg drop : Byte) (interval : BitVec 16)
  | wake (tag : Byte) (leg drop : Byte)
  | rogueSet (tag : Byte) (leg : Byte) (settings : WireRogue)
  | rogueArm (tag : Byte) (leg : Byte)
  | rogueDisarm (tag : Byte) (leg : Byte)
  | rogueRead (tag : Byte) (leg : Byte)
  | release (tag : Byte) (leg drop : Byte)
  | bandSet (tag : Byte) (band : Byte) (whenKind : Byte) (cycle : BitVec 32) (round : BitVec 16)
  | bandQuotaSet (tag : Byte) (flags : Byte)
  | bandRead (tag : Byte)
  | quotaSet (tag : Byte) (account : BitVec 32) (quota : BitVec 64)
  | periodSet (tag : Byte) (length : BitVec 16)
  | closePeriod (tag : Byte) (mask : Byte)
  | journalRead (tag : Byte) (count mode : Byte)
  | journalRelease (tag : Byte) (seq : BitVec 32)
  | journalWatermark (tag : Byte) (level : BitVec 16)
  | meterRead (tag : Byte) (leg drop : Byte)
  | laserFaultReleased (leg : Leg)
deriving DecidableEq, Repr

/-- The request a command stands for, with its tag; `none` for the rows that are no request. -/
def Instr.request? : Instr → Option (Byte × Request)
  | .identify t => some (t, .identify)
  | .status t => some (t, .status)
  | .portSet t m k => some (t, .portSet m k)
  | .clearLatch t => some (t, .clearLatch)
  | .restart t => some (t, .restart)
  | .pulseRead t => some (t, .pulseRead)
  | .legOn t l r => some (t, .legOn l r)
  | .legOff t l => some (t, .legOff l)
  | .legSet t l v => some (t, .legSet l v)
  | .legStatus t l => some (t, .legStatus l)
  | .setReach t l r => some (t, .setReach l r)
  | .announceSet t l h => some (t, .announceSet l h)
  | .enrolAdd t e => some (t, .enrolAdd e)
  | .enrolRemove t x => some (t, .enrolRemove x)
  | .enrolRead t x => some (t, .enrolRead x)
  | .strangerRead t l c => some (t, .strangerRead l c)
  | .admitDrop t l d => some (t, .admitDrop l d)
  | .dismiss t l d => some (t, .dismiss l d)
  | .dropRead t l d => some (t, .dropRead l d)
  | .laneAdd t l d p c f g => some (t, .laneAdd l d p c f g)
  | .laneChange t l n c p f g => some (t, .laneChange l n c p f g)
  | .laneRemove t l n => some (t, .laneRemove l n)
  | .laneRead t l n => some (t, .laneRead l n)
  | .mapRead t l => some (t, .mapRead l)
  | .windowStats t l => some (t, .windowStats l)
  | .sleep t l d i => some (t, .sleep l d i)
  | .wake t l d => some (t, .wake l d)
  | .rogueSet t l v => some (t, .rogueSet l v)
  | .rogueArm t l => some (t, .rogueArm l)
  | .rogueDisarm t l => some (t, .rogueDisarm l)
  | .rogueRead t l => some (t, .rogueRead l)
  | .release t l d => some (t, .release l d)
  | .bandSet t b k c r => some (t, .bandSet b k c r)
  | .bandQuotaSet t f => some (t, .bandQuotaSet f)
  | .bandRead t => some (t, .bandRead)
  | .quotaSet t a q => some (t, .quotaSet a q)
  | .periodSet t n => some (t, .periodSet n)
  | .closePeriod t m => some (t, .closePeriod m)
  | .journalRead t c m => some (t, .journalRead c m)
  | .journalRelease t q => some (t, .journalRelease q)
  | .journalWatermark t v => some (t, .journalWatermark v)
  | .meterRead t l d => some (t, .meterRead l d)
  | .pinReset | .lockReached | .lossOfLock | .pulseCapture | .laserFaultAsserted _ | .roundBoundary
  | .announcementBlockBoundary | .cycleBoundary | .preparingEnd _ | .retimingEnd _ | .faultRecovery _
  | .lostHoldExpiry _ _ | .discoveryDue _ | .wakeCheckDue _ _ | .echoWaitResendDue _ _ | .orderFailed _ _
  | .orderRetry _ | .suspectTimeout _ | .holdoffExpiry _ | .grantedWindowEnd _ _ | .missedCountLimit _ _
  | .outOfBandRunLimit _ _ _ | .discoveryWindowEnd _ _ _ | .rangingWindowEnd _ _ | .receiveRoundEnd _ _
  | .spanEnd _ _ | .stepReading _ _ | .downstreamFrameArrival _ _ | .writeTransactionEnd _
  | .badOpcodeTransaction _ | .readOpcode | .readTransactionEnd _ | .takeRequest | .heldCloseWrite
  | .retiringVacated _ _ | .legDrained _ | .laserFaultReleased _ => none

end Sys2Proof
end

