-- ==== Sys2Proof/Decode.lean ====
section
/-! DEFINITION. The command a word of the opcode table spells. The table gives its rows no bits: the part has no instruction words. What it
does decode, the records of the control port, stands in Machine/Operands.lean. -/

namespace Sys2Proof

/-- No row of spec/opcode_table.json has bits, so no word spells a command (log 29). -/
def decodeTableWord (_nbits _w : Nat) : Option Instr := none

end Sys2Proof
end

