-- ==== Sys2Proof/Machine/State.lean ====
section
/-! DEFINITION. The state of the part as plain data, and `State.reset`, the part after a pin reset.
Each record is one of the manual's; its docstring names the rule that gives it. Nothing here
computes: the operations stand in the other files of Machine/. -/

namespace Sys2Proof.Machine

/-! ### Timebase (R1 to R4) -/

/-- The part state of R2. -/
inductive PartState where
  | locking | ready
deriving DecidableEq, Repr

/-- A pulse capture (R3). -/
structure Capture where
  stamp : Stamp
  beat  : Nat
deriving DecidableEq, Repr

/-- The Timebase: counters (R1), part state (R2), pulse ring and capture count (R3). `everLocked` says that
the part has locked since the pin reset, which the first-lock flag of R204 reports. -/
structure Timebase where
  part       : PartState
  everLocked : Bool
  beat       : Nat
  round      : Nat
  cycle      : Nat
  ring       : List Capture
  captures   : Nat
deriving DecidableEq, Repr

/-! ### Leg Controller (R5 to R17, R155 to R161) -/

/-- The six leg states of 1.6. -/
inductive LegState where
  | off | preparing | on | retiming | draining | fault
deriving DecidableEq, Repr

/-- Why a leg is in FAULT (R14). -/
inductive FaultCause where
  | laser | clock
deriving DecidableEq, Repr

/-- The leg settings of R6. -/
structure LegSettings where
  reach        : Nat
  discovery    : Nat
  trimLow      : Nat
  trimHigh     : Nat
  upThrottle   : Nat
  downThrottle : Nat
  lostHold     : Nat
deriving DecidableEq, Repr

/-- The Leg Controller's record of its leg: state, rounds remaining in PREPARING or RETIMING (R10, R11), fault cause,
settings, the laser enable TXEN (R158), the level of the LASER_FAULT input, and whether that input has been
active at any moment of the round in progress (R16). -/
structure LegControl where
  state      : LegState
  roundsLeft : Nat
  cause      : Option FaultCause
  settings   : LegSettings
  txen       : Bool
  laserFault : Bool
  faultSeen  : Bool
deriving DecidableEq, Repr

/-! ### Drop table and enrolment (R18 to R39) -/

/-- The eleven drop states of 2.2. -/
inductive DropState where
  | vacant | found | ranging | trimming | awaiting | serving | dormant | hushed | quarantined | lost | retiring
deriving DecidableEq, Repr

/-- Why an entry is LOST (2.1). -/
inductive LostReason where
  | silent | power | outOfReach | legFault | noRanging
deriving DecidableEq, Repr

/-- Why an entry is RETIRING (2.1). -/
inductive RetireReason where
  | dismissed | holdExpired | drain
deriving DecidableEq, Repr

/-- The reason field of a drop entry (2.1). -/
inductive Reason where
  | lost (r : LostReason)
  | rogue
  | retire (r : RetireReason)
deriving DecidableEq, Repr

/-- The origin field of a drop entry (2.1); REUSED saves the lost hold and the LOST reason (R29). -/
inductive Origin where
  | new
  | reused (hold : Nat) (reason : LostReason)
  | released
deriving DecidableEq, Repr

/-- Why an entry is AWAITING (R73). -/
inductive AwaitingCause where
  | approval | lanes
deriving DecidableEq, Repr

/-- The resume state of a HUSHED entry (R36), with its hold and reason when that state is LOST. The MODEL's own marks:
`changed`, the resume state was changed by the echo of a SLEEP or a WAKE (R121, R127), so that the
return makes the changes those rules list; `stepHeld`, the echo of a trim step was heard from an entry hushed in trim, whose
outstanding step and trim count R70 holds until it returns (log 38). -/
structure Resume where
  state    : DropState
  hold     : Option Nat
  reason   : Option Reason
  changed  : Bool
  stepHeld : Bool
deriving DecidableEq, Repr

/-- A drop entry with the fields of 2.1; `none` is "absent". -/
structure DropEntry where
  state           : DropState
  since           : Stamp
  serial          : Option Serial
  enrolRef        : Option (Fin 512)
  origin          : Option Origin
  rtt             : Option Nat
  eqd             : Option Nat
  power           : Nat
  level           : Option Nat
  missed          : Nat
  outOfBand       : Nat
  trimCount       : Nat
  rangingAttempts : Nat
  marginal        : Bool
  awaitingCause   : Option AwaitingCause
  resume          : Option Resume
  reason          : Option Reason
  hold            : Option Nat
  wakeInterval    : Option Nat
  wakeCount       : Option Nat
  cleanSinceWake  : Bool
  sleepCancelled  : Bool
  noBurst         : Nat
  nextEcho        : Fin 16
deriving DecidableEq, Repr

/-- The figures of a lane or of a lane template, by class (R79). -/
inductive LaneFigures where
  | fixed (beats : Nat)
  | assured (rate peak : Nat)
  | surplus (weight peak : Nat)
deriving DecidableEq, Repr

/-- The approval mode of an enrolment entry (R20). -/
inductive ApprovalMode where
  | auto | hold
deriving DecidableEq, Repr

/-- An entry of the enrolment list (R20); `allowed` is `none` for ANY. -/
structure EnrolEntry where
  serial    : Serial
  allowed   : Option Leg
  account   : Nat
  mode      : ApprovalMode
  quota     : Nat
  templates : List LaneFigures
  binding   : Option (Leg × Drop)
deriving DecidableEq, Repr

/-- Why a serial is a stranger (R25). -/
inductive StrangerWhy where
  | unknown | wrongLeg
deriving DecidableEq, Repr

/-- A stranger list entry (R25). -/
structure Stranger where
  serial     : Serial
  why        : StrangerWhy
  firstHeard : Stamp
  lastHeard  : Stamp
  times      : Nat
deriving DecidableEq, Repr

/-- The discovery schedule of a leg (R58). -/
structure DiscoverySchedule where
  roundsSince : Nat
  neverPlaced : Bool
  quickRetry  : Bool
deriving DecidableEq, Repr

/-- The kinds of order an owed-order list item may name (R67); STEP_POWER with its step. -/
inductive OwedKind where
  | setDelay
  | stepPower (step : Int)
  | bindLanes
deriving DecidableEq, Repr

/-- An item of the owed-order list (R67). -/
structure OwedItem where
  drop : Drop
  kind : OwedKind
deriving DecidableEq, Repr

/-! ### Orders (R40 to R55) -/

/-- The ten order kinds of 3.1. -/
inductive OrderKind where
  | setDelay | shiftDelay | stepPower | bindLanes | sleep | wake | hushSet | unhushAll | mute | dismiss
deriving DecidableEq, Repr

/-- An order with its arguments (3.1). The arguments of SET_DELAY and BIND_LANES are fixed at the first send
(R41) and are `none` until then. -/
inductive Order where
  | setDelay (eqd : Option Nat)
  | shiftDelay (delta : Int) (id : Nat)
  | stepPower (step : Int)
  | bindLanes (lanes : Option (List (Fin 4 × Fin 256)))
  | sleep (interval : Nat)
  | wake
  | hushSet (set : List Drop) (duration : Nat)
  | unhushAll
  | mute
  | dismiss
deriving DecidableEq, Repr

/-- The priority of an order (R42). -/
inductive Priority where
  | urgent | normal | low
deriving DecidableEq, Repr

/-- An entry of the order queue (R42); `target` is `none` for ALL, `awaiting` is the state AWAITING_ECHO. The MODEL's
own marks: `binds`, the lanes that the echo of a BIND_LANES still frees (R53: "lanes created after the order's first
send stay BINDING"); `forStep`, the broadcast of the monitor's present step (R142). -/
structure OrderEntry where
  order    : Order
  target   : Option Drop
  priority : Priority
  seq      : Option (Fin 16)
  sends    : Nat
  lastSent : Option Nat
  waited   : Nat
  retry    : Bool
  awaiting : Bool
  binds    : List (Fin 256)
  forStep  : Bool
deriving DecidableEq, Repr

/-- An order place of a downstream header (R41). -/
structure OrderPlace where
  order  : Order
  target : Option Drop
  seq    : Option (Fin 16)
deriving DecidableEq, Repr

/-! ### Lanes and the grant map (R79 to R102) -/

/-- The lane states of R80. -/
inductive LaneState where
  | binding | active | suspended
deriving DecidableEq, Repr

/-- A lane record (R79); its number is its place in the table. `credit` is present for ASSURED only; `lastGrant` is the round and the
beats. -/
structure Lane where
  owner     : Drop
  port      : Fin 4
  figures   : LaneFigures
  credit    : Option Nat
  backlog   : Nat
  lastGrant : Option (Nat × Nat)
  state     : LaneState
deriving DecidableEq, Repr

/-- The kinds of tail window (R89, R90). -/
inductive WindowKind where
  | probe | ranging | discovery | watch
deriving DecidableEq, Repr

/-- A tail window: its kind and its length W; it starts at 8,000 − W (R89). -/
structure TailWindow where
  kind   : WindowKind
  length : Nat
deriving DecidableEq, Repr

/-- A ranging entry (R62, R156); `rerange` is the kind RERANGE, else ASSIGN; `beat` is its grant beat (R63). -/
structure RangingEntry where
  serial  : Serial
  drop    : Drop
  rerange : Bool
  beat    : Nat
deriving DecidableEq, Repr

/-- A segment of a burst (R89). -/
structure Segment where
  port  : Fin 4
  lane  : Fin 256
  beats : Nat
deriving DecidableEq, Repr

/-- A burst of a grant map (R89). -/
structure Burst where
  drop     : Drop
  start    : Nat
  length   : Nat
  segments : List Segment
deriving DecidableEq, Repr

/-- A grant map (R89) with the summary figures MAP_READ reports (R102). -/
structure GrantMap where
  round         : Stamp
  empty         : Bool
  window        : Option TailWindow
  ranging       : Option RangingEntry
  invitation    : Option Nat
  bursts        : List Burst
  fixedBeats    : Nat
  assuredBeats  : Nat
  surplusBeats  : Nat
  idleBeats     : Nat
  refused       : List Drop
  pointerBefore : Drop
  pointerAfter  : Drop
deriving DecidableEq, Repr

/-- A map in flight at the Burst Receiver (R103) with the reach span that governs its receive frame (R5) and what the receiver has
judged of it: how many burst windows have ended, their MISFIT and qualifying GARBLED counts (R116), whether the tail window has
reported. `reachChanged` says that a SET_REACH was accepted after the map was built (R66 case 3). -/
structure InFlight where
  map          : GrantMap
  reach        : Nat
  judged       : Nat
  misfit       : Nat
  garbled      : Nat
  windowDone   : Bool
  reachChanged : Bool
deriving DecidableEq, Repr

/-- The tail-window requests made at the last boundary (R90); a ranging request names its drop (R62). -/
structure WindowRequests where
  probe     : Bool
  ranging   : Option Drop
  discovery : Bool
  watch     : Bool
deriving DecidableEq, Repr

/-! ### Burst Receiver (R103 to R117) -/

/-- The outcomes of a granted burst window (R104). -/
inductive WindowOutcome where
  | clean | misfit | garbled | silent
deriving DecidableEq, Repr

/-- The last unit fault of a window history (R106): set or clear, and the stamp at which it was last reported set. -/
structure UnitFault where
  set     : Bool
  lastSet : Option Stamp
deriving DecidableEq, Repr

/-- The window history of a drop index (R106), with both measures of R105: the delimiter offset and the level code (log 34). -/
structure History where
  recent   : List WindowOutcome
  offset   : Option Int
  level    : Option Nat
  fault    : Option UnitFault
  cleanRun : Nat
deriving DecidableEq, Repr

/-- The window statistics of a leg (R117). -/
structure WindowStats where
  clean             : Nat
  misfit            : Nat
  garbled           : Nat
  silent            : Nat
  unitFaults        : Nat
  upDiscarded       : Nat
  announces         : Nat
  garbledWindows    : Nat
  rangingReplies    : Nat
  rangingNoReplies  : Nat
  downDiscarded     : Nat
  cleared           : Stamp
deriving DecidableEq, Repr

/-- A frame the head puts on the uplink: its tag (11.10, R209) and its data. -/
structure UplinkFrame where
  tag  : BitVec 32
  data : List Byte
deriving DecidableEq, Repr

/-! ### Rogue Monitor (R130 to R154) -/

/-- The six monitor states. -/
inductive MonitorState where
  | disarmed | watching | suspect | hunting | verifying | holdoff
deriving DecidableEq, Repr

/-- The combination mode of R131. -/
inductive Combination where
  | any | all
deriving DecidableEq, Repr

/-- The reference mode of R131. -/
inductive ReferenceMode where
  | fixed | tracking
deriving DecidableEq, Repr

/-- The four signature figures STRAY, CLASH, TAIL, GLOW: thresholds (R131) or span counts (R134). -/
structure Signatures where
  stray : Nat
  clash : Nat
  tail  : Nat
  glow  : Nat
deriving DecidableEq, Repr

/-- The eleven monitor settings of R131 (four thresholds, then the other ten fields of the table). -/
structure MonitorSettings where
  thresholds    : Signatures
  combination   : Combination
  referenceMode : ReferenceMode
  watchSpan     : Nat
  strayBeatMin  : Nat
  tailLimit     : Nat
  glowMargin    : Nat
  confirmGap    : Nat
  confirmWindow : Nat
  probeSpan     : Nat
  holdOff       : Nat
deriving DecidableEq, Repr

/-- A span in progress (R130, R133); `countFrom` is the first round whose report it counts. -/
structure Span where
  position    : Nat
  learning    : Bool
  counts      : Signatures
  sampleSum   : Nat
  sampleCount : Nat
  tailDrop    : Option Drop
  mixed       : Bool
  countFrom   : Stamp
deriving DecidableEq, Repr

/-- The kinds of probe step (R146, R147). -/
inductive StepKind where
  | control | fullHush | split | verify | finalControl
deriving DecidableEq, Repr

/-- The current step of a hunt or a check (R130, R142): `firstObs` is its first observation round, known once its
broadcast has gone out; `suspectTails` counts the suspect's long tails in its observation rounds (R147). -/
structure ProbeStep where
  kind         : StepKind
  number       : Nat
  set          : List Drop
  elapsed      : Nat
  read         : Nat
  lit          : Nat
  suspectTails : Nat
  firstObs     : Option Stamp
deriving DecidableEq, Repr

/-- A verdict (R130). -/
inductive VerdictKind where
  | confirmed (drop : Drop)
  | unattributed
  | inconclusive
deriving DecidableEq, Repr

/-- The last verdict with its stamp and step count (R130). -/
structure Verdict where
  kind  : VerdictKind
  stamp : Stamp
  steps : Nat
deriving DecidableEq, Repr

/-- An order the monitor has asked for and that found no room (R43): the HUSH_SET or UNHUSH_ALL of its step (with
the drop the UNHUSH_ALL keeps HUSHED, R146), a MUTE (R148), or the UNHUSH_ALL of a verdict or a disarming. -/
inductive MonitorAsk where
  | stepHush (set : List Drop) (duration : Nat)
  | stepUnhush (keep : Option Drop)
  | mute (drop : Drop)
  | unhush
deriving DecidableEq, Repr

/-- The Rogue Monitor's record (R130). `keptCounts` are the confirming span's counts kept with a check (R141);
`owedLearning` says that the span which begins
when the leg returns to ON is a learning span (R133). -/
structure Monitor where
  state        : MonitorState
  settings     : MonitorSettings
  relearn      : Bool
  span         : Option Span
  owedLearning : Bool
  reference    : Option Nat
  suspicion    : Option Stamp
  suspectDrop  : Option Drop
  candidates   : Option (List Drop)
  step         : Option ProbeStep
  keptCounts   : Option Signatures
  holdOffLeft  : Option Nat
  lastVerdict  : Option Verdict
  asks         : List MonitorAsk
deriving DecidableEq, Repr

/-! ### Downstream Queue (R162 to R166) -/

/-- A frame of the FIFO (R162); `surplus` is the class SURPLUS, else ASSURED. -/
structure Frame where
  drop    : Drop
  surplus : Bool
  data    : List Byte
deriving DecidableEq, Repr

/-- The downstream header of a round (R156). -/
structure RoundHeader where
  round      : Nat
  band       : Fin 4
  announce   : Byte
  invitation : Option Nat
  ranging    : Option RangingEntry
  orders     : List OrderPlace
  bursts     : List Burst
deriving DecidableEq, Repr

/-- A downstream round: its header and the frames of its payload in order (R155, R157); what each byte time of the payload carries, the fill
behind the last frame with it, is DownstreamRound.payloadAt. -/
structure DownstreamRound where
  header : RoundHeader
  frames : List Frame
deriving DecidableEq, Repr

/-! ### Usage meters and journal (R167 to R190) -/

/-- The four flags of a meter (R167). -/
structure MeterFlags where
  outage    : Bool
  throttled : Bool
  saturated : Bool
  extended  : Bool
deriving DecidableEq, Repr

/-- The causes of a close (R179). -/
inductive CloseCause where
  | period | host | retire | drain | restart
deriving DecidableEq, Repr

/-- A meter (R167). `pending` is the pending close of a HELD meter; a meter is OPEN when it is `none`. -/
structure Meter where
  account   : Nat
  start     : Stamp
  up        : Vector Nat 4
  down      : Vector Nat 4
  shed      : Nat
  quotaUsed : Nat
  overQuota : Bool
  flags     : MeterFlags
  pending   : Option (CloseCause × Stamp)
deriving DecidableEq, Repr

/-- A journal entry (R186). -/
structure JournalEntry where
  seq     : Nat
  account : Nat
  leg     : Leg
  drop    : Drop
  start   : Stamp
  stop    : Stamp
  up      : Vector Nat 4
  down    : Vector Nat 4
  shed    : Nat
  cause   : CloseCause
  flags   : MeterFlags
deriving DecidableEq, Repr

/-- The usage journal (R186 to R189). -/
structure Journal where
  entries   : List JournalEntry
  nextSeq   : Nat
  cursor    : Nat
  watermark : Nat
  armed     : Bool
deriving DecidableEq, Repr

/-- An entry of the band schedule (R172). -/
structure BandEntry where
  band     : Fin 4
  boundary : Stamp
deriving DecidableEq, Repr

/-! ### One leg, and all blocks -/

/-- Everything the part holds for one leg. -/
structure LegRecord where
  control     : LegControl
  block       : Vector Byte 64
  hostBytes   : Vector Byte 40
  sending     : Option DownstreamRound
  drops       : Vector DropEntry 128
  strangers   : List Stranger
  schedule    : DiscoverySchedule
  owed        : List OwedItem
  orders      : List OrderEntry
  lastEcho    : Vector (Option (Fin 16)) 128
  lanes       : Vector (Option Lane) 256
  pointer     : Drop
  keptMap     : Option GrantMap
  requests    : WindowRequests
  inFlight    : List InFlight
  histories   : Vector History 128
  stats       : WindowStats
  uplink      : List UplinkFrame
  monitor     : Monitor
  fifo        : List Frame
  allowance   : Vector Nat 128
  meters      : Vector (Option Meter) 128
deriving DecidableEq, Repr

/-- The blocks of the part other than the Control Port. -/
structure Blocks where
  time       : Timebase
  legs       : Vector LegRecord 4
  enrol      : Vector (Option EnrolEntry) 512
  band       : Fin 4
  quotaBands : Vector Bool 4
  bandPlan   : List BandEntry
  period     : Nat
  hostClose  : Vector Bool 4
  journal    : Journal
deriving DecidableEq, Repr

/-! ### Control Port (R191 to R209) -/

/-- The status codes of 11.5. -/
inductive Status where
  | ok | busy | range | full | absent | duplicate | queueFull | notReady | room | ceiling | latched | unknownKind | length
deriving DecidableEq, Repr

/-- The causes of a bad record or an overrun (R193, R194). -/
inductive PortCause where
  | opcode | short | length | long | crc | overrun
deriving DecidableEq, Repr

/-- The bad-record log (R193). -/
structure BadLog where
  cause : PortCause
  stamp : Stamp
  count : Nat
  bytes : List Byte
deriving DecidableEq, Repr

/-- What became of a drop whose order failed (R51, R52). -/
inductive FailOutcome where
  | lost (reason : LostReason)
  | marginal
  | retried
  | serving
  | unchanged
deriving DecidableEq, Repr

/-- Where a third failed ranging leaves an entry (R65). -/
inductive RangingOutcome where
  | vacant | lost
deriving DecidableEq, Repr

/-- Why a ranging attempt failed (R65). -/
inductive RangingCause where
  | noReply | outOfReach
deriving DecidableEq, Repr

/-- The fields a notice carries after its opening (11.6, 11.10), by its kind. -/
inductive NoticeBody where
  | ready (firstLock : Bool)
  | legState (state : LegState) (cause : Option FaultCause)
  | stranger (serial : Serial) (why : StrangerWhy)
  | clash (serial : Serial) (boundLeg : Leg) (boundDrop : Drop)
  | tableFull (serial : Serial)
  | dropState (state : DropState) (since : Stamp) (reason : Option Reason) (awaiting : Option AwaitingCause) (marginal : Option Bool)
  | awaiting (serial : Option Serial) (account : Option Nat) (cause : AwaitingCause) (marginal : Bool)
  | rangingFailed (serial : Option Serial) (origin : Option Origin) (outcome : RangingOutcome) (cause : RangingCause)
  | orderFailed (kind : OrderKind) (seq : Option (Fin 16)) (outcome : FailOutcome)
  | rogueSuspect (state : MonitorState) (counts : Signatures) (suspect : Option Drop)
  | rogueConfirmed (serial : Option Serial) (fromVerifying : Bool) (steps : Nat)
  | rogueUnattributed (step : StepKind) (steps : Nat)
  | rogueInconclusive (step : StepKind) (steps : Nat)
  | quotaReached (account quota used : Nat)
  | bandChanged (before now : Fin 4)
  | journalLevel (count watermark : Nat) (oldest : Option Nat) (held : Nat)
  | journalHeld (account : Nat) (cause : CloseCause) (held : Nat)
  | pulse (capture : Capture)
  | portError (cause : PortCause) (bad overrun : Nat) (latched : Bool)
deriving DecidableEq, Repr

/-- A notice: its leg and drop fields (`none` is NONE), the stamp at which it was raised, and the rest of its body. -/
structure Notice where
  leg   : Option Leg
  drop  : Option Drop
  stamp : Stamp
  body  : NoticeBody
deriving DecidableEq, Repr

/-- The figures of a LEG_STATUS reply (R8). -/
structure LegStatusReply where
  state      : LegState
  roundsLeft : Option Nat
  cause      : Option FaultCause
  settings   : LegSettings
  delay      : Nat
  txen       : Bool
  laserFault : Bool
  nonVacant  : Nat
  retiring   : Nat
deriving DecidableEq, Repr

/-- The figures of a STATUS reply (R203). -/
structure StatusReply where
  part        : PartState
  stamp       : Stamp
  legs        : Vector LegState 4
  latched     : Bool
  persistent  : Bool
  bad         : Nat
  overrun     : Nat
  log         : Option BadLog
  noticesLost : Bool
  replies     : Nat
  notices     : Nat
  inbound     : Nat
deriving DecidableEq, Repr

/-- The figures of a ROGUE_READ reply (R153); a field absent in the monitor's state is `none`. -/
structure RogueReply where
  state       : MonitorState
  settings    : MonitorSettings
  relearn     : Bool
  span        : Option (Nat × Bool × Signatures × Option (Drop × Bool))
  reference   : Option Nat
  suspicion   : Option (Stamp × Nat)
  candidates  : Option (List Drop)
  suspectDrop : Option Drop
  step        : Option (StepKind × Nat × List Drop × Nat × Nat × Nat)
  holdOffLeft : Option Nat
  lastVerdict : Option Verdict
deriving DecidableEq, Repr

/-- A burst as MAP_READ summarises it (R102). -/
structure BurstSummary where
  drop        : Drop
  start       : Nat
  length      : Nat
  hasSegments : Bool
deriving DecidableEq, Repr

/-- The summary of a map that a MAP_READ reply carries (R102); `window` is the tail window's kind, start and length. -/
structure MapReply where
  round         : Nat
  empty         : Bool
  window        : Option (WindowKind × Nat × Nat)
  ranging       : Option Drop
  burstCount    : Nat
  fixedBeats    : Nat
  assuredBeats  : Nat
  surplusBeats  : Nat
  overheadBeats : Nat
  idleBeats     : Nat
  refused       : List Drop
  pointerBefore : Drop
  pointerAfter  : Drop
  bursts        : List BurstSummary
deriving DecidableEq, Repr

/-- The body of a reply after its status byte, by the request it answers; `none` where it holds nothing more. -/
inductive ReplyBody where
  | none
  | unknownKind (kind : Byte)
  | identify (code revision generation legs drops enrol lanes orders journal : Nat) (part : PartState)
  | status (r : StatusReply)
  | portSet (persistent : Bool) (mask : BitVec 32)
  | clearLatch (latched : Bool) (bad overrun : Nat) (log : Option BadLog)
  | restart (written removed unreleased nextSeq : Nat)
  | pulseRead (captures : Nat) (ring : List Capture)
  | legSet (settings : LegSettings)
  | legStatus (r : LegStatusReply)
  | setReach (delta : Int) (lost : Nat)
  | stamp (s : Stamp)
  | enrolAdd (position : Fin 512)
  | enrolRead (position : Fin 512) (entry : EnrolEntry) (count : Nat)
  | strangers (list : List Stranger)
  | dropRead (drop : Drop) (entry : DropEntry) (history : History) (owed : List OwedItem)
  | laneAdd (lane : Fin 256)
  | laneChange (lane : Fin 256) (record : Lane)
  | laneRead (lane : Fin 256) (record : Lane) (overQuota : Bool) (fixedSum fixedDrops fixedLimit : Nat)
  | mapRead (leg : Leg) (map : Option MapReply)
  | windowStats (stats : WindowStats)
  | sleep (interval : Nat)
  | rogueSet (settings : MonitorSettings)
  | rogueRead (r : RogueReply)
  | bandSet (boundary : Stamp) (entries : Nat)
  | bandQuotaSet (flags : Vector Bool 4)
  | bandRead (band : Fin 4) (flags : Vector Bool 4) (plan : List BandEntry) (next : Stamp)
  | quotaSet (quota : Nat) (meter : Option (Nat × Bool))
  | periodSet (next : Option Nat)
  | journalRead (unreleased ahead held : Nat) (entries : List JournalEntry)
  | journalRelease (released written unreleased : Nat) (oldest : Option Nat) (held : Nat)
  | watermark (level unreleased : Nat)
  | meterRead (leg : Leg) (drop : Drop) (meter : Meter) (quota : Option Nat) (bandCounts : Bool)
deriving DecidableEq, Repr

/-- A reply record (R195). -/
structure Reply where
  kind   : Byte
  tag    : Byte
  status : Status
  body   : ReplyBody
deriving DecidableEq, Repr

/-- What a record of the outbound queue holds. -/
inductive OutContent where
  | reply (r : Reply)
  | notice (n : Notice)
deriving DecidableEq, Repr

/-- A record of the outbound queue, with its in-transfer mark (R192, R196). -/
structure OutRecord where
  content    : OutContent
  inTransfer : Bool
deriving DecidableEq, Repr

/-- A good record in the inbound buffer, with its latched mark (R194). -/
structure InRecord where
  kind    : Byte
  tag     : Byte
  body    : List Byte
  latched : Bool
deriving DecidableEq, Repr

/-- The Control Port: inbound buffer, outbound queue, error state, port settings, the notices-lost flag, and the two lines
(`attn` and `alert` are true while the line is driven low, R198). -/
structure Port where
  inbound     : List InRecord
  outbound    : List OutRecord
  bad         : Nat
  overrun     : Nat
  log         : Option BadLog
  latch       : Bool
  persistent  : Bool
  mask        : BitVec 32
  noticesLost : Bool
  attn        : Bool
  alert       : Bool
deriving DecidableEq, Repr

/-- The whole part, and the queue of commands that wait (first in, first out). -/
structure State where
  blocks  : Blocks
  port    : Port
  pending : List Instr
deriving DecidableEq, Repr

/-- The part has no fault that stops it: every refusal of a request is a reply, and a leg's FAULT and the port's
latch are states. No meaning raises a fault. -/
inductive Fault where
deriving DecidableEq, Repr

/-- Why a command may have no meaning. -/
inductive Refusal where
  /-- Raised only by an arm of `exec` for a row that has no meaning yet (none has this answer now). Safe: the
  machine stops, and nothing can be proved of what it would do. -/
  | notModelled (mnemonic : String)
deriving DecidableEq, Repr

/-! ### The part after a pin reset -/

/-- A VACANT entry as R18 gives it, since the stamp `t`. -/
def DropEntry.vacant (t : Stamp) : DropEntry where
  state := .vacant
  since := t
  serial := none
  enrolRef := none
  origin := none
  rtt := none
  eqd := none
  power := 16
  level := none
  missed := 0
  outOfBand := 0
  trimCount := 0
  rangingAttempts := 0
  marginal := false
  awaitingCause := none
  resume := none
  reason := none
  hold := none
  wakeInterval := none
  wakeCount := none
  cleanSinceWake := false
  sleepCancelled := false
  noBurst := 0
  nextEcho := 0

/-- The leg settings after a pin reset (R6). -/
def LegSettings.reset : LegSettings where
  reach := 6250
  discovery := 256
  trimLow := 96
  trimHigh := 160
  upThrottle := 125
  downThrottle := 2000
  lostHold := 1

/-- The empty window history (R106). -/
def History.empty : History where
  recent := []
  offset := none
  level := none
  fault := none
  cleanRun := 0

/-- Window statistics cleared at the stamp `t` (R117). -/
def WindowStats.zero (t : Stamp) : WindowStats where
  clean := 0
  misfit := 0
  garbled := 0
  silent := 0
  unitFaults := 0
  upDiscarded := 0
  announces := 0
  garbledWindows := 0
  rangingReplies := 0
  rangingNoReplies := 0
  downDiscarded := 0
  cleared := t

/-- A cleared discovery schedule (R58). -/
def DiscoverySchedule.cleared : DiscoverySchedule where
  roundsSince := 0
  neverPlaced := true
  quickRetry := false

/-- The monitor settings after a pin reset (R131). -/
def MonitorSettings.reset : MonitorSettings where
  thresholds := ⟨4, 4, 2, 4⟩
  combination := .any
  referenceMode := .fixed
  watchSpan := 32
  strayBeatMin := 4
  tailLimit := 2
  glowMargin := 12
  confirmGap := 256
  confirmWindow := 4096
  probeSpan := 16
  holdOff := 4

/-- A DISARMED monitor with the settings, relearn flag and last verdict given; every field of the armed states is
absent (R130). -/
def Monitor.disarmed (settings : MonitorSettings) (relearn : Bool) (last : Option Verdict) : Monitor where
  state := .disarmed
  settings := settings
  relearn := relearn
  span := none
  owedLearning := false
  reference := none
  suspicion := none
  suspectDrop := none
  candidates := none
  step := none
  keptCounts := none
  holdOffLeft := none
  lastVerdict := last
  asks := []

/-- No tail-window request. -/
def WindowRequests.none : WindowRequests where
  probe := false
  ranging := .none
  discovery := false
  watch := false

/-- The CRC-8 of leg `l`'s announcement block with band 0, cycle 0 and host bytes of value 0, by R208's generator
(bytes 0 to 62 are the leg number and 62 zeros). -/
def blockResetCrc (l : Leg) : Byte := (#v[0x00, 0xB3, 0x61, 0xD2] : Vector Byte 4)[l]

/-- The announcement block of leg `l` after a pin reset: composed as at a block boundary with band 0 and cycle 0 (R159). -/
def blockReset (l : Leg) : Vector Byte 64 :=
  ((Vector.replicate 64 (0 : Byte)).set 0 (BitVec.ofNat 8 l.val)).set 63 (blockResetCrc l)

/-- Leg `l` after a pin reset (R17), its LASER_FAULT input inactive (DESIGN CHOICE, log 16). -/
def LegRecord.reset (l : Leg) : LegRecord where
  control :=
    { state := .off, roundsLeft := 0, cause := none, settings := LegSettings.reset, txen := false, laserFault := false,
      faultSeen := false }
  block := blockReset l
  hostBytes := Vector.replicate 40 0
  sending := none
  drops := Vector.replicate 128 (DropEntry.vacant ⟨0, 0⟩)
  strangers := []
  schedule := DiscoverySchedule.cleared
  owed := []
  orders := []
  lastEcho := Vector.replicate 128 none
  lanes := Vector.replicate 256 none
  pointer := 0
  keptMap := none
  requests := WindowRequests.none
  inFlight := []
  histories := Vector.replicate 128 History.empty
  stats := WindowStats.zero ⟨0, 0⟩
  uplink := []
  monitor := Monitor.disarmed MonitorSettings.reset false none
  fifo := []
  allowance := Vector.replicate 128 2000
  meters := Vector.replicate 128 none

/-- The journal after a pin reset (R186, R187, R189). -/
def Journal.reset : Journal where
  entries := []
  nextSeq := 1
  cursor := 1
  watermark := 768
  armed := true

/-- The blocks after a pin reset. -/
def Blocks.reset : Blocks where
  time := { part := .locking, everLocked := false, beat := 0, round := 0, cycle := 0, ring := [], captures := 0 }
  legs := #v[LegRecord.reset 0, LegRecord.reset 1, LegRecord.reset 2, LegRecord.reset 3]
  enrol := Vector.replicate 512 none
  band := 0
  quotaBands := Vector.replicate 4 true
  bandPlan := []
  period := 0
  hostClose := Vector.replicate 4 false
  journal := Journal.reset

/-- The Control Port after a pin reset (R193, R194, R196 to R201, R204): the routing mask holds LEG_STATE (0xE1),
ROGUE_CONFIRMED (0xEA), JOURNAL_LEVEL (0xEF), JOURNAL_HELD (0xF0) and PORT_ERROR (0xF2). -/
def Port.reset : Port where
  inbound := []
  outbound := []
  bad := 0
  overrun := 0
  log := none
  latch := false
  persistent := false
  mask := 0x00058402#32
  noticesLost := false
  attn := false
  alert := false

/-- The part right after a pin reset, with no command waiting. -/
def State.reset : State where
  blocks := Blocks.reset
  port := Port.reset
  pending := []

end Sys2Proof.Machine
end

