-- ==== Sys2Proof/Machine/Crc.lean ====
section
/-! DEFINITION. The two checks of R208: CRC-16 of a port record and CRC-8 of an announcement block. -/

namespace Sys2Proof.Machine

/-- One bit of the CRC-8: the register moves left, and the generator x^8 + x^2 + x + 1 is taken off if a one leaves it (R208). -/
def crc8Bit (r : BitVec 8) : BitVec 8 := if r.msb then (r <<< 1) ^^^ 0x07#8 else r <<< 1

/-- A byte taken into the CRC-8, most significant bit first (R208). -/
def crc8Byte (r : BitVec 8) (b : Byte) : BitVec 8 :=
  crc8Bit (crc8Bit (crc8Bit (crc8Bit (crc8Bit (crc8Bit (crc8Bit (crc8Bit (r ^^^ b))))))))

/-- The CRC-8 of some bytes; the register starts at 0x00 (R208). -/
def crc8 (bs : List Byte) : Byte := bs.foldl crc8Byte 0x00#8

/-- One bit of the CRC-16, with the generator x^16 + x^12 + x^5 + 1 (R208). -/
def crc16Bit (r : BitVec 16) : BitVec 16 := if r.msb then (r <<< 1) ^^^ 0x1021#16 else r <<< 1

/-- A byte taken into the CRC-16, most significant bit first (R208). -/
def crc16Byte (r : BitVec 16) (b : Byte) : BitVec 16 :=
  crc16Bit (crc16Bit (crc16Bit (crc16Bit (crc16Bit (crc16Bit (crc16Bit (crc16Bit
    (r ^^^ (b.setWidth 16 <<< 8)))))))))

/-- The CRC-16 of some bytes; the register starts at 0xFFFF (R208). -/
def crc16 (bs : List Byte) : BitVec 16 := bs.foldl crc16Byte 0xFFFF#16

end Sys2Proof.Machine
end

