-- ==== Sys2Proof/Machine/Ops.lean ====
section
/-! DEFINITION. The named operations every block shares: stamps, reading and writing one leg, drop, lane or meter,
raising and placing notices (R197), serving a request (R195), and what an event of the part is. -/

namespace Sys2Proof

/-! ### Stamps (R1) -/

/-- The number of rounds from (0, 0) to a stamp. -/
def Stamp.index (s : Stamp) : Nat := s.cycle * 4096 + s.round

/-- The stamp a number of rounds after (0, 0); the cycle wraps at 2^32 (R1). -/
def Stamp.ofIndex (n : Nat) : Stamp := ⟨n / 4096 % 4294967296, n % 4096⟩

/-- The stamp `n` rounds later. -/
def Stamp.plus (s : Stamp) (n : Nat) : Stamp := Stamp.ofIndex (s.index + n)

/-- The stamp of the next round. -/
def Stamp.next (s : Stamp) : Stamp := s.plus 1

/-- Stamps are compared by cycle first, then by round (00_scope 4.1). -/
def Stamp.le (a b : Stamp) : Bool := a.cycle < b.cycle || (a.cycle == b.cycle && a.round ≤ b.round)

/-- The rounds from `a` to a later stamp `b`, through a wrap of the cycle counter (log 20). -/
def Stamp.roundsTo (a b : Stamp) : Nat := (b.index + 17592186044416 - a.index) % 17592186044416

/-- The round `a` is not after the round `b`, through a wrap of the cycle counter: less than half the 2^44 rounds of the counters lie
from `a` to `b` (log 20). -/
def Stamp.notAfter (a b : Stamp) : Bool := a.roundsTo b < 8796093022208

/-- The first announcement-block boundary after the start of the round `s` (R1, R172). -/
def Stamp.nextBlock (s : Stamp) : Stamp := Stamp.ofIndex ((s.index / 64 + 1) * 64)

/-- Every leg, in ascending order. -/
def allLegs : List Leg := List.finRange 4

/-- Every drop index, in ascending order. -/
def allDrops : List Drop := List.finRange 128

/-- Every lane number, in ascending order. -/
def allLanes : List (Fin 256) := List.finRange 256

namespace Machine

/-! ### The work of one event

An event changes the blocks and raises notices; the notices are placed in the outbound queue when it ends, behind the
reply if it answers a request (R195). `stamp` is the stamp of the event (R1). -/

/-- The blocks under work, the stamp of the event, and the notices raised so far, oldest first. -/
structure Work where
  blocks : Blocks
  stamp  : Stamp
  raised : List Notice

/-- The stamp the counters hold (R1). -/
def Blocks.now (b : Blocks) : Stamp := ⟨b.time.cycle, b.time.round⟩

/-- The work of an event taken now. -/
def Work.start (b : Blocks) : Work := ⟨b, b.now, []⟩

/-- The work of an event taken at the boundary that ends the round in progress; it carries the stamp of the round that the
boundary begins (R1; log 2). -/
def Work.atNextBoundary (b : Blocks) : Work := ⟨b, b.now.next, []⟩

/-- The record of leg `l`. -/
def Work.leg (w : Work) (l : Leg) : LegRecord := w.blocks.legs[l]

/-- Leg `l`'s record changed by `f`. -/
def Work.mapLeg (w : Work) (l : Leg) (f : LegRecord → LegRecord) : Work :=
  { w with blocks := { w.blocks with legs := w.blocks.legs.set l.val (f (w.leg l)) } }

/-- The entry of drop `d` on leg `l`. -/
def Work.drop (w : Work) (l : Leg) (d : Drop) : DropEntry := (w.leg l).drops[d]

/-- The entry of drop `d` on leg `l` changed by `f`. -/
def Work.mapDrop (w : Work) (l : Leg) (d : Drop) (f : DropEntry → DropEntry) : Work :=
  w.mapLeg l fun r => { r with drops := r.drops.set d.val (f r.drops[d]) }

/-- The meter of drop `d` on leg `l`, if it has one. -/
def Work.meter (w : Work) (l : Leg) (d : Drop) : Option Meter := (w.leg l).meters[d]

/-- The meter of drop `d` on leg `l` set. -/
def Work.setMeter (w : Work) (l : Leg) (d : Drop) (m : Option Meter) : Work :=
  w.mapLeg l fun r => { r with meters := r.meters.set d.val m }

/-- Leg `l`'s control record changed. -/
def Work.mapControl (w : Work) (l : Leg) (f : LegControl → LegControl) : Work :=
  w.mapLeg l fun r => { r with control := f r.control }

/-- Leg `l`'s monitor changed. -/
def Work.mapMonitor (w : Work) (l : Leg) (f : Monitor → Monitor) : Work :=
  w.mapLeg l fun r => { r with monitor := f r.monitor }

/-- Leg `l`'s window statistics changed. -/
def Work.mapStats (w : Work) (l : Leg) (f : WindowStats → WindowStats) : Work :=
  w.mapLeg l fun r => { r with stats := f r.stats }

/-- The journal changed. -/
def Work.mapJournal (w : Work) (f : Journal → Journal) : Work :=
  { w with blocks := { w.blocks with journal := f w.blocks.journal } }

/-- The enrolment entry at a position changed. -/
def Work.mapEnrol (w : Work) (i : Fin 512) (f : EnrolEntry → EnrolEntry) : Work :=
  { w with blocks := { w.blocks with enrol := w.blocks.enrol.set i.val (w.blocks.enrol[i].map f) } }

/-- A notice raised, with the stamp of the event (R197, 11.10). -/
def Work.raise (w : Work) (leg : Option Leg) (drop : Option Drop) (body : NoticeBody) : Work :=
  { w with raised := w.raised ++ [⟨leg, drop, w.stamp, body⟩] }

/-- An operation for each drop of a list, in the list's order. -/
def forDrops (ds : List Drop) (f : Drop → Work → Work) (w : Work) : Work := ds.foldl (fun w d => f d w) w

/-- An operation for each leg, in ascending order. -/
def forLegs (f : Leg → Work → Work) (w : Work) : Work := allLegs.foldl (fun w l => f l w) w

/-- A 32-bit statistics count one higher; it stays at its limit (R117). -/
def bump32 (n : Nat) : Nat := min (n + 1) 4294967295

/-- A count `k` higher that stays at `limit`. -/
def saturate (limit n k : Nat) : Nat := min (n + k) limit

/-- Bytes in beats, rounded up (00_scope 4.2). -/
def beatsOf (bytes : Nat) : Nat := (bytes + 3) / 4

/-- A value clamped to the nearer end of a range. -/
def clamp (low high n : Nat) : Nat := max low (min high n)

/-- The band counter of band `b` changed. -/
def mapBand (v : Vector Nat 4) (b : Fin 4) (f : Nat → Nat) : Vector Nat 4 := v.set b.val (f v[b])

/-! ### Drop entries -/

/-- The drops of leg `r` whose entry meets `p`, in ascending order. -/
def LegRecord.dropsWhere (r : LegRecord) (p : DropEntry → Bool) : List Drop := allDrops.filter fun d => p r.drops[d]

/-- Drops whose unit the head hears in service: the states in which a missed burst counts (R30). -/
def DropState.heard : DropState → Bool
  | .trimming | .awaiting | .serving | .dormant => true
  | _ => false

/-- An entry's state changed, with its since-stamp (R18). -/
def Work.setState (w : Work) (l : Leg) (d : Drop) (st : DropState) : Work :=
  w.mapDrop l d fun e => { e with state := st, since := w.stamp }

/-- The DROP_STATE notice of R19 for the entry as it stands; `marginal` is given where trim ended (R71). -/
def Work.raiseDropState (w : Work) (l : Leg) (d : Drop) (marginal : Option Bool := none) : Work :=
  let e := w.drop l d
  w.raise (some l) (some d) (.dropState e.state e.since e.reason e.awaitingCause marginal)

/-- The counts, the next echo sequence and the flags an entry resets on entry to FOUND (R28, R29, R152). -/
def DropEntry.resetCounts (e : DropEntry) : DropEntry :=
  { e with
    missed := 0, outOfBand := 0, trimCount := 0, rangingAttempts := 0, noBurst := 0, nextEcho := 0,
    marginal := false, cleanSinceWake := false, sleepCancelled := false }

/-! ### Lanes of a drop (R80 to R82) -/

/-- Every lane of drop `d` on leg `l` changed. -/
def Work.mapLanesOf (w : Work) (l : Leg) (d : Drop) (f : Lane → Lane) : Work :=
  w.mapLeg l fun r => { r with lanes := r.lanes.map fun o => o.map fun x => if x.owner = d then f x else x }

/-- A lane entering SUSPENDED loses its backlog (R82); a lane already SUSPENDED keeps the report it has. -/
def Lane.suspend (x : Lane) : Lane :=
  if x.state = .suspended then x else { x with state := .suspended, backlog := 0 }

/-- The owner enters SERVING: a SUSPENDED lane becomes ACTIVE (R80). -/
def Lane.ownerServes (x : Lane) : Lane := if x.state = .suspended then { x with state := .active } else x

/-- The owner leaves SERVING: an ACTIVE lane becomes SUSPENDED (R80). -/
def Lane.ownerLeaves (x : Lane) : Lane := if x.state = .active then x.suspend else x

/-- The owner enters a state other than SERVING or HUSHED: the credit goes to 0 (R81). -/
def Lane.noCredit (x : Lane) : Lane := { x with credit := x.credit.map fun _ => 0 }

/-- The owner enters LOST or QUARANTINED: the lane is SUSPENDED, BINDING or not, without credit (R80, R81). -/
def Lane.ownerGone (x : Lane) : Lane := x.suspend.noCredit

/-- A lane put back in BINDING at a re-admission (R74). -/
def Lane.rebind (x : Lane) : Lane := { x with state := .binding }

/-- The lane numbers of drop `d`, in ascending order. -/
def LegRecord.lanesOf (r : LegRecord) (d : Drop) : List (Fin 256) :=
  allLanes.filter fun n => match r.lanes[n] with | some x => x.owner = d | none => false

/-- The lane of drop `d` on local port `p`, with its number. -/
def LegRecord.laneAt (r : LegRecord) (d : Drop) (p : Fin 4) : Option (Fin 256 × Lane) :=
  allLanes.findSome? fun n =>
    match r.lanes[n] with
    | some x => if x.owner = d ∧ x.port = p then some (n, x) else none
    | none => none

/-! ### The order queue (R40 to R44, R54) -/

/-- The kind of an order. -/
def Order.kind : Order → OrderKind
  | .setDelay _ => .setDelay
  | .shiftDelay _ _ => .shiftDelay
  | .stepPower _ => .stepPower
  | .bindLanes _ => .bindLanes
  | .sleep _ => .sleep
  | .wake => .wake
  | .hushSet _ _ => .hushSet
  | .unhushAll => .unhushAll
  | .mute => .mute
  | .dismiss => .dismiss

/-- The five echoed kinds (R40). -/
def OrderKind.echoed : OrderKind → Bool
  | .setDelay | .stepPower | .bindLanes | .sleep | .wake => true
  | _ => false

/-- The priority of a kind (R40). -/
def OrderKind.priority : OrderKind → Priority
  | .shiftDelay | .hushSet | .unhushAll | .mute => .urgent
  | .stepPower => .low
  | .setDelay | .bindLanes | .sleep | .wake | .dismiss => .normal

/-- The count of copies of a repeated kind (R48). -/
def OrderKind.copies : OrderKind → Nat
  | .shiftDelay | .mute => 3
  | _ => 2

/-- A new entry in state QUEUED (R42). -/
def OrderEntry.queued (o : Order) (target : Option Drop) : OrderEntry where
  order := o
  target := target
  priority := o.kind.priority
  seq := none
  sends := 0
  lastSent := none
  waited := 0
  retry := false
  awaiting := false
  binds := []
  forStep := false

/-- The NORMAL and LOW entries in use (R43). -/
def plainCount (q : List OrderEntry) : Nat := (q.filter fun e => e.priority != .urgent).length

/-- A NORMAL or LOW entry may be queued while fewer than 40 are in use, and there is a place (R43). -/
def plainRoom (q : List OrderEntry) : Bool := plainCount q < 40 && q.length < 48

/-- An URGENT entry may take any free place of the 48 (R43). -/
def urgentRoom (q : List OrderEntry) : Bool := q.length < 48

/-- An entry queued at the tail. -/
def Work.queueOrder (w : Work) (l : Leg) (e : OrderEntry) : Work :=
  w.mapLeg l fun r => { r with orders := r.orders ++ [e] }

/-- Some entry of kind `k` addressed to `d`. -/
def hasOrder (q : List OrderEntry) (d : Drop) (k : OrderKind) : Bool :=
  q.any fun e => e.target == some d && e.order.kind == k

/-- Some entry of kind `k` addressed to `d` in state QUEUED. -/
def hasQueued (q : List OrderEntry) (d : Drop) (k : OrderKind) : Bool :=
  q.any fun e => e.target == some d && e.order.kind == k && !e.awaiting

/-- Some entry of kind `k` addressed to `d` in state AWAITING_ECHO. -/
def hasAwaiting (q : List OrderEntry) (d : Drop) (k : OrderKind) : Bool :=
  q.any fun e => e.target == some d && e.order.kind == k && e.awaiting

/-- Every entry of kind `k` addressed to `d` removed, without failure outcome. -/
def Work.removeOrders (w : Work) (l : Leg) (d : Drop) (k : OrderKind) : Work :=
  w.mapLeg l fun r => { r with orders := r.orders.filter fun e => !(e.target == some d && e.order.kind == k) }

/-- The purge of R54, with what else leaves by R67 when the drop leaves service: every queued and awaiting order addressed
to the drop, its owed orders, and a MUTE the monitor still asks for. -/
def Work.purge (w : Work) (l : Leg) (d : Drop) : Work :=
  w.mapLeg l fun r =>
    { r with
      orders := r.orders.filter fun e => e.target != some d
      owed := r.owed.filter fun i => i.drop != d
      monitor := { r.monitor with asks := r.monitor.asks.filter fun a => a != .mute d } }

/-- Whether an order of the kind of an owed item is owed to `d` already (R67: at most one item per drop and kind). -/
def OwedItem.sameKind (i : OwedItem) (d : Drop) (k : OwedKind) : Bool :=
  i.drop == d &&
    match i.kind, k with
    | .setDelay, .setDelay => true
    | .stepPower _, .stepPower _ => true
    | .bindLanes, .bindLanes => true
    | _, _ => false

/-- The order an owed item stands for; its arguments are fixed at the first send (R41). -/
def OwedKind.order : OwedKind → Order
  | .setDelay => .setDelay none
  | .stepPower s => .stepPower s
  | .bindLanes => .bindLanes none

/-- An order the Enrolment Controller generates for a drop: a BIND_LANES is absorbed by a queued one (R44), an order with
room is queued (R43), any other goes to the owed-order list (R67). -/
def Work.generate (w : Work) (l : Leg) (d : Drop) (k : OwedKind) : Work :=
  if k == .bindLanes && hasQueued (w.leg l).orders d .bindLanes then w
  else if plainRoom (w.leg l).orders then w.queueOrder l (.queued k.order (some d))
  else if (w.leg l).owed.any fun i => i.sameKind d k then w
  else w.mapLeg l fun r => { r with owed := r.owed ++ [⟨d, k⟩] }

/-- Whether a STEP_POWER to the drop is in the order queue or the owed-order list (R70). -/
def LegRecord.stepOutstanding (r : LegRecord) (d : Drop) : Bool :=
  hasOrder r.orders d .stepPower || r.owed.any fun i => i.sameKind d (.stepPower 0)

/-! ### Enrolment lookups (R20 to R24) -/

/-- The position of the first enrolment entry that meets `p`. -/
def Blocks.enrolWhere (b : Blocks) (p : EnrolEntry → Bool) : Option (Fin 512) :=
  (List.finRange 512).find? fun i => match b.enrol[i] with | some e => p e | none => false

/-- The enrolment entry of a bound drop entry. -/
def Work.enrolOf (w : Work) (l : Leg) (d : Drop) : Option EnrolEntry :=
  match (w.drop l d).enrolRef with
  | some i => w.blocks.enrol[i]
  | none => none

/-- The number of entries in the enrolment list. -/
def Blocks.enrolCount (b : Blocks) : Nat := (b.enrol.toList.filter Option.isSome).length

/-! ### Notices in the outbound queue (R196 to R198) -/

/-- The place of a notice kind: its KIND is 0xE0 plus this (11.6). -/
def NoticeBody.place : NoticeBody → Nat
  | .ready _ => 0
  | .legState _ _ => 1
  | .stranger _ _ => 2
  | .clash _ _ _ => 3
  | .tableFull _ => 4
  | .dropState _ _ _ _ _ => 5
  | .awaiting _ _ _ _ => 6
  | .rangingFailed _ _ _ _ => 7
  | .orderFailed _ _ _ => 8
  | .rogueSuspect _ _ _ => 9
  | .rogueConfirmed _ _ _ => 10
  | .rogueUnattributed _ _ => 11
  | .rogueInconclusive _ _ => 12
  | .quotaReached _ _ _ => 13
  | .bandChanged _ _ => 14
  | .journalLevel _ _ _ _ => 15
  | .journalHeld _ _ _ => 16
  | .pulse _ => 17
  | .portError _ _ _ _ => 18

/-- Two notices that share a place in the queue: the same kind, leg and drop fields (R197). -/
def Notice.samePlace (m n : Notice) : Bool := m.body.place == n.body.place && m.leg == n.leg && m.drop == n.drop

/-- Whether a record holds a notice that `n` would update in place (R197 case 1). -/
def OutRecord.updatedBy (r : OutRecord) (n : Notice) : Bool :=
  match r.content with
  | .notice m => !r.inTransfer && m.samePlace n
  | .reply _ => false

/-- The queue with the notice nearest the tail that `n` updates replaced by `n`; `none` if there is none (R197 case 1). -/
def coalesce (n : Notice) : List OutRecord → Option (List OutRecord)
  | [] => none
  | r :: rs =>
    match coalesce n rs with
    | some rs' => some (r :: rs')
    | none => if r.updatedBy n then some ({ r with content := .notice n } :: rs) else none

/-- Whether a record holds a notice. -/
def OutRecord.isNotice (r : OutRecord) : Bool :=
  match r.content with
  | .notice _ => true
  | .reply _ => false

/-- The notices in a queue. -/
def noticeCount (q : List OutRecord) : Nat := (q.filter OutRecord.isNotice).length

/-- A notice placed: coalesced, appended, or discarded with the notices-lost flag set (R197). -/
def placeNotice (p : Port) (n : Notice) : Port :=
  match coalesce n p.outbound with
  | some q => { p with outbound := q }
  | none =>
    if noticeCount p.outbound < 28 && p.outbound.length < 32 then
      { p with outbound := p.outbound ++ [⟨.notice n, false⟩] }
    else { p with noticesLost := true }

/-- Whether a record is a notice whose kind is set in the routing mask (R198). -/
def OutRecord.routed (mask : BitVec 32) (r : OutRecord) : Bool :=
  match r.content with
  | .notice n => mask.getLsbD n.body.place
  | .reply _ => false

/-- ATTN_N and ALERT_N judged afresh (R198). -/
def judgeLines (p : Port) : Port :=
  { p with attn := !p.outbound.isEmpty, alert := p.outbound.any (OutRecord.routed p.mask) }

/-- The notices of an event placed in the order in which they were raised, and the lines judged. -/
def placeAll (p : Port) (ns : List Notice) : Port := judgeLines (ns.foldl placeNotice p)

/-! ### Events and requests -/

/-- An event of the part: the work `f` on the blocks, its notices placed. -/
def event (f : Work → Work) (s : State) : State :=
  let w := f (Work.start s.blocks)
  { s with blocks := w.blocks, port := placeAll s.port w.raised }

/-- An event taken at the boundary that ends the round in progress. -/
def boundaryEvent (f : Work → Work) (s : State) : State :=
  let w := f (Work.atNextBoundary s.blocks)
  { s with blocks := w.blocks, port := placeAll s.port w.raised }

/-- What a block answers to a request: status, the body after the status byte (for OK), and the state it leaves. -/
structure Answer where
  status : Status
  body   : ReplyBody
  port   : Port
  work   : Work

/-- A request as its owning block executes it. -/
abbrev Handler := Port → Work → Answer

/-- A refusal: the status alone, and no effect (11.3). -/
def Answer.refuse (st : Status) (p : Port) (w : Work) : Answer := ⟨st, .none, p, w⟩

/-- An OK answer with its body. -/
def Answer.ok (body : ReplyBody) (p : Port) (w : Work) : Answer := ⟨.ok, body, p, w⟩

/-- A reply queued at the tail, if the request wants one (R195, R196). -/
def queueReply (p : Port) (kind tag : Byte) (st : Status) (body : ReplyBody) : Port :=
  if tag = 0 then p else { p with outbound := p.outbound ++ [⟨.reply ⟨kind, tag, st, body⟩, false⟩] }

/-- The reply of a request enters the queue before the notices its execution raises (R195). -/
def Answer.deliver (a : Answer) (kind tag : Byte) (s : State) : State :=
  { s with
    blocks := a.work.blocks
    port := placeAll (queueReply a.port (kind + 0x80) tag a.status a.body) a.work.raised }

/-- A request's reply has a place (R195). -/
def hasPlace (p : Port) (tag : Byte) : Bool := tag == 0 || p.outbound.length < 32

/-- A request is answered LATCHED: it carries the latched mark and is neither STATUS nor CLEAR_LATCH (R195), or it is a RESTART and the
latch is set now, whatever its mark (R199; DEDUCED, unsafe: log 35). A PORT_SET follows its mark as every other request does, R201's
last sentence notwithstanding (DEDUCED, unsafe: log 35). -/
def answersLatched (kind : Byte) (mark latch : Bool) : Bool :=
  mark && !(kind == 0x02 || kind == 0x04) || kind == 0x05 && latch

/-- The checks of R195 on a request of a known kind and length: LATCHED, then the LOCKING part (not for IDENTIFY and STATUS); then its
owner executes it. -/
def handOver (kind tag : Byte) (mark : Bool) (h : Handler) (s : State) : State :=
  let w := Work.start s.blocks
  if answersLatched kind mark s.port.latch then (Answer.refuse .latched s.port w).deliver kind tag s
  else if s.blocks.time.part == .locking && !(kind == 0x01 || kind == 0x02) then
    (Answer.refuse .notReady s.port w).deliver kind tag s
  else (h s.port w).deliver kind tag s

/-- A request given as a command: it is taken now if its reply has a place (R195), as a record that arrives now would be, with
the latched mark of a port that is latched (R194); with no place for its reply it is not taken (log 6). -/
def serve (kind tag : Byte) (h : Handler) (s : State) : Host.Outcome State Fault Refusal :=
  .next (if hasPlace s.port tag then handOver kind tag s.port.latch h s else s)

/-- A request on a leg: RANGE for a leg number above 3. -/
def onLeg (leg : Byte) (h : Leg → Handler) : Handler := fun p w =>
  match toLeg? leg with
  | some l => h l p w
  | none => .refuse .range p w

/-- A request on a drop: RANGE for a leg number above 3 or a drop index above 127. -/
def onDrop (leg drop : Byte) (h : Leg → Drop → Handler) : Handler := fun p w =>
  match toLeg? leg, toDrop? drop with
  | some l, some d => h l d p w
  | _, _ => .refuse .range p w

end Machine

end Sys2Proof
end

