-- ==== Sys2Proof/Machine/Meters.lean ====
section
/-! DEFINITION. Charging meters, judging quotas, closing meters into the journal (R167 to R186, R189): the operations of the
Usage Meter Unit that other blocks call. -/

namespace Sys2Proof.Machine

/-- The limit of a band or shed counter (R167). -/
def counterLimit : Nat := 1099511627775

/-- The limit of quota used (R167). -/
def quotaLimit : Nat := 18446744073709551615

/-- All four flags clear. -/
def MeterFlags.clear : MeterFlags := ⟨false, false, false, false⟩

/-- A meter holds usage when any of its eight band counters or its shed counter is above 0 (R167). -/
def Meter.usage (m : Meter) : Bool := m.up.any (· > 0) || m.down.any (· > 0) || m.shed > 0

/-- A meter opened at the stamp `t` (R168). -/
def Meter.opened (account : Nat) (t : Stamp) : Meter where
  account := account
  start := t
  up := Vector.replicate 4 0
  down := Vector.replicate 4 0
  shed := 0
  quotaUsed := 0
  overQuota := false
  flags := MeterFlags.clear
  pending := none

/-- A meter after a continuing close was written: a new period from `t`, OPEN, the outage flag as R170 requires (R179). -/
def Meter.restarted (m : Meter) (t : Stamp) (outage : Bool) : Meter :=
  { Meter.opened m.account t with flags := { MeterFlags.clear with outage := outage } }

/-- An ending close (R179). -/
def CloseCause.ending : CloseCause → Bool
  | .period | .host => false
  | .retire | .drain | .restart => true

/-- Room in the journal (10.4, R186). -/
def Journal.room (j : Journal) : Bool := j.entries.length < 1024 && j.nextSeq ≤ 4294967295

/-- The sequence of the oldest unreleased entry. -/
def Journal.oldest (j : Journal) : Option Nat := j.entries.head?.map JournalEntry.seq

/-- The number of HELD meters in the unit. -/
def Blocks.heldCount (b : Blocks) : Nat :=
  (b.legs.toList.map fun r => (r.meters.toList.filter fun o => o.any fun m => m.pending.isSome).length).sum

/-- The JOURNAL_LEVEL notice judged: armed and at or above the watermark raises it and disarms; below the watermark arms
(R189). -/
def Work.judgeLevel (w : Work) : Work :=
  let j := w.blocks.journal
  if j.entries.length < j.watermark then w.mapJournal fun j => { j with armed := true }
  else if j.armed then
    (w.mapJournal fun j => { j with armed := false }).raise none none
      (.journalLevel j.entries.length j.watermark j.oldest w.blocks.heldCount)
  else w

/-- One journal entry written for a meter (R186), and the watermark judged. A JOURNAL_LEVEL notice raised by the close of a HELD meter
still counts that meter among the HELD ones (DESIGN CHOICE, unsafe: log 50). -/
def Work.writeEntry (w : Work) (l : Leg) (d : Drop) (m : Meter) (cause : CloseCause) : Work :=
  (w.mapJournal fun j =>
    { j with
      entries := j.entries ++
        [{ seq := j.nextSeq, account := m.account, leg := l, drop := d, start := m.start, stop := w.stamp, up := m.up,
           down := m.down, shed := m.shed, cause := cause, flags := m.flags }]
      nextSeq := j.nextSeq + 1 }).judgeLevel

/-- Whether the outage flag is set again at once by a continuing close (R170). -/
def DropEntry.outOfService (e : DropEntry) : Bool :=
  e.state == .lost || e.state == .quarantined || (e.state == .hushed && e.resume.any fun r => r.state == .lost)

/-- What follows a written close: a continuing one restarts the meter, an ending one removes it (R179). -/
def Work.afterWritten (w : Work) (l : Leg) (d : Drop) (m : Meter) (cause : CloseCause) : Work :=
  if cause.ending then w.setMeter l d none
  else w.setMeter l d (some (m.restarted w.stamp (w.drop l d).outOfService))

/-- A close of the meter of a drop taken now with cause `C` (R179, R182): the new state, and whether an ending close is
complete. A HELD meter takes only an ending close (R182 case 5). -/
def Work.closeMeter (w : Work) (l : Leg) (d : Drop) (cause : CloseCause) : Work × Bool :=
  match w.meter l d with
  | none => (w, cause.ending)
  | some m =>
    match m.pending with
    | some (was, t) =>
      if cause.ending && !was.ending then
        if m.usage then (w.setMeter l d (some { m with pending := some (cause, t) }), false)
        else (w.setMeter l d none, true)
      else (w, false)
    | none =>
      if !cause.ending && !m.usage && m.flags == MeterFlags.clear then
        (w.setMeter l d (some { m with start := w.stamp }), false)
      else if cause.ending && !m.usage then (w.setMeter l d none, true)
      else if w.blocks.journal.room then ((w.writeEntry l d m cause).afterWritten l d m cause, cause.ending)
      else
        let w' := w.setMeter l d
          (some { m with pending := some (cause, w.stamp), flags := { m.flags with extended := true } })
        (w'.raise (some l) (some d) (.journalHeld m.account cause w'.blocks.heldCount), false)

/-- The quota of an account, as its enrolment entry holds it (R176). -/
def Blocks.quotaOf (b : Blocks) (account : Nat) : Option Nat :=
  match b.enrolWhere fun e => e.account == account with
  | some i => (b.enrol[i]).map EnrolEntry.quota
  | none => none

/-- A meter judged against its quota: reaching it sets the over-quota mark and the throttled flag and raises QUOTA_REACHED
(R176). -/
def Work.judgeQuota (w : Work) (l : Leg) (d : Drop) : Work :=
  match w.meter l d with
  | none => w
  | some m =>
    match w.blocks.quotaOf m.account with
    | none => w
    | some q =>
      if q > 0 && m.quotaUsed ≥ q && !m.overQuota then
        (w.setMeter l d (some { m with overQuota := true, flags := { m.flags with throttled := true } })).raise
          (some l) (some d) (.quotaReached m.account q m.quotaUsed)
      else w

/-- A charge of bytes in one direction (`up`, else down) in band `b` (R169): the counter and the saturated flag, then quota
used if the band counts, then the quota. -/
def Work.charge (w : Work) (l : Leg) (d : Drop) (up : Bool) (bytes : Nat) (b : Fin 4) : Work :=
  match w.meter l d with
  | none => w
  | some m =>
    let old := if up then m.up[b] else m.down[b]
    let m := if up then { m with up := mapBand m.up b fun n => saturate counterLimit n bytes }
      else { m with down := mapBand m.down b fun n => saturate counterLimit n bytes }
    let m := if old + bytes > counterLimit then { m with flags := { m.flags with saturated := true } } else m
    let m := if w.blocks.quotaBands[b] then { m with quotaUsed := saturate quotaLimit m.quotaUsed bytes } else m
    (w.setMeter l d (some m)).judgeQuota l d

/-- A shed frame's bytes added to the shed counter (R165, R169). -/
def Work.shedBytes (w : Work) (l : Leg) (d : Drop) (bytes : Nat) : Work :=
  match w.meter l d with
  | none => w
  | some m =>
    let m' := { m with shed := saturate counterLimit m.shed bytes }
    w.setMeter l d
      (some (if m.shed + bytes > counterLimit then { m' with flags := { m'.flags with saturated := true } } else m'))

/-- The outage flag of a drop's meter, if it has one (R32, R148, R170). -/
def Work.outage (w : Work) (l : Leg) (d : Drop) : Work :=
  match w.meter l d with
  | none => w
  | some m => w.setMeter l d (some { m with flags := { m.flags with outage := true } })

/-- A meter opened for a drop that enters SERVING without one (R168). -/
def Work.openMeter (w : Work) (l : Leg) (d : Drop) : Work :=
  match w.meter l d, w.enrolOf l d with
  | none, some e => w.setMeter l d (some (Meter.opened e.account w.stamp))
  | _, _ => w

/-- Whether a drop is over quota now. -/
def Work.overQuota (w : Work) (l : Leg) (d : Drop) : Bool := (w.meter l d).any Meter.overQuota

end Sys2Proof.Machine
end

