-- ==== Sys2Proof/Machine/Transitions.lean ====
section
/-! DEFINITION. The shared changes of a leg's and a drop's state: entering SERVING, LOST, RETIRING, VACANT and QUARANTINED, the return
from HUSHED, the end of a hunt, and lane creation and admission (R13, R24, R32 to R36, R54, R73 to R75, R80, R83, R87, R125,
R145, R148, R149). -/

namespace Sys2Proof.Machine

/-! ### Legs -/

/-- A leg's state changed, with its LEG_STATE notice (R8). -/
def Work.setLeg (w : Work) (l : Leg) (st : LegState) (cause : Option FaultCause := none) (roundsLeft : Nat := 0) : Work :=
  (w.mapControl l fun c => { c with state := st, cause := cause, roundsLeft := roundsLeft }).raise (some l) none
    (.legState st cause)

/-- The last non-VACANT entry of a DRAINING leg became VACANT: the leg enters OFF (R13). -/
def Work.drained (w : Work) (l : Leg) : Work :=
  if (w.leg l).control.state == .draining && (w.leg l).drops.all (fun e => e.state == .vacant) then w.setLeg l .off
  else w

/-! ### Vacancy and service -/

/-- An entry becomes VACANT: its binding is cleared on both sides (R24), it takes the values of R18, its last echo heard becomes
NONE (R42), its window history is emptied (R106), its owed orders leave (R67); a DRAINING leg may then be drained. -/
def Work.vacate (w : Work) (l : Leg) (d : Drop) : Work :=
  let w := match (w.drop l d).enrolRef with
    | some i => w.mapEnrol i fun e => { e with binding := none }
    | none => w
  let w := w.mapDrop l d fun _ => DropEntry.vacant w.stamp
  let w := w.mapLeg l fun r =>
    { r with
      lastEcho := r.lastEcho.set d.val none
      histories := r.histories.set d.val History.empty
      owed := r.owed.filter fun i => i.drop != d }
  (w.raiseDropState l d).drained l

/-- An entry enters SERVING: out-of-band run 0 (R72), SUSPENDED lanes ACTIVE (R80), a meter opened if it has none (R168). -/
def Work.toServing (w : Work) (l : Leg) (d : Drop) : Work :=
  let w := w.mapDrop l d fun e =>
    { e with state := .serving, since := w.stamp, outOfBand := 0, awaitingCause := none, origin := none, resume := none }
  (w.mapLanesOf l d Lane.ownerServes).openMeter l d

/-- A DORMANT entry returns to SERVING, with the changes of R125. -/
def Work.wakeUp (w : Work) (l : Leg) (d : Drop) : Work :=
  let w := (w.toServing l d).mapDrop l d fun e =>
    { e with wakeInterval := none, wakeCount := none, cleanSinceWake := false }
  (w.removeOrders l d .wake).raiseDropState l d

/-- A HUSHED entry returns to its resume state with its fields as they stood (R36, R144); where an order's echo changed the resume
state, with the changes of R121 or R125 (log 13), and a trim step held while it was HUSHED is counted (R70, R71; log 38). A return to FOUND is
no entry to FOUND of R42 and R106: window history and last echo heard stay (DEDUCED, unsafe: log 56). -/
def Work.unhushDrop (w : Work) (l : Leg) (d : Drop) : Work :=
  match (w.drop l d).resume with
  | none => w
  | some r =>
    if r.state == .serving then
      if r.changed then w.wakeUp l d else w.toServing l d
    else
      let w := w.mapDrop l d fun e =>
        { e with
          state := r.state, since := w.stamp, resume := none, hold := r.hold, reason := r.reason
          trimCount := if r.stepHeld then min (e.trimCount + 1) 6 else e.trimCount }
      let w := w.mapLanesOf l d Lane.noCredit
      if r.changed then w.raiseDropState l d else w

/-- The HUSHED drops of a leg. -/
def Work.hushedDrops (w : Work) (l : Leg) : List Drop := (w.leg l).dropsWhere fun e => e.state == .hushed

/-- Every HUSHED entry of the leg but `keep` returns to its resume state. -/
def Work.unhushAll (w : Work) (l : Leg) (keep : Option Drop) : Work :=
  forDrops ((w.hushedDrops l).filter fun d => some d != keep) (fun d w => w.unhushDrop l d) w

/-! ### The end of a hunt -/

/-- The monitor's record without what a hunt, a check, a suspicion or a span holds. -/
def Monitor.idle (m : Monitor) (st : MonitorState) : Monitor :=
  { m with
    state := st, span := none, suspicion := none, suspectDrop := none, candidates := none, step := none, keptCounts := none,
    holdOffLeft := none }

/-- An ask of the monitor's present step. -/
def MonitorAsk.ofStep : MonitorAsk → Bool
  | .stepHush _ _ | .stepUnhush _ => true
  | _ => false

/-- The asks of a step that is over are dropped (log 15). -/
def Work.dropStepAsks (w : Work) (l : Leg) : Work :=
  w.mapMonitor l fun m => { m with asks := m.asks.filter fun a => !a.ofStep }

/-- An UNHUSH_ALL queued at URGENT priority, or asked for again if the queue has no free place (R43, R149, R150). -/
def Work.queueUnhush (w : Work) (l : Leg) : Work :=
  if urgentRoom (w.leg l).orders then w.queueOrder l (.queued .unhushAll none)
  else w.mapMonitor l fun m => { m with asks := m.asks ++ [.unhush] }

/-- The kind and the number of the current step, the steps taken of a verdict (R154); a monitor without one gives the control step and 0. The
step in progress counts as taken, also where a departure ends the hunt or check before its reading (R145, R147), of which R154 does not
speak (DESIGN CHOICE, unsafe: log 54). -/
def Monitor.stepReached (m : Monitor) : StepKind × Nat :=
  match m.step with
  | some s => (s.kind, s.number)
  | none => (.control, 0)

/-- A hunt or a check ends UNATTRIBUTED or INCONCLUSIVE (R149): the verdict's notice, an UNHUSH_ALL, every HUSHED entry returned, the
verdict recorded, and HOLDOFF. With no free place for the UNHUSH_ALL the rest happens all the same, and the UNHUSH_ALL is asked for again at
the next boundaries (R43; DESIGN CHOICE, unsafe: log 51). A verdict reached in mid-step counts the step in progress among the steps taken
(DESIGN CHOICE, unsafe: log 54). -/
def Work.endHunt (w : Work) (l : Leg) (conclusive : Bool) : Work :=
  let (kind, steps) := (w.leg l).monitor.stepReached
  let w := w.raise (some l) none (if conclusive then .rogueUnattributed kind steps else .rogueInconclusive kind steps)
  let w := (w.dropStepAsks l).queueUnhush l
  let w := w.unhushAll l none
  w.mapMonitor l fun m =>
    { m.idle .holdoff with
      holdOffLeft := some (m.settings.holdOff * 4096)
      lastVerdict := some ⟨if conclusive then .unattributed else .inconclusive, w.stamp, steps⟩ }

/-- A candidate or the suspect leaves the search; an emptied list, or the suspect's leaving, ends it UNATTRIBUTED (R145, R147). -/
def Work.departure (w : Work) (l : Leg) (d : Drop) : Work :=
  let m := (w.leg l).monitor
  match m.state with
  | .hunting =>
    match m.candidates with
    | some cs =>
      if cs.contains d then
        let w := w.mapMonitor l fun m => { m with candidates := some (cs.filter fun c => c != d) }
        if (cs.filter fun c => c != d).isEmpty then w.endHunt l true else w
      else w
    | none => w
  | .verifying => if m.suspectDrop == some d then w.endHunt l true else w
  | _ => w

/-! ### Loss, retirement, quarantine -/

/-- An entry enters LOST (R32): the saved hold if one is given, else the leg's lost hold in rounds. -/
def Work.lose (w : Work) (l : Leg) (d : Drop) (reason : LostReason) (saved : Option Nat := none) : Work :=
  let hold := saved.getD ((w.leg l).control.settings.lostHold * 4096)
  let w := ((w.mapLanesOf l d Lane.ownerGone).outage l d).purge l d
  let w := w.mapDrop l d fun e =>
    { e with
      state := .lost, since := w.stamp, reason := some (.lost reason), hold := some hold, origin := none, resume := none,
      awaitingCause := none, wakeInterval := none, wakeCount := none, cleanSinceWake := false, sleepCancelled := false }
  (w.raiseDropState l d).departure l d

/-- A ranging or a SET_DELAY that failed for good takes an entry to LOST by its origin (R65, R68): REUSED with its saved hold and
reason, any other with NO_RANGING and the leg's hold. -/
def Work.loseByOrigin (w : Work) (l : Leg) (d : Drop) : Work :=
  match (w.drop l d).origin with
  | some (.reused hold reason) => w.lose l d reason (some hold)
  | _ => w.lose l d .noRanging

/-- The close cause of a retirement (R34). -/
def RetireReason.closeCause : RetireReason → CloseCause
  | .drain => .drain
  | .dismissed | .holdExpired => .retire

/-- An entry enters RETIRING (R34): its lanes are deleted, its orders purged, its meter's ending close asked for; with the close
complete it becomes VACANT in the same event (R35). An entry VACANT or RETIRING stays as it is. -/
def Work.retire (w : Work) (l : Leg) (d : Drop) (reason : RetireReason) : Work :=
  let st := (w.drop l d).state
  if st == .vacant || st == .retiring then w
  else
    let w := (w.mapLeg l fun r =>
      { r with lanes := r.lanes.map fun o => o.filter fun x => x.owner != d }).purge l d
    let w := w.mapDrop l d fun e =>
      { e with
        state := .retiring, since := w.stamp, reason := some (.retire reason), hold := none, origin := none, resume := none,
        awaitingCause := none, wakeInterval := none, wakeCount := none, sleepCancelled := false }
    let w := (w.raiseDropState l d).departure l d
    let (w, done) := w.closeMeter l d reason.closeCause
    if done then w.vacate l d else w

/-- A confirmed culprit's entry becomes QUARANTINED, with what follows in the order of R148: orders purged, a MUTE queued or
asked for, lanes SUSPENDED without credit, outage flag, DROP_STATE notice. -/
def Work.quarantine (w : Work) (l : Leg) (d : Drop) : Work :=
  let w := w.mapDrop l d fun e =>
    { e with
      state := .quarantined, since := w.stamp, reason := some .rogue, hold := none, origin := none, resume := none,
      awaitingCause := none, wakeInterval := none, wakeCount := none, sleepCancelled := false }
  let w := w.purge l d
  let w := if urgentRoom (w.leg l).orders then w.queueOrder l (.queued .mute (some d))
    else w.mapMonitor l fun m => { m with asks := m.asks ++ [.mute d] }
  let w := (w.mapLanesOf l d Lane.ownerGone).outage l d
  w.raiseDropState l d

/-! ### FIXED limits and lane creation (R79, R83, R87) -/

/-- The fixed beats of a lane, 0 for another class. -/
def Lane.fixedBeats (x : Lane) : Nat :=
  match x.figures with
  | .fixed b => b
  | _ => 0

/-- Whether a lane is of class FIXED. -/
def Lane.isFixed (x : Lane) : Bool :=
  match x.figures with
  | .fixed _ => true
  | _ => false

/-- Every lane of a table, in lane number order. -/
def laneList (t : Vector (Option Lane) 256) : List Lane := t.toList.filterMap id

/-- The FIXED sum of a table: the beats of its FIXED lanes, whatever their states (R83, R88; 5.13). -/
def fixedSum (t : Vector (Option Lane) 256) : Nat := ((laneList t).map Lane.fixedBeats).sum

/-- The drops that hold a FIXED lane in a table. -/
def fixedDrops (t : Vector (Option Lane) 256) : Nat :=
  (allDrops.filter fun d => (laneList t).any fun x => x.isFixed && x.owner == d).length

/-- What R83 limits: the FIXED sum plus 16 beats for each drop that holds a FIXED lane. -/
def fixedLoad (t : Vector (Option Lane) 256) : Nat := fixedSum t + 16 * fixedDrops t

/-- The FIXED limit under a reach span (R83). -/
def fixedLimit (reach : Nat) : Nat := 8000 - (reach + 80)

/-- The FIXED limits of R83. -/
def fixedLimitsHold (t : Vector (Option Lane) 256) (reach : Nat) : Bool :=
  fixedLoad t ≤ fixedLimit reach && fixedDrops t ≤ 32

/-- The lowest free place of a lane table (R79). -/
def freeLane (t : Vector (Option Lane) 256) : Option (Fin 256) := allLanes.find? fun n => (t[n]).isNone

/-- The credit of a new lane: 0 for ASSURED, absent for another class (R79). -/
def LaneFigures.newCredit : LaneFigures → Option Nat
  | .assured _ _ => some 0
  | _ => none

/-- A new lane: BINDING, credit and backlog 0, no last grant (R79). -/
def Lane.fresh (owner : Drop) (port : Fin 4) (figures : LaneFigures) : Lane where
  owner := owner
  port := port
  figures := figures
  credit := figures.newCredit
  backlog := 0
  lastGrant := none
  state := .binding

/-- A BIND_LANES in flight frees no lane that was created after its first send (R53, log 14). -/
def unbindLane (n : Fin 256) (q : List OrderEntry) : List OrderEntry :=
  q.map fun e => { e with binds := e.binds.filter fun m => m != n }

/-- A table with a lane put in the lowest free place. -/
def putLane (x : Lane) (t : Vector (Option Lane) 256) : Vector (Option Lane) 256 :=
  match freeLane t with
  | some n => t.set n.val (some x)
  | none => t

/-- A lane created on the leg in the lowest free place. -/
def Work.createLane (w : Work) (l : Leg) (x : Lane) : Work :=
  w.mapLeg l fun r =>
    { r with
      lanes := putLane x r.lanes
      orders := match freeLane r.lanes with | some n => unbindLane n r.orders | none => r.orders }

/-- The template list with the local ports it goes to: item i on port i (R87). -/
def templatePorts (ts : List LaneFigures) : List (Fin 4 × LaneFigures) := (List.finRange 4).zip ts

/-- Whether a template list can become lanes of a drop: free places for all, and the FIXED limits kept (R87). -/
def templatesFit (r : LegRecord) (d : Drop) (ts : List LaneFigures) : Bool :=
  ts.length ≤ 256 - (laneList r.lanes).length &&
    (!(ts.any fun f => match f with | .fixed _ => true | _ => false) ||
      fixedLimitsHold ((templatePorts ts).foldl (fun t pf => putLane (Lane.fresh d pf.1 pf.2) t) r.lanes)
        r.control.settings.reach)

/-! ### Admission (R73 to R75) -/

/-- An entry enters SERVING from trim or AWAITING, reported by a DROP_STATE notice. -/
def Work.serveDrop (w : Work) (l : Leg) (d : Drop) (marginal : Option Bool) : Work :=
  (w.toServing l d).raiseDropState l d marginal

/-- An entry enters AWAITING: a DROP_STATE notice and an AWAITING notice (R75). -/
def Work.awaitDrop (w : Work) (l : Leg) (d : Drop) (cause : AwaitingCause) : Work :=
  let w := w.mapDrop l d fun e =>
    { e with state := .awaiting, since := w.stamp, awaitingCause := some cause, origin := none }
  let e := w.drop l d
  (w.raiseDropState l d (some e.marginal)).raise (some l) (some d)
    (.awaiting e.serial ((w.enrolOf l d).map EnrolEntry.account) cause e.marginal)

/-- The end of an admission by the approval mode: SERVING for AUTO, AWAITING for HOLD (R73). -/
def Work.admitByMode (w : Work) (l : Leg) (d : Drop) : Work :=
  match w.enrolOf l d with
  | some e => if e.mode == .auto then w.serveDrop l d (some (w.drop l d).marginal) else w.awaitDrop l d .approval
  | none => w.awaitDrop l d .approval

/-- An admission with template lanes (R73): all or none; a BIND_LANES if any lane was made. -/
def Work.admitFresh (w : Work) (l : Leg) (d : Drop) : Work :=
  let ts := ((w.enrolOf l d).map EnrolEntry.templates).getD []
  if templatesFit (w.leg l) d ts then
    let w := (templatePorts ts).foldl (fun w pf => w.createLane l (Lane.fresh d pf.1 pf.2)) w
    let w := if ts.isEmpty then w else w.generate l d .bindLanes
    w.admitByMode l d
  else w.awaitDrop l d .lanes

/-- The drop's lanes put back in BINDING and named in a BIND_LANES, if it holds any (R74). -/
def Work.rebindLanes (w : Work) (l : Leg) (d : Drop) : Work :=
  if ((w.leg l).lanesOf d).isEmpty then w else (w.mapLanesOf l d Lane.rebind).generate l d .bindLanes

/-- Trim ends with the marginal flag given, and admission follows by the origin (R73, R74). -/
def Work.trimEnds (w : Work) (l : Leg) (d : Drop) (marginal : Bool) : Work :=
  let w := w.mapDrop l d fun e => { e with marginal := marginal }
  if (w.drop l d).origin == some .new then w.admitFresh l d
  else if (w.meter l d).isSome then (w.rebindLanes l d).serveDrop l d (some marginal)
  else if ((w.leg l).lanesOf d).isEmpty then w.admitFresh l d
  else (w.rebindLanes l d).admitByMode l d

end Sys2Proof.Machine
end

