-- ==== Sys2Proof/Machine/OrderOps.lean ====
section
/-! DEFINITION. The Order Sender: settling waits, failures, the selection of a round, echoes and completions (R41 to R55); and the
application of a hush set with the monitor's asks (R43, R144). -/

namespace Sys2Proof.Machine

/-! ### Hushing (R144) -/

/-- The states that may be masked by a HUSH_SET (2.2). -/
def DropState.hushable : DropState → Bool
  | .found | .ranging | .trimming | .awaiting | .serving | .dormant | .lost => true
  | _ => false

/-- The resume state an entry takes with it into HUSHED: FOUND for RANGING, the hold and the reason for LOST (R144). -/
def DropEntry.resumeOf (e : DropEntry) : Resume where
  state := if e.state = .ranging then .found else e.state
  hold := e.hold
  reason := e.reason
  changed := false
  stepHeld := false

/-- An entry becomes HUSHED (R144); an ACTIVE lane of a SERVING owner becomes SUSPENDED with its credit kept (R80, R81). Its origin, its
awaiting cause and its wake fields stay in the entry as they stood (2.8, R36; DEDUCED, unsafe: log 39). -/
def Work.hushDrop (w : Work) (l : Leg) (d : Drop) : Work :=
  let e := w.drop l d
  if e.state.hushable then
    let w := w.mapDrop l d fun e =>
      { e with state := .hushed, since := w.stamp, resume := some e.resumeOf, hold := none, reason := none }
    if e.state == .serving then w.mapLanesOf l d Lane.ownerLeaves else w
  else w

/-- A hush set applied: named entries are hushed, HUSHED entries not named return (R144). -/
def Work.applyHush (w : Work) (l : Leg) (set : List Drop) : Work :=
  forDrops allDrops
    (fun d w =>
      if set.contains d then w.hushDrop l d
      else if (w.drop l d).state == .hushed then w.unhushDrop l d
      else w) w

/-- What the monitor asks of the Order Sender, done if the queue has a free place and remembered if not (R43, R142, R144, R148). -/
def Work.doAsk (w : Work) (l : Leg) (a : MonitorAsk) : Work :=
  if urgentRoom (w.leg l).orders then
    match a with
    | .stepHush set duration =>
      (w.queueOrder l { OrderEntry.queued (.hushSet set duration) none with forStep := true }).applyHush l set
    | .stepUnhush keep => (w.queueOrder l { OrderEntry.queued .unhushAll none with forStep := true }).unhushAll l keep
    | .mute d => w.queueOrder l (.queued .mute (some d))
    | .unhush => w.queueOrder l (.queued .unhushAll none)
  else w.mapMonitor l fun m => { m with asks := m.asks ++ [a] }

/-- The monitor's retries, in the order in which it first asked (R43). -/
def Work.retryAsks (w : Work) (l : Leg) : Work :=
  (w.leg l).monitor.asks.foldl (fun w a => w.doAsk l a) (w.mapMonitor l fun m => { m with asks := [] })

/-- The owed-order list offered again, oldest first (R43, R67). -/
def Work.retryOwed (w : Work) (l : Leg) : Work :=
  (w.leg l).owed.foldl (fun w i => w.generate l i.drop i.kind) (w.mapLeg l fun r => { r with owed := [] })

/-- All retries of a boundary: the monitor's first, then the owed-order list (R43). -/
def Work.retryOrders (w : Work) (l : Leg) : Work := (w.retryAsks l).retryOwed l

/-! ### Waits and failures (R50 to R52) -/

/-- An entry's wait one round longer, if it was sent in a round before `k` and its target is not HUSHED (R50). -/
def OrderEntry.tick (e : OrderEntry) (k : Nat) (hushed : Drop → Bool) : OrderEntry :=
  if e.awaiting && e.lastSent != some k && !(e.target.any hushed) then { e with waited := min (e.waited + 1) 4 } else e

/-- An entry addressed to `d` that has waited 4 rounds after its third send (R50, R51). -/
def OrderEntry.failing (e : OrderEntry) (d : Drop) : Bool :=
  e.target == some d && e.awaiting && e.waited == 4 && e.sends ≥ 3

/-- The retry entry of a failed BIND_LANES (R52). -/
def OrderEntry.bindRetry (d : Drop) : OrderEntry :=
  { OrderEntry.queued (.bindLanes none) (some d) with priority := .low, retry := true }

/-- Why a FOUND drop whose SET_DELAY failed is LOST (R68). -/
def DropEntry.failReason (e : DropEntry) : LostReason :=
  match e.origin with
  | some (.reused _ reason) => reason
  | _ => .noRanging

/-- The outcome of a failed order for a drop as it stands (R52). -/
def failOutcome (e : OrderEntry) (x : DropEntry) : FailOutcome :=
  match e.order.kind with
  | .setDelay => if x.state == .found then .lost x.failReason else .unchanged
  | .stepPower => if x.state == .trimming || x.state == .serving then .marginal else .unchanged
  | .bindLanes =>
    if x.state == .awaiting || x.state == .serving || x.state == .dormant then
      if e.retry then .lost .silent else .retried
    else .unchanged
  | .sleep => if x.state == .serving then .serving else .unchanged
  | .wake => if x.state == .dormant || x.state == .serving then .lost .silent else .unchanged
  | _ => .unchanged

/-- The outcome applied to the drop, the failed entry already gone from the queue (R52, R68, R71, R122, R127). -/
def Work.applyFailure (w : Work) (l : Leg) (d : Drop) (kind : OrderKind) (o : FailOutcome) : Work :=
  match o with
  | .lost reason => if kind == .setDelay then w.loseByOrigin l d else w.lose l d reason
  | .marginal =>
    if (w.drop l d).state == .trimming then w.trimEnds l d true
    else w.mapDrop l d fun e => { e with marginal := true, outOfBand := 0 }
  | .serving =>
    if (w.drop l d).sleepCancelled then
      (w.removeOrders l d .wake).mapDrop l d fun e => { e with sleepCancelled := false }
    else w
  | .retried | .unchanged => w

/-- The failing entry of a drop removed, or replaced in its place by its retry, ORDER_FAILED raised and the outcome applied (R51,
R52). The retry is queued beside a BIND_LANES of the drop that is already QUEUED (DEDUCED, unsafe: log 41). -/
def Work.failOrder (w : Work) (l : Leg) (d : Drop) : Work :=
  match (w.leg l).orders.find? fun e => e.failing d with
  | none => w
  | some e =>
    let o := failOutcome e (w.drop l d)
    let w := w.mapLeg l fun r =>
      { r with
        orders :=
          if o == .retried then r.orders.map fun x => if x.failing d then OrderEntry.bindRetry d else x
          else r.orders.filter fun x => !(x.failing d) }
    (w.raise (some l) (some d) (.orderFailed e.order.kind e.seq o)).applyFailure l d e.order.kind o

/-- Whether a drop of the leg is HUSHED. -/
def LegRecord.isHushed (r : LegRecord) (d : Drop) : Bool := r.drops[d].state == .hushed

/-- The waits of a round in ON advanced and the failures they bring settled, oldest first (R50, R51). -/
def Work.settleWaits (w : Work) (l : Leg) : Work :=
  let w := w.mapLeg l fun r => { r with orders := r.orders.map fun e => e.tick w.stamp.round r.isHushed }
  let failed := (w.leg l).orders.filterMap fun e =>
    match e.target with
    | some d => if e.failing d && !((w.leg l).isHushed d) then some d else none
    | none => none
  forDrops failed (fun d w => w.failOrder l d) w

/-! ### The selection of a round (R45 to R48) -/

/-- Whether R46 lets an echoed entry be sent: the leg is ON and the target is not HUSHED. -/
def OrderEntry.mayEcho (e : OrderEntry) (on : Bool) (hushed : Drop → Bool) : Bool := on && !(e.target.any hushed)

/-- A resend is due (R50). -/
def OrderEntry.resendDue (e : OrderEntry) : Bool := e.awaiting && e.waited == 4 && e.sends < 3

/-- Whether a drop has an echoed entry awaiting its echo, or among those already chosen (R46 case 1). -/
def echoBusy (q : List OrderEntry) (chosen : List Nat) (target : Option Drop) : Bool :=
  (q.any fun e => e.awaiting && e.target == target) ||
    (q.zipIdx.any fun x => chosen.contains x.2 && x.1.order.kind.echoed && x.1.target == target)

/-- Whether an older echoed entry of the drop, QUEUED or AWAITING_ECHO, stands before position `i` (R46 case 1: echoed orders to one drop
go out in the order in which they were queued). A NORMAL entry waits for an older LOW one of its drop too, since R45 takes no entry
that R46 holds back (DEDUCED, unsafe: log 40). -/
def echoAhead (q : List OrderEntry) (i : Nat) (target : Option Drop) : Bool :=
  (q.take i).any fun e => e.order.kind.echoed && e.target == target

/-- The entry at position `i` may be taken in steps 4 and 5: it is unechoed, or R46 does not hold it back. -/
def firstSendAllowed (q : List OrderEntry) (on : Bool) (hushed : Drop → Bool) (chosen : List Nat) (i : Nat) (e : OrderEntry) : Bool :=
  !e.order.kind.echoed || (e.mayEcho on hushed && !(echoBusy q chosen e.target) && !(echoAhead q i e.target))

/-- The positions taken for a round's 8 order places, in the order of R45's five steps. -/
def selectOrders (on : Bool) (hushed : Drop → Bool) (q : List OrderEntry) : List Nat :=
  let take (p : List Nat → Nat → OrderEntry → Bool) (acc : List Nat) : List Nat :=
    q.zipIdx.foldl (fun acc x => if acc.length < 8 && p acc x.2 x.1 then acc ++ [x.2] else acc) acc
  let s1 := take (fun _ _ e => !e.order.kind.echoed && e.sends ≥ 1) []
  let s2 := take (fun _ _ e => e.priority == .urgent && e.sends == 0) s1
  let s3 := take (fun _ _ e => e.order.kind.echoed && e.resendDue && e.mayEcho on hushed) s2
  let s4 := take (fun acc i e => e.priority == .normal && e.sends == 0 && firstSendAllowed q on hushed acc i e) s3
  take (fun acc i e => e.priority == .low && e.sends == 0 && firstSendAllowed q on hushed acc i e) s4

/-- The lane list of a BIND_LANES at its first send: local port and lane number, in port order (R41). -/
def LegRecord.bindList (r : LegRecord) (d : Drop) : List (Fin 4 × Fin 256) :=
  (List.finRange 4).filterMap fun p => (r.laneAt d p).map fun nx => (p, nx.1)

/-- The arguments fixed at the first send (R41). -/
def LegRecord.fixArguments (r : LegRecord) (d : Drop) : Order → Order
  | .setDelay _ => .setDelay (some (r.drops[d].eqd.getD 0))
  | .bindLanes _ => .bindLanes (some (r.bindList d))
  | o => o

/-- The sequence number of a first send: the drop's next echo sequence, or the number after it if that was heard last (R47). -/
def echoSequence (next : Fin 16) (last : Option (Fin 16)) : Fin 16 := if last = some next then next + 1 else next

/-- An entry first sent as an echoed order in round `k` (R41, R47). -/
def OrderEntry.firstSend (e : OrderEntry) (o : Order) (seq : Fin 16) (k : Nat) : OrderEntry :=
  { e with
    order := o, seq := some seq, sends := 1, waited := 0, lastSent := some k, awaiting := true
    binds := match o with | .bindLanes (some ls) => ls.map Prod.snd | _ => [] }

/-- An entry sent again, or an unechoed entry sent, in round `k` (R47, R48). -/
def OrderEntry.sendAgain (e : OrderEntry) (k : Nat) : OrderEntry :=
  { e with sends := e.sends + 1, waited := 0, lastSent := some k }

/-- The order at a position sent in the round being built: the queue and, for a first send, the target's next echo sequence
change, and the broadcast of the monitor's step fixes the step's first observation round (R41, R47, R48, R142). -/
def Work.sendOrder (w : Work) (l : Leg) (i : Nat) : Work × List OrderPlace :=
  let r := w.leg l
  match r.orders[i]? with
  | none => (w, [])
  | some e =>
    match e.order.kind.echoed && !e.awaiting, e.target with
    | true, some d =>
      let seq := echoSequence r.drops[d].nextEcho r.lastEcho[d]
      let e' := e.firstSend (r.fixArguments d e.order) seq w.stamp.round
      ((w.mapLeg l fun r => { r with orders := r.orders.set i e' }).mapDrop l d fun x => { x with nextEcho := seq + 1 },
        [⟨e'.order, e'.target, e'.seq⟩])
    | _, _ =>
      let e' := e.sendAgain w.stamp.round
      let w := w.mapLeg l fun r => { r with orders := r.orders.set i e' }
      let w := if e.forStep && e.sends == 0 then
          w.mapMonitor l fun m => { m with step := m.step.map fun s => { s with firstObs := some w.stamp.next } }
        else w
      (w, [⟨e'.order, e'.target, e'.seq⟩])

/-- An unechoed entry that has gone out its count of copies (R48). -/
def OrderEntry.spent (e : OrderEntry) : Bool := !e.order.kind.echoed && e.sends ≥ e.order.kind.copies

/-- The round's orders chosen and sent: the order places in selection order; spent entries leave the queue (R45, R48). -/
def Work.sendOrders (w : Work) (l : Leg) : Work × List OrderPlace :=
  let r := w.leg l
  let chosen := selectOrders (r.control.state == .on) r.isHushed r.orders
  let (w, places) := chosen.foldl
    (fun acc i => let (w, ps) := acc.1.sendOrder l i; (w, acc.2 ++ ps)) (w, ([] : List OrderPlace))
  (w.mapLeg l fun r => { r with orders := r.orders.filter fun e => !e.spent }, places)

/-- The drops owed an echo grant in the map of round `k` (R55). -/
def LegRecord.owedEcho (r : LegRecord) (k : Nat) (d : Drop) : Bool :=
  (r.orders.any fun e => e.target == some d && e.awaiting && (e.sends ≥ 2 || e.lastSent != some k)) &&
    (r.drops[d].state == .found || r.drops[d].state.heard)

/-! ### Echoes and completions (R49, R53) -/

/-- A value moved by a signed step within 0 to 31 (R69, R71). -/
def movePower (power : Nat) (step : Int) : Nat := (max 0 (min 31 ((power : Int) + step))).toNat

/-- A SERVING entry enters DORMANT with the interval of its SLEEP (R121). -/
def Work.toDormant (w : Work) (l : Leg) (d : Drop) (interval : Nat) : Work :=
  let w := w.mapDrop l d fun e =>
    { e with state := .dormant, since := w.stamp, wakeInterval := some interval, wakeCount := some interval }
  (w.mapLanesOf l d fun x => x.ownerLeaves.noCredit).raiseDropState l d

/-- Whether an entry is HUSHED with the resume state given. -/
def DropEntry.hushedFrom (e : DropEntry) (st : DropState) : Bool :=
  e.state == .hushed && e.resume.any fun r => r.state == st

/-- The resume state changed by an order's echo (R121, R127). -/
def DropEntry.resumeAs (e : DropEntry) (st : DropState) : DropEntry :=
  { e with resume := e.resume.map fun r => { r with state := st, changed := true } }

/-- A lane that a BIND_LANES named leaves BINDING: ACTIVE if its owner is SERVING, else SUSPENDED (R53, R80). -/
def Lane.bound (x : Lane) (serving : Bool) : Lane :=
  if x.state = .binding then (if serving then { x with state := .active } else x.suspend) else x

/-- A completed STEP_POWER moves the power setting, and the trim count rises by 1, stopping at 6 (R53, R71). An entry hushed in trim holds its
outstanding step and its trim count as they stood, and counts the step when it returns (R36, R70; DEDUCED, unsafe: log 38). -/
def DropEntry.powerStepped (e : DropEntry) (step : Int) : DropEntry :=
  if e.hushedFrom .trimming then
    { e with power := movePower e.power step, resume := e.resume.map fun r => { r with stepHeld := true } }
  else { e with power := movePower e.power step, trimCount := min (e.trimCount + 1) 6 }

/-- The effect of a completed order on the drop as it stands (R53, R68, R71, R80, R121, R127). Two effects on a HUSHED entry are the
model's reading: the echo of a SLEEP that finds sleep-cancelled set leaves the resume state SERVING, and the echo of a WAKE that
finds the resume state SERVING clears sleep-cancelled (DEDUCED, unsafe: log 44). -/
def Work.applyCompletion (w : Work) (l : Leg) (d : Drop) (e : OrderEntry) : Work :=
  let x := w.drop l d
  match e.order with
  | .setDelay _ =>
    if x.state == .found then
      (w.mapDrop l d fun x => { x with state := .trimming, since := w.stamp, trimCount := 0 }).raiseDropState l d
    else w
  | .stepPower step => w.mapDrop l d fun x => x.powerStepped step
  | .bindLanes _ =>
    e.binds.foldl
      (fun w n => w.mapLeg l fun r =>
        { r with lanes := r.lanes.set n.val ((r.lanes[n]).map fun y =>
            if y.owner = d then y.bound (r.drops[d].state == .serving) else y) }) w
  | .sleep interval =>
    if x.state == .serving && !x.sleepCancelled then w.toDormant l d interval
    else if x.hushedFrom .serving && !x.sleepCancelled then
      w.mapDrop l d fun x => { x.resumeAs .dormant with wakeInterval := some interval, wakeCount := some interval }
    else w
  | .wake =>
    if x.state == .dormant then w.wakeUp l d
    else if x.hushedFrom .dormant then w.mapDrop l d fun x => x.resumeAs .serving
    else if x.state == .serving || x.hushedFrom .serving then
      w.mapDrop l d fun x => { x with sleepCancelled := false }
    else w
  | _ => w

/-- The echo field of a CLEAN burst delivered (R49): the last echo heard, and the completion it brings. -/
def Work.deliverEcho (w : Work) (l : Leg) (d : Drop) (echo : Option (Fin 16)) : Work :=
  match echo with
  | none => w
  | some s =>
    let w := w.mapLeg l fun r => { r with lastEcho := r.lastEcho.set d.val (some s) }
    match (w.leg l).orders.find? fun e => e.target == some d && e.awaiting && e.seq == some s with
    | none => w
    | some e =>
      (w.mapLeg l fun r =>
        { r with orders := r.orders.filter fun x => !(x.target == some d && x.awaiting && x.seq == some s) }).applyCompletion l d e

end Sys2Proof.Machine
end

