-- ==== Sys2Proof/Machine/MonitorOps.lean ====
section
/-! DEFINITION. The Rogue Monitor: spans and their evaluation, suspicion, probe steps, readings and verdicts (R130 to R151). -/

namespace Sys2Proof.Machine

/-! ### Spans (R133 to R136) -/

/-- No signature counted. -/
def Signatures.zero : Signatures := ⟨0, 0, 0, 0⟩

/-- A span with nothing counted, from the round `t` on. -/
def Span.fresh (learning : Bool) (t : Stamp) : Span where
  position := 0
  learning := learning
  counts := Signatures.zero
  sampleSum := 0
  sampleCount := 0
  tailDrop := none
  mixed := false
  countFrom := t

/-- A span begins (R133): it counts from the next round boundary; a monitor without a reference learns (R135). In RETIMING no span
begins; what was called for is remembered. -/
def Work.beginSpan (w : Work) (l : Leg) (learning : Bool) : Work :=
  if (w.leg l).control.state == .retiming then
    w.mapMonitor l fun m => { m with span := none, owedLearning := m.owedLearning || learning }
  else w.mapMonitor l fun m => { m with span := some (Span.fresh (learning || m.reference.isNone) w.stamp.next) }

/-- The tail runs of a report longer than the tail limit (R134). -/
def longTails (limit : Nat) (r : RoundReport) : List Drop := (r.tails.filter fun t => t.2 > limit).map Prod.fst

/-- The samples of a report above the reference and the glow margin; none without a reference or in a learning span (R134). -/
def glowSamples (m : Monitor) (learning : Bool) (r : RoundReport) : Nat :=
  match m.reference with
  | some ref => if learning then 0 else (r.samples.filter fun x => x.2 > ref + m.settings.glowMargin).length
  | none => 0

/-- The tail drop and the mixed flag after one more long tail of drop `d` (R134). -/
def Span.tail (sp : Span) (d : Drop) : Span :=
  match sp.tailDrop with
  | none => { sp with tailDrop := some d }
  | some c => if c = d then sp else { sp with mixed := true }

/-- A report counted in a span (R134); the counts stay at 65,535. -/
def Span.count (sp : Span) (m : Monitor) (r : RoundReport) : Span :=
  let up := saturate 65535
  let long := longTails m.settings.tailLimit r
  let sp := long.foldl Span.tail sp
  { sp with
    position := sp.position + 1
    counts :=
      { stray := up sp.counts.stray (if r.stray ≥ m.settings.strayBeatMin then 1 else 0)
        clash := up sp.counts.clash (r.misfit + r.garbled)
        tail := up sp.counts.tail long.length
        glow := up sp.counts.glow (glowSamples m sp.learning r) }
    sampleSum := sp.sampleSum + (r.samples.map Prod.snd).sum
    sampleCount := sp.sampleCount + r.samples.length }

/-- The mean of a span's dark samples, if it held any (R135). -/
def Span.mean (sp : Span) : Option Nat := if sp.sampleCount = 0 then none else some (sp.sampleSum / sp.sampleCount)

/-- The thresholds and counts of the enabled signatures (R131, R136). -/
def enabledSignatures (t c : Signatures) : List (Nat × Nat) :=
  [(t.stray, c.stray), (t.clash, c.clash), (t.tail, c.tail), (t.glow, c.glow)].filter fun x => x.1 > 0

/-- A span is suspicious by the combination mode; never with no signature enabled (R136). -/
def suspicious (s : MonitorSettings) (c : Signatures) : Bool :=
  let on := enabledSignatures s.thresholds c
  !on.isEmpty &&
    match s.combination with
    | .any => on.any fun x => x.2 ≥ x.1
    | .all => on.all fun x => x.2 ≥ x.1

/-- The reference after a span (R135). -/
def Monitor.referenceAfter (m : Monitor) (sp : Span) : Option Nat :=
  match sp.mean with
  | none => m.reference
  | some v => if sp.learning || m.settings.referenceMode == .tracking then some v else m.reference

/-! ### Probe steps (R142 to R147) -/

/-- The states whose entries a hunt searches (R145). -/
def DropState.candidate : DropState → Bool
  | .vacant | .quarantined | .retiring => false
  | _ => true

/-- The candidate list at the moment the monitor enters HUNTING (R145). -/
def LegRecord.candidateList (r : LegRecord) : List Drop := r.dropsWhere fun e => e.state.candidate

/-- The hush set of a step (R146, R147). -/
def Monitor.hushSet (m : Monitor) (k : StepKind) : List Drop :=
  let cs := m.candidates.getD m.suspectDrop.toList
  match k with
  | .control | .finalControl => []
  | .fullHush | .verify => cs
  | .split => cs.take ((cs.length + 1) / 2)

/-- A step begins (R142): its number follows the last one's; a step without a broadcast has two settle rounds; a broadcast is asked
for at once. -/
def Work.startStep (w : Work) (l : Leg) (k : StepKind) : Work :=
  let m := (w.leg l).monitor
  let set := m.hushSet k
  let step : ProbeStep :=
    { kind := k, number := m.stepReached.2 + 1, set := set, elapsed := 0, read := 0, lit := 0, suspectTails := 0
      firstObs := if k = .control then some (w.stamp.plus 2) else none }
  let w := w.mapMonitor l fun m => { m with step := some step }
  match k with
  | .control => w
  | .fullHush | .split | .verify => w.doAsk l (.stepHush set (m.settings.probeSpan + 4))
  | .finalControl => w.doAsk l (.stepUnhush (m.candidates.bind List.head?))

/-- The notice of entry to SUSPECT, HUNTING or VERIFYING (R154). -/
def Work.raiseSuspect (w : Work) (l : Leg) (counts : Signatures) (suspect : Option Drop) : Work :=
  w.raise (some l) none (.rogueSuspect (w.leg l).monitor.state counts suspect)

/-- The drop a confirming span attributes its tails to, if it names one that can be checked (R141). -/
def verifiable (r : LegRecord) (sp : Span) : Option Drop :=
  match sp.tailDrop with
  | some d =>
    if r.monitor.settings.thresholds.tail > 0 && sp.counts.tail ≥ r.monitor.settings.thresholds.tail && !sp.mixed &&
      r.drops[d].state.candidate then some d else none
  | none => none

/-- A suspicion confirmed by the span `sp`: VERIFYING its tail drop, or HUNTING, and the first step (R141). -/
def Work.confirm (w : Work) (l : Leg) (sp : Span) : Work :=
  match verifiable (w.leg l) sp with
  | some d =>
    let w := w.mapMonitor l fun m => { m.idle .verifying with suspectDrop := some d, keptCounts := some sp.counts }
    (w.raiseSuspect l sp.counts (some d)).startStep l .control
  | none =>
    let cs := (w.leg l).candidateList
    let w := w.mapMonitor l fun m => { m.idle .hunting with candidates := some cs }
    (w.raiseSuspect l sp.counts none).startStep l .control

/-- A hunt or a check confirms its culprit (R148): the entry is QUARANTINED, ROGUE_CONFIRMED raised, and the monitor is WATCHING with a
new ordinary span. -/
def Work.confirmCulprit (w : Work) (l : Leg) (d : Drop) : Work :=
  let m := (w.leg l).monitor
  let steps := m.stepReached.2
  let w := (w.dropStepAsks l).quarantine l d
  let w := w.raise (some l) (some d) (.rogueConfirmed (w.drop l d).serial (m.state == .verifying) steps)
  let w := w.mapMonitor l fun m => { m.idle .watching with lastVerdict := some ⟨.confirmed d, w.stamp, steps⟩ }
  w.beginSpan l false

/-- The next step of a hunt for the candidates kept: none left ends it, one is verified, more are split (R145, R146). -/
def Work.narrow (w : Work) (l : Leg) (cs : List Drop) : Work :=
  let w := w.mapMonitor l fun m => { m with candidates := some cs }
  match cs with
  | [] => w.endHunt l true
  | [_] => w.startStep l .verify
  | _ => w.startStep l .split

/-- A verify step of VERIFYING read lit: HUNTING, from the full hush step (R147). The hunt's steps are numbered on from those of the
check (DEDUCED, unsafe: log 49). -/
def Work.huntAfterCheck (w : Work) (l : Leg) : Work :=
  let m := (w.leg l).monitor
  let cs := (w.leg l).candidateList
  let w := w.mapMonitor l fun m =>
    { m.idle .hunting with candidates := some cs, step := m.step }
  (w.raiseSuspect l (m.keptCounts.getD Signatures.zero) m.suspectDrop).startStep l .fullHush

/-- What a step's reading leads to (R146, R147). A hunt whose list was empty when it was built runs its control step, and ends
UNATTRIBUTED if that reads lit (DESIGN CHOICE, unsafe: log 47). -/
def Work.applyReading (w : Work) (l : Leg) (s : ProbeStep) (lit : Bool) : Work :=
  let m := (w.leg l).monitor
  let cs := m.candidates.getD []
  match m.state, s.kind with
  | .verifying, .control => if lit then w.startStep l .verify else w.endHunt l false
  | .verifying, _ =>
    if lit then w.huntAfterCheck l
    else match m.suspectDrop with
      | some d => w.confirmCulprit l d
      | none => w.endHunt l true
  | _, .control => if !lit then w.endHunt l false else if cs.isEmpty then w.endHunt l true else w.startStep l .fullHush
  | _, .fullHush => if lit then w.endHunt l true else w.narrow l cs
  | _, .split =>
    if lit then w.narrow l (cs.filter fun d => !s.set.contains d) else w.narrow l (cs.filter fun d => s.set.contains d)
  | _, .verify => if lit then w.endHunt l true else w.startStep l .finalControl
  | _, .finalControl =>
    match lit, cs with
    | true, d :: _ => w.confirmCulprit l d
    | true, [] => w.endHunt l true
    | false, _ => w.endHunt l false

/-- The suspect's long tails in a report (R147). -/
def tailsOfSuspect (m : Monitor) (r : RoundReport) : Nat :=
  match m.suspectDrop with
  | some d => ((longTails m.settings.tailLimit r).filter fun x => x == d).length
  | none => 0

/-- An observation round is lit (R143, and R147 in the control step of VERIFYING). -/
def litRound (m : Monitor) (s : ProbeStep) (r : RoundReport) : Bool :=
  (r.probeCount.any fun n => n ≥ m.settings.strayBeatMin) ||
    (m.reference.any fun ref => r.samples.any fun x => x.1 == .probe && x.2 > ref + m.settings.glowMargin) ||
    (m.state == .verifying && s.kind == .control && tailsOfSuspect m r > 0)

/-- A step reads lit (R143, R147). -/
def ProbeStep.readsLit (s : ProbeStep) (m : Monitor) : Bool :=
  s.lit ≥ (m.settings.probeSpan + 1) / 2 ||
    (m.state == .verifying && s.kind == .control && m.settings.thresholds.tail > 0 &&
      s.suspectTails ≥ m.settings.thresholds.tail)

/-- Whether a round is an observation round of the current step (R142). -/
def Monitor.observes (m : Monitor) (t : Stamp) : Bool :=
  match m.step with
  | some s => s.firstObs.any fun f => f.roundsTo t < m.settings.probeSpan
  | none => false

/-- Whether a round is the last observation round of the current step (R142). -/
def Monitor.lastObserves (m : Monitor) (t : Stamp) : Bool :=
  match m.step with
  | some s => s.firstObs.any fun f => f.roundsTo t + 1 == m.settings.probeSpan
  | none => false

/-- A report counted in the current step (R143). -/
def ProbeStep.observe (s : ProbeStep) (m : Monitor) (r : RoundReport) : ProbeStep :=
  { s with
    read := s.read + 1
    lit := s.lit + (if litRound m s r then 1 else 0)
    suspectTails := s.suspectTails + tailsOfSuspect m r }

/-- A report taken in HUNTING or VERIFYING: an observation round is read, and the last one gives the reading (R142, R143). -/
def Work.observeStep (w : Work) (l : Leg) (r : RoundReport) : Work :=
  let m := (w.leg l).monitor
  match m.step with
  | none => w
  | some s =>
    if m.observes r.round then
      let s' := s.observe m r
      let w := w.mapMonitor l fun m => { m with step := some s' }
      if m.lastObserves r.round then w.applyReading l s' (s'.readsLit m) else w
    else w

/-! ### Reports in a span (R133, R136, R139, R140) -/

/-- A span's end (R135, R136, R139, R140): the reference is updated, the next span follows without a break, and a suspicious span
leads to SUSPECT or to confirmation. -/
def Work.endSpan (w : Work) (l : Leg) (sp : Span) (t : Stamp) : Work :=
  let m := (w.leg l).monitor
  let reference := m.referenceAfter sp
  let next := Span.fresh ((sp.learning && sp.mean.isNone) || reference.isNone) t.next
  let bad := !sp.learning && suspicious m.settings sp.counts
  let w := w.mapMonitor l fun m => { m with reference := reference, span := some next }
  match m.state, m.suspicion with
  | .watching, _ =>
    if bad then
      (w.mapMonitor l fun m => { m with state := .suspect, suspicion := some t }).raiseSuspect l sp.counts none
    else w
  | .suspect, some first =>
    if bad && m.settings.confirmGap ≤ first.roundsTo t && first.roundsTo t ≤ m.settings.confirmWindow then w.confirm l sp
    else w
  | _, _ => w

/-- Whether the monitor counts the report of a round in its span (R133). -/
def Monitor.counts (m : Monitor) (t : Stamp) : Option Span :=
  match m.state, m.span with
  | .watching, some sp | .suspect, some sp => if sp.countFrom.notAfter t then some sp else none
  | _, _ => none

/-- A report taken by the monitor (R133, R143). -/
def Work.takeReport (w : Work) (l : Leg) (r : RoundReport) : Work :=
  let m := (w.leg l).monitor
  match m.state with
  | .hunting | .verifying => w.observeStep l r
  | _ =>
    match m.counts r.round with
    | none => w
    | some sp =>
      let sp := sp.count m r
      if sp.position ≥ m.settings.watchSpan then w.endSpan l sp r.round
      else w.mapMonitor l fun m => { m with span := some sp }

/-- Whether a report would end the span in progress (R133). -/
def Monitor.endsSpan (m : Monitor) (r : RoundReport) : Bool :=
  (m.counts r.round).any fun sp => sp.position + 1 ≥ m.settings.watchSpan

/-! ### The boundary's part (R140, R149), arming and disarming -/

/-- A SUSPECT monitor whose confirm window has passed returns to WATCHING, its span going on (R140). -/
def Work.suspectTimeout (w : Work) (l : Leg) : Work :=
  let m := (w.leg l).monitor
  match m.state, m.suspicion with
  | .suspect, some t =>
    if t.roundsTo w.stamp > m.settings.confirmWindow then
      w.mapMonitor l fun m => { m with state := .watching, suspicion := none }
    else w
  | _, _ => w

/-- A hold-off that has run out: WATCHING with a fresh span, learning if the relearn flag is set (R149). -/
def Work.holdoffEnds (w : Work) (l : Leg) : Work :=
  let relearn := (w.leg l).monitor.relearn
  (w.mapMonitor l fun m => { m.idle .watching with relearn := false }).beginSpan l relearn

/-- The hold-off one round shorter; at 0 it ends (R149). -/
def Work.holdoffTick (w : Work) (l : Leg) : Work :=
  let m := (w.leg l).monitor
  match m.state, m.holdOffLeft with
  | .holdoff, some n => if n ≤ 1 then w.holdoffEnds l else w.mapMonitor l fun m => { m with holdOffLeft := some (n - 1) }
  | _, _ => w

/-- The rounds elapsed in the current step, one more (R130). -/
def Work.stepTick (w : Work) (l : Leg) : Work :=
  w.mapMonitor l fun m => { m with step := m.step.map fun s => { s with elapsed := s.elapsed + 1 } }

/-- The monitor becomes DISARMED when its leg leaves service: settings, relearn flag and last verdict kept (R130, R150). A MUTE that it
still asks for is asked for no more (DESIGN CHOICE, unsafe: log 42). -/
def Work.disarmForLeg (w : Work) (l : Leg) : Work :=
  w.mapMonitor l fun m => Monitor.disarmed m.settings m.relearn m.lastVerdict

/-- The monitor becomes DISARMED by ROGUE_DISARM; orders it still asks for, other than its step's, are kept (R138, log 15). -/
def Work.disarmByHost (w : Work) (l : Leg) : Work :=
  w.mapMonitor l fun m =>
    { Monitor.disarmed m.settings m.relearn m.lastVerdict with asks := m.asks.filter fun a => !a.ofStep }

/-- The leg enters RETIMING: the span in progress is abandoned, and whether it was a learning span is remembered (R133). Until the leg
returns to ON, ROGUE_READ shows no span position, learning flag or counts (DEDUCED, unsafe: log 48). -/
def Work.abandonSpan (w : Work) (l : Leg) : Work :=
  w.mapMonitor l fun m => { m with span := none, owedLearning := m.span.any Span.learning }

/-- The leg returns to ON: the span that begins (R133). -/
def Work.resumeSpan (w : Work) (l : Leg) : Work :=
  let m := (w.leg l).monitor
  match m.state with
  | .watching | .suspect =>
    (w.mapMonitor l fun m => { m with owedLearning := false }).beginSpan l m.owedLearning
  | _ => w.mapMonitor l fun m => { m with owedLearning := false }

end Sys2Proof.Machine
end

