-- ==== Sys2Proof/Machine/MapBuild.lean ====
section
/-! DEFINITION. The Grant Scheduler: the tail-window requests and their arbitration, and the stages of a map build (R59, R62, R89 to R101,
R132). -/

namespace Sys2Proof.Machine

/-! ### Requests and arbitration (R59, R62, R90, R132) -/

/-- The monitor is HUNTING or VERIFYING. -/
def MonitorState.searching : MonitorState → Bool
  | .hunting | .verifying => true
  | _ => false

/-- A FOUND entry waits for ranging: no SET_DELAY for it is in the queue or owed (R62). -/
def LegRecord.waitsForRanging (r : LegRecord) (d : Drop) : Bool :=
  r.drops[d].state == .found && !(hasOrder r.orders d .setDelay) && !(r.owed.any fun i => i.sameKind d .setDelay)

/-- The discovery window is due by the schedule (R59 condition 5). -/
def LegRecord.discoveryByTime (r : LegRecord) : Bool :=
  r.schedule.neverPlaced || r.schedule.roundsSince ≥ r.control.settings.discovery ||
    (r.schedule.quickRetry && r.schedule.roundsSince ≥ 8)

/-- The conditions of R59 for a discovery request. -/
def LegRecord.asksDiscovery (r : LegRecord) : Bool :=
  r.control.state == .on && r.control.settings.discovery != 0 &&
    (r.drops.any fun e => e.state == .vacant || e.state == .lost) && !r.monitor.state.searching && r.discoveryByTime

/-- An entry waiting for ranging is eligible from the boundary after it entered FOUND: not at the boundary `k` that made it so (R62). -/
def LegRecord.eligibleForRanging (r : LegRecord) (k : Stamp) (d : Drop) : Bool :=
  r.waitsForRanging d && r.drops[d].since != k

/-- The entry a ranging request names: the eligible waiting one with the lowest index (R62). -/
def LegRecord.asksRanging (r : LegRecord) (k : Stamp) : Option Drop :=
  if r.control.state == .on && !r.monitor.state.searching then allDrops.find? (r.eligibleForRanging k) else none

/-- A probe window is asked for at the boundary that begins an observation round (R132). -/
def LegRecord.asksProbe (r : LegRecord) (k : Stamp) : Bool :=
  r.control.state == .on && r.monitor.state.searching && r.monitor.observes k

/-- A watch gap is asked for at any other boundary of an armed monitor whose round is a multiple of 8 (R132). -/
def LegRecord.asksWatch (r : LegRecord) (k : Stamp) : Bool :=
  r.control.state == .on && r.monitor.state != .disarmed && !r.asksProbe k && k.round % 8 == 0

/-- The requests made at the boundary that begins round `k` (R90). -/
def LegRecord.requestsAt (r : LegRecord) (k : Stamp) : WindowRequests where
  probe := r.asksProbe k
  ranging := r.asksRanging k
  discovery := r.asksDiscovery
  watch := r.asksWatch k

/-- The window awarded to the earliest request of R90's table. -/
def award (q : WindowRequests) (reach : Nat) : Option TailWindow :=
  if q.probe then some ⟨.probe, 256⟩
  else if q.ranging.isSome then some ⟨.ranging, reach + 32⟩
  else if q.discovery then some ⟨.discovery, reach + 80⟩
  else if q.watch then some ⟨.watch, 64⟩
  else none

/-! ### The build (R91 to R99) -/

/-- The state of a map build: the lane table with its credits, the room R left, the drops that hold a burst, the grants
so far (lane and beats), and the refused drops. -/
structure Build where
  lanes   : Vector (Option Lane) 256
  room    : Nat
  holders : List Drop
  grants  : List (Fin 256 × Nat)
  refused : List Drop

/-- A drop's lane grants are allowed by R100: SERVING, no SLEEP awaiting its echo, not sleep-cancelled. -/
def LegRecord.eligible (r : LegRecord) (d : Drop) : Bool :=
  r.drops[d].state == .serving && !(hasAwaiting r.orders d .sleep) && !r.drops[d].sleepCancelled

/-- The lanes of a table with their numbers, in lane number order. -/
def laneEntries (t : Vector (Option Lane) 256) : List (Fin 256 × Lane) :=
  allLanes.filterMap fun n => (t[n]).map fun x => (n, x)

/-- An ACTIVE FIXED lane of drop `d`. -/
def Lane.activeFixed (x : Lane) (d : Drop) : Bool := x.owner == d && x.state == .active && x.isFixed

/-- The rotation order from the pointer (R94). -/
def rotation (p : Drop) : List Drop := allDrops.map fun i => p + i

/-- A burst opened for a drop: 16 beats of overhead. -/
def Build.openBurst (b : Build) (d : Drop) : Build := { b with room := b.room - 16, holders := b.holders ++ [d] }

/-- Beats granted to a lane. -/
def Build.grant (b : Build) (n : Fin 256) (beats : Nat) : Build :=
  { b with room := b.room - beats, grants := b.grants ++ [(n, beats)] }

/-- A drop marked refused. -/
def Build.refuse (b : Build) (d : Drop) : Build :=
  if b.refused.contains d then b else { b with refused := b.refused ++ [d] }

/-- Stage 1: the FIXED lanes of eligible drops, in ascending drop index (R91). -/
def Build.stage1 (r : LegRecord) (b : Build) : Build :=
  allDrops.foldl (fun b d =>
    let xs := (laneEntries r.lanes).filter fun x => x.2.activeFixed d
    if r.eligible d && !xs.isEmpty then xs.foldl (fun b x => b.grant x.1 x.2.fixedBeats) (b.openBurst d) else b) b

/-- The reasons for a keepalive (R92). -/
def LegRecord.wantsKeepalive (r : LegRecord) (k : Nat) (d : Drop) : Bool :=
  let e := r.drops[d]
  (match e.state with
    | .trimming => true
    | .awaiting | .serving => e.noBurst ≥ 8
    | .dormant => e.wakeCount == some 0
    | _ => false) || r.owedEcho k d

/-- Stage 2: keepalives, in ascending drop index, while there is room and a burst place (R92). -/
def Build.stage2 (r : LegRecord) (k : Nat) (b : Build) : Build :=
  allDrops.foldl (fun b d =>
    if r.wantsKeepalive k d && !b.holders.contains d && b.room ≥ 16 && b.holders.length < 64 then b.openBurst d else b) b

/-- Credit accrued by an ACTIVE ASSURED lane of an eligible drop (R94). -/
def Lane.accrue (x : Lane) (r : LegRecord) : Lane :=
  match x.figures with
  | .assured rate _ =>
    if x.state = .active ∧ r.eligible x.owner then { x with credit := x.credit.map fun c => min (c + rate) (2 * rate) }
    else x
  | _ => x

/-- A lane's credit lower by the beats granted (R95). -/
def spendCredit (t : Vector (Option Lane) 256) (n : Fin 256) (beats : Nat) : Vector (Option Lane) 256 :=
  t.set n.val ((t[n]).map fun x => { x with credit := x.credit.map fun c => c - beats })

/-- One ASSURED lane taken in stage 3 (R95). -/
def Build.assured (b : Build) (n : Fin 256) : Build :=
  match b.lanes[n] with
  | none => b
  | some x =>
    match x.figures with
    | .assured _ peak =>
      let d := x.owner
      let want := min (x.credit.getD 0) (min (beatsOf x.backlog) peak)
      let holds := b.holders.contains d
      let need := if holds then want else want + 16
      if want = 0 then b
      else if !holds && b.holders.length ≥ 64 then b.refuse d
      else if b.room ≥ need then
        let b := if holds then b else b.openBurst d
        { b.grant n want with lanes := spendCredit b.lanes n want }
      else
        let short := if holds then b.room else b.room - 16
        if short ≥ 1 then
          let b := if holds then b else b.openBurst d
          ({ b.grant n short with lanes := spendCredit b.lanes n short }).refuse d
        else b.refuse d
    | _ => b

/-- Stage 3: accrual, then the ACTIVE ASSURED lanes of the eligible drops in rotation order (R94, R95). -/
def Build.stage3 (r : LegRecord) (b : Build) : Build :=
  let b := { b with lanes := b.lanes.map fun o => o.map fun x => x.accrue r }
  (rotation r.pointer).foldl (fun b d =>
    if r.eligible d then
      ((laneEntries r.lanes).filter fun x => x.2.owner == d && x.2.state == .active).foldl (fun b x => b.assured x.1) b
    else b) b

/-- A SURPLUS lane's weight and peak cap. -/
def Lane.surplus? (x : Lane) : Option (Nat × Nat) :=
  match x.figures with
  | .surplus w p => some (w, p)
  | _ => none

/-- The SURPLUS lanes that may take part: ACTIVE, with backlog, of an eligible owner (R96). -/
def LegRecord.surplusLanes (r : LegRecord) : List (Fin 256 × Lane) :=
  (laneEntries r.lanes).filter fun x =>
    x.2.surplus?.isSome && x.2.state == .active && x.2.backlog > 0 && r.eligible x.2.owner

/-- Stage 4: the drops without a burst that hold such a lane, in rotation order, are admitted or refused (R96). -/
def Build.stage4 (r : LegRecord) (b : Build) : Build :=
  let before := b.holders
  (rotation r.pointer).foldl (fun b d =>
    if (r.surplusLanes.any fun x => x.2.owner == d) && !before.contains d then
      if b.holders.length < 64 && b.room ≥ 32 then b.openBurst d else b.refuse d
    else b) b

/-- A SURPLUS lane's share in the two passes: the lane, its number, its beats so far, and whether the first pass capped it. -/
structure Share where
  number : Fin 256
  lane   : Lane
  beats  : Nat
  capped : Bool

/-- What remains of an over-quota owner's allowance after some shares (R97, R98). -/
def allowanceLeft (throttle : Nat) (owner : Drop) (done : List Share) : Nat :=
  throttle - ((done.filter fun s => s.lane.owner == owner).map Share.beats).sum

/-- The first pass (R97): each share floor(R' × weight / Σw), cut to headroom and to an over-quota owner's allowance. -/
def firstPass (room throttle : Nat) (isOver : Drop → Bool) (xs : List (Fin 256 × Lane)) : List Share :=
  let total := (xs.map fun x => (x.2.surplus?.getD (0, 0)).1).sum
  xs.foldl (fun done x =>
    let (w, peak) := x.2.surplus?.getD (0, 0)
    let share := room * w / total
    let cut := min share (min (beatsOf x.2.backlog) peak)
    let beats := if isOver x.2.owner then min cut (allowanceLeft throttle x.2.owner done) else cut
    done ++ [⟨x.1, x.2, beats, beats < share⟩]) []

/-- The second pass (R98): the leftover shared among the uncapped lanes, within what headroom and allowance remain. -/
def secondPass (room throttle : Nat) (isOver : Drop → Bool) (shares : List Share) : List Share :=
  let left := room - (shares.map Share.beats).sum
  let total := ((shares.filter fun s => !s.capped).map fun s => (s.lane.surplus?.getD (0, 0)).1).sum
  (shares.foldl (fun (acc : List Share × List Share) s =>
    let (done, rest) := acc
    let rest := rest.drop 1
    if s.capped then (done ++ [s], rest)
    else
      let (w, peak) := s.lane.surplus?.getD (0, 0)
      let cut := min (left * w / total) (min (beatsOf s.lane.backlog - s.beats) (peak - s.beats))
      let extra := if isOver s.lane.owner then min cut (allowanceLeft throttle s.lane.owner (done ++ s :: rest)) else cut
      (done ++ [{ s with beats := s.beats + extra }], rest)) ([], shares)).1

/-- Stage 5: the SURPLUS grants; a drop admitted in stage 4 that ends with no beats keeps its 16 beats and is refused (R97, R98). -/
def Build.stage5 (r : LegRecord) (isOver : Drop → Bool) (before : List Drop) (b : Build) : Build :=
  let xs := r.surplusLanes.filter fun x => b.holders.contains x.2.owner
  let up := r.control.settings.upThrottle
  let shares := secondPass b.room up isOver (firstPass b.room up isOver xs)
  let b := shares.foldl (fun b s => if s.beats = 0 then b else b.grant s.number s.beats) b
  (b.holders.filter fun d => !before.contains d).foldl (fun b d =>
    if shares.any fun s => s.lane.owner == d && s.beats > 0 then b else b.refuse d) b

/-- Stages 1 to 3 for the room `A` of a round. -/
def grantsToStage3 (r : LegRecord) (k : Nat) (A : Nat) : Build := (((⟨r.lanes, A, [], [], []⟩ : Build).stage1 r).stage2 r k).stage3 r

/-- Stages 1 to 5 for the room `A` of a round. -/
def buildGrants (r : LegRecord) (isOver : Drop → Bool) (k : Nat) (A : Nat) : Build :=
  let b := grantsToStage3 r k A
  (b.stage4 r).stage5 r isOver b.holders

/-- The drops marked refused in stage 3 or 4, which decide where the rotation pointer goes (R101). -/
def pointerMarks (r : LegRecord) (k : Nat) (A : Nat) : List Drop := ((grantsToStage3 r k A).stage4 r).refused

/-- The beats granted to a lane in a build. -/
def Build.beats (b : Build) (n : Fin 256) : Nat := ((b.grants.filter fun g => g.1 == n).map Prod.snd).sum

/-- The segments of a drop's burst, in lane number order (R99). -/
def Build.segments (b : Build) (d : Drop) : List Segment :=
  ((laneEntries b.lanes).filter fun x => x.2.owner == d && b.beats x.1 > 0).map fun x => ⟨x.2.port, x.1, b.beats x.1⟩

/-- The burst holders in placement order: drops with an ACTIVE FIXED lane ascending, then the others in rotation order (R99). -/
def Build.placement (b : Build) (r : LegRecord) : List Drop :=
  let fixed := fun d => (laneEntries r.lanes).any fun x => x.2.activeFixed d
  (allDrops.filter fun d => b.holders.contains d && fixed d) ++
    ((rotation r.pointer).filter fun d => b.holders.contains d && !fixed d)

/-- Bursts laid end to end from a beat (R99). -/
def layBursts (segs : Drop → List Segment) : Nat → List Drop → List Burst
  | _, [] => []
  | start, d :: ds =>
    let len := 16 + ((segs d).map Segment.beats).sum
    ⟨d, start, len, segs d⟩ :: layBursts segs (start + len) ds

/-- The beats granted to the lanes that meet `p`. -/
def Build.classBeats (b : Build) (p : Lane → Bool) : Nat :=
  (((laneEntries b.lanes).filter fun x => p x.2).map fun x => b.beats x.1).sum

/-- The rotation pointer after a build (R101), for the drops `marked` refused in stage 3 or 4: the one of them first in rotation order,
else the next non-VACANT index. A drop that R98 marks behind the second pass, in stage 5, moves no pointer, and where drops are marked at
both places the pointer goes to the first of stage 3 and 4 (the latter DEDUCED, unsafe: log 43). -/
def nextPointer (r : LegRecord) (marked : List Drop) : Drop :=
  match (rotation r.pointer).find? fun d => marked.contains d with
  | some d => d
  | none => (((rotation r.pointer).drop 1).find? fun d => r.drops[d].state != .vacant).getD r.pointer

/-- The full map of round `k` (R89 to R99) and its build. -/
def fullMap (r : LegRecord) (isOver : Drop → Bool) (k : Stamp) (win : Option TailWindow) (ranging : Option RangingEntry) :
    GrantMap × Build :=
  let A := 8000 - (win.map TailWindow.length).getD 0
  let b := buildGrants r isOver k.round A
  let bursts := layBursts b.segments 0 (b.placement r)
  ({ round := k, empty := false, window := win, ranging := ranging
     invitation := if (win.map TailWindow.kind) == some .discovery then some 7920 else none
     bursts := bursts
     fixedBeats := b.classBeats Lane.isFixed
     assuredBeats := b.classBeats fun x => !x.isFixed && x.surplus?.isNone
     surplusBeats := b.classBeats fun x => x.surplus?.isSome
     idleBeats := A - (bursts.map Burst.length).sum
     refused := (rotation r.pointer).filter fun d => b.refused.contains d
     pointerBefore := r.pointer
     pointerAfter := nextPointer r (pointerMarks r k.round A) }, b)

/-- The empty map of a PREPARING or RETIMING round (R89): all 8,000 beats idle, the pointer where it stands. -/
def emptyMap (p : Drop) (k : Stamp) : GrantMap where
  round := k
  empty := true
  window := none
  ranging := none
  invitation := none
  bursts := []
  fixedBeats := 0
  assuredBeats := 0
  surplusBeats := 0
  idleBeats := 8000
  refused := []
  pointerBefore := p
  pointerAfter := p

/-- A map goes to the Burst Receiver with the reach span of its round (R5, R103), which holds at most two (R89), and is kept for
MAP_READ (R102). -/
def LegRecord.takeMap (r : LegRecord) (m : GrantMap) : LegRecord :=
  let held := r.inFlight ++ [⟨m, r.control.settings.reach, 0, 0, 0, false, false⟩]
  { r with keptMap := some m, inFlight := held.drop (held.length - 2) }

/-- The counts a full build moves at its start: the no-burst run of every non-VACANT entry up by 1 to 8 (R93), the countdown of
every DORMANT entry down by 1 to 0 (R123). -/
def DropEntry.buildStarts (e : DropEntry) : DropEntry :=
  let e := if e.state = .vacant then e else { e with noBurst := min (e.noBurst + 1) 8 }
  if e.state = .dormant then { e with wakeCount := e.wakeCount.map fun n => n - 1 } else e

/-- The counts a full build moves at its end for a drop that holds a burst (R93, R123). -/
def DropEntry.buildEnds (e : DropEntry) : DropEntry :=
  let e := { e with noBurst := 0 }
  if e.state = .dormant then { e with wakeCount := e.wakeInterval } else e

/-- The tail window of the round awarded, with what the award changes: a ranging window makes its drop RANGING (R62), a discovery window
restarts the schedule (R58). -/
def Work.awardWindow (w : Work) (l : Leg) : Work × Option TailWindow × Option RangingEntry :=
  let r := w.leg l
  let q := r.requestsAt w.stamp
  let w := w.mapLeg l fun r => { r with requests := q }
  let win := award q r.control.settings.reach
  match win.map TailWindow.kind, q.ranging with
  | some .ranging, some d =>
    let e := r.drops[d]
    (w.setState l d .ranging, win, some ⟨e.serial.getD 0, d, e.origin == some .released, 7968⟩)
  | some .discovery, _ =>
    (w.mapLeg l fun r => { r with schedule := { r.schedule with roundsSince := 0, neverPlaced := false } }, win, none)
  | _, _ => (w, win, none)

/-- The full map of a round in ON built and handed over (R89 to R101). -/
def Work.buildFull (w : Work) (l : Leg) : Work :=
  let (w, win, ranging) := w.awardWindow l
  let w := w.mapLeg l fun r => { r with drops := r.drops.map DropEntry.buildStarts }
  let r := w.leg l
  let (m, b) := fullMap r (w.overQuota l) w.stamp win ranging
  w.mapLeg l fun r =>
    let drops := Vector.ofFn fun d : Drop => if b.holders.contains d then r.drops[d].buildEnds else r.drops[d]
    let lanes := Vector.ofFn fun n : Fin 256 =>
      (b.lanes[n]).map fun x => if b.beats n > 0 then { x with lastGrant := some (w.stamp.round, b.beats n) } else x
    ({ r with drops := drops, lanes := lanes, pointer := m.pointerAfter }).takeMap m

/-- The empty map of a round in PREPARING or RETIMING (R10, R11, R89). -/
def Work.buildEmpty (w : Work) (l : Leg) : Work :=
  w.mapLeg l fun r => ({ r with requests := WindowRequests.none }).takeMap (emptyMap r.pointer w.stamp)

end Sys2Proof.Machine
end

