-- ==== Sys2Proof/Machine/Rounds.lean ====
section
/-! DEFINITION. Downstream rounds and the round boundary: the announcement block, the band, the assembly and the fill of a round, the
closes of a boundary, and everything a boundary does in its order (R1, R10, R11, R16, R33, R58, R155 to R161, R164 to R166, R173,
R180, R181). -/

namespace Sys2Proof.Machine

/-! ### The announcement block (R159, R161) -/

/-- Byte `i` of a number's big-endian form, 0 being the least significant byte. -/
def byteOf (n i : Nat) : Byte := BitVec.ofNat 8 (n / 256 ^ i)

/-- Bytes 0 to 62 of an announcement block (R159). -/
def blockBody (l : Leg) (band : Fin 4) (cycle : Nat) (host : Vector Byte 40) : List Byte :=
  [BitVec.ofNat 8 l.val, BitVec.ofNat 8 band.val, byteOf cycle 3, byteOf cycle 2, byteOf cycle 1, byteOf cycle 0] ++
    host.toList ++ List.replicate 17 0

/-- The announcement block of a leg, its CRC-8 last (R159). -/
def composeBlock (l : Leg) (band : Fin 4) (cycle : Nat) (host : Vector Byte 40) : Vector Byte 64 :=
  let body := blockBody l band cycle host
  let all := body ++ [crc8 body]
  Vector.ofFn fun i : Fin 64 => all.getD i.val 0

/-! ### Assembly and fill (R155 to R157, R164 to R166) -/

/-- The byte times of a header (R156). -/
def RoundHeader.length (h : RoundHeader) : Nat :=
  16 + (if h.invitation.isSome then 4 else 0) + (if h.ranging.isSome then 12 else 0) + 24 * h.orders.length +
    (h.bursts.map fun b => 4 + 3 * b.segments.length).sum + 4

/-- The states in which a drop is sent its frames (R164 case 1). -/
def DropState.takesFrames : DropState → Bool
  | .serving | .dormant | .hushed | .quarantined => true
  | _ => false

/-- The room a frame takes in a round (R157, R162). -/
def Frame.room (f : Frame) : Nat := f.data.length + 4

/-- The occupancy of a FIFO (R162). -/
def occupancy (q : List Frame) : Nat := (q.map Frame.room).sum

/-- Some frames counted in the leg's downstream frames discarded (R117, R162 to R164). -/
def Work.discardDown (w : Work) (l : Leg) (n : Nat) : Work :=
  w.mapStats l fun s => { s with downDiscarded := saturate 4294967295 s.downDiscarded n }

/-- A drop's remaining down allowance lowered (R164, R165). -/
def Work.drawAllowance (w : Work) (l : Leg) (d : Drop) (bytes : Nat) : Work :=
  w.mapLeg l fun r => { r with allowance := r.allowance.set d.val (r.allowance[d] - bytes) }

/-- A frame sent: a SURPLUS frame of an over-quota drop draws on the allowance, and the frame is charged in the band in force (R164
case 4, R166). -/
def Work.sendFrame (w : Work) (l : Leg) (f : Frame) : Work :=
  let w := if f.surplus && w.overQuota l f.drop then w.drawAllowance l f.drop f.data.length else w
  w.charge l f.drop false f.data.length w.blocks.band

/-- The frames of a FIFO decided one by one from its head (R164): the frames sent so far grow, and what is left stays queued. -/
def fillFrames (l : Leg) : List Frame → Nat → List Frame → Work → Work × List Frame × List Frame
  | [], _, sent, w => (w, sent, [])
  | f :: fs, room, sent, w =>
    if !(w.drop l f.drop).state.takesFrames || (w.meter l f.drop).isNone then fillFrames l fs room sent (w.discardDown l 1)
    else if f.surplus && w.overQuota l f.drop && f.data.length > (w.leg l).allowance[f.drop] then
      fillFrames l fs room sent (w.shedBytes l f.drop f.data.length)
    else if f.room > room then (w, sent, f :: fs)
    else fillFrames l fs (room - f.room) (sent ++ [f]) (w.sendFrame l f)

/-- A round filled: allowances set to the down-throttle, then the FIFO taken (R164, R165). -/
def Work.fill (w : Work) (l : Leg) (room : Nat) : Work × List Frame :=
  let w := w.mapLeg l fun r => { r with allowance := Vector.replicate 128 r.control.settings.downThrottle }
  let (w, sent, rest) := fillFrames l (w.leg l).fifo room [] w
  (w.mapLeg l fun r => { r with fifo := rest }, sent)

/-- The header of the round that begins, from the map just built and the orders chosen (R155, R156, R161). -/
def Work.header (w : Work) (l : Leg) (orders : List OrderPlace) (m : GrantMap) : RoundHeader where
  round := w.stamp.round
  band := w.blocks.band
  announce := (w.leg l).block[w.stamp.round % 64]'(Nat.mod_lt _ (by decide))
  invitation := m.invitation
  ranging := m.ranging
  orders := orders
  bursts := m.bursts

/-- The map of the round that begins, as it was kept (R89). -/
def Work.mapNow (w : Work) (l : Leg) : GrantMap := ((w.leg l).keptMap).getD (emptyMap (w.leg l).pointer w.stamp)

/-- A round assembled: the header, and in ON and RETIMING the frames (R155, R10). -/
def Work.assemble (w : Work) (l : Leg) (orders : List OrderPlace) : Work :=
  let h := w.header l orders (w.mapNow l)
  let (w, frames) :=
    if (w.leg l).control.state == .preparing then (w, []) else w.fill l (128000 - h.length)
  w.mapLeg l fun r => { r with sending := some ⟨h, frames⟩ }

/-! ### The payload of a round (R157) -/

/-- What one byte time of a payload carries: byte `place` of the 4 of a frame head, with the fields of the head, a byte of a frame's data,
or fill (R157). The spec gives the head's fields and its 4 byte times, and no layout of them. -/
inductive PayloadByte where
  | head (drop : Drop) (surplus : Bool) (length place : Nat)
  | data (byte : Byte)
  | fill (byte : Byte)
deriving DecidableEq, Repr

/-- The value of fill, which a unit reads as a frame head of length 0 (R157). -/
def fillByte : Byte := 0

/-- Byte time `i` behind the header of a round that carries these frames end to end, and fill behind the last (R157). -/
def framesAt : List Frame → Nat → PayloadByte
  | [], _ => .fill fillByte
  | f :: fs, i =>
    if i < 4 then .head f.drop f.surplus f.data.length i
    else if i < f.room then .data (f.data.getD (i - 4) 0)
    else framesAt fs (i - f.room)

/-- Byte time `i` of the payload of a round, which ends with the round's 128,000 byte times (R155 to R157). -/
def DownstreamRound.payloadAt (r : DownstreamRound) (i : Nat) : Option PayloadByte :=
  if r.header.length + i < 128000 then some (framesAt r.frames i) else none

/-! ### Leg states at a boundary (R10, R11, R16) -/

/-- A leg in FAULT whose LASER_FAULT input was inactive throughout the round enters PREPARING (R16). -/
def Work.recover (w : Work) (l : Leg) : Work :=
  let c := (w.leg l).control
  if c.state == .fault && !c.faultSeen && !c.laserFault then w.setLeg l .preparing none 64 else w

/-- A leg in PREPARING whose 64 rounds are sent enters ON (R10). -/
def Work.endPreparing (w : Work) (l : Leg) : Work :=
  let c := (w.leg l).control
  if c.state == .preparing && c.roundsLeft == 0 then w.setLeg l .on else w

/-- A leg in RETIMING whose 4 rounds are sent returns to ON, where a span begins (R11, R133). -/
def Work.endRetiming (w : Work) (l : Leg) : Work :=
  let c := (w.leg l).control
  if c.state == .retiming && c.roundsLeft == 0 then (w.setLeg l .on).resumeSpan l else w

/-- The LASER_FAULT input watched from here on: a round begins, and what was seen of the input before counts no more (R16). -/
def LegControl.watchAfresh (c : LegControl) : LegControl := { c with faultSeen := c.laserFault }

/-- One round counted off in PREPARING or RETIMING, the laser on from the first PREPARING round, and the LASER_FAULT input watched
afresh (R10, R11, R16). That the count of RETIMING falls at the boundary that begins each RETIMING round, 3 being left in the
first, is the model's choice (DESIGN CHOICE, unsafe: log 36). -/
def LegControl.beginRound (c : LegControl) : LegControl :=
  { c.watchAfresh with
    roundsLeft := if c.state = .preparing ∨ c.state = .retiming then c.roundsLeft - 1 else c.roundsLeft
    txen := if c.state = .preparing then true else c.txen }

/-- The leg's state advanced at a boundary. -/
def Work.advanceLeg (w : Work) (l : Leg) : Work :=
  (((w.recover l).endPreparing l).endRetiming l).mapControl l LegControl.beginRound

/-! ### Holds and schedules (R33, R58) -/

/-- An entry's lost hold, or the hold a HUSHED entry keeps, one round shorter; at 0 the entry retires (R33). -/
def Work.holdTick (w : Work) (l : Leg) (d : Drop) : Work :=
  let e := w.drop l d
  match e.state, e.hold, e.resume with
  | .lost, some n, _ =>
    if n ≤ 1 then w.retire l d .holdExpired else w.mapDrop l d fun e => { e with hold := some (n - 1) }
  | .hushed, _, some r =>
    match r.state, r.hold with
    | .lost, some n =>
      if n ≤ 1 then w.retire l d .holdExpired
      else w.mapDrop l d fun e => { e with resume := some { r with hold := some (n - 1) } }
    | _, _ => w
  | _, _, _ => w

/-- The discovery schedule one round on (R58). -/
def DiscoverySchedule.tick (s : DiscoverySchedule) : DiscoverySchedule := { s with roundsSince := min (s.roundsSince + 1) 4096 }

/-! ### The band and the closes (R173, R180, R181) -/

/-- The band schedule applied at a block boundary: due entries leave, the latest sets the band, BAND_CHANGED is raised (R173). -/
def Work.applyBand (w : Work) : Work :=
  let due := w.blocks.bandPlan.filter fun e => e.boundary.le w.stamp
  match due.getLast? with
  | none => w
  | some e =>
    let before := w.blocks.band
    { w with
      blocks :=
        { w.blocks with band := e.band, bandPlan := w.blocks.bandPlan.filter fun e => !(e.boundary.le w.stamp) } }.raise
      none none (.bandChanged before e.band)

/-- Every leg composes its new announcement block (R159). -/
def Work.composeBlocks (w : Work) : Work :=
  forLegs (fun l w => w.mapLeg l fun r => { r with block := composeBlock l w.blocks.band w.stamp.cycle r.hostBytes }) w

/-- A block boundary's own actions: the band, then the blocks (R159, R161, R173). -/
def Work.blockBoundary (w : Work) : Work := w.applyBand.composeBlocks

/-- Whether the periodic close falls due at a boundary (R180). -/
def Blocks.periodDue (b : Blocks) (s : Stamp) : Bool :=
  s.round == 0 && b.period != 0 && s.cycle != 0 && s.cycle % b.period == 0

/-- The closes of a boundary, each meter once, PERIOD before HOST (R179 to R181). -/
def Work.boundaryCloses (w : Work) : Work :=
  let due := w.blocks.periodDue w.stamp
  let w := forLegs (fun l w => forDrops allDrops (fun d w =>
      if due then (w.closeMeter l d .period).1
      else if w.blocks.hostClose[l] then (w.closeMeter l d .host).1
      else w) w) w
  { w with blocks := { w.blocks with hostClose := Vector.replicate 4 false } }

/-! ### The boundary -/

/-- The counters at a round boundary (R1). -/
def Timebase.nextRound (t : Timebase) : Timebase :=
  { t with
    beat := 0
    round := if t.round ≥ 4095 then 0 else t.round + 1
    cycle := if t.round ≥ 4095 then (t.cycle + 1) % 4294967296 else t.cycle }

/-- Whether a leg sends a header in its state (R10). -/
def LegState.sends : LegState → Bool
  | .preparing | .on | .retiming => true
  | _ => false

/-- The round a leg begins: waits settled, retries, orders, map, assembly (R43, R45, R50, R89, R155). -/
def Work.beginRound (w : Work) (l : Leg) : Work :=
  let st := (w.leg l).control.state
  if st.sends then
    let w := if st == .on then w.settleWaits l else w
    let w := w.retryOrders l
    let (w, orders) := w.sendOrders l
    let w := if st == .on then w.buildFull l else w.buildEmpty l
    w.assemble l orders
  else w

/-- What a boundary brings one leg, in its order (log 5). -/
def Work.legBoundary (w : Work) (l : Leg) : Work :=
  let w := (((w.holdoffTick l).suspectTimeout l).stepTick l).advanceLeg l
  let w := forDrops allDrops (fun d w => w.holdTick l d) w
  (w.mapLeg l fun r => { r with schedule := r.schedule.tick }).beginRound l

/-- Everything a round boundary does while the part is READY (R1), its counters already advanced. -/
def Work.boundary (w : Work) : Work :=
  let w := if w.stamp.round % 64 = 0 then w.blockBoundary else w
  forLegs (fun l w => w.legBoundary l) w.boundaryCloses

/-- A round boundary: the counters advance, then every block acts; nothing while LOCKING (R1). -/
def roundBoundary (s : State) : State :=
  if s.blocks.time.part = .ready then
    event Work.boundary { s with blocks := { s.blocks with time := s.blocks.time.nextRound } }
  else s

/-- What the part does when no command waits: one beat of the clock passes; the beat after 7,999 begins a round (R1; DESIGN CHOICE,
log 4). Nothing passes while LOCKING. -/
def idleBeat (s : State) : State :=
  if s.blocks.time.part = .ready then
    if s.blocks.time.beat ≥ 7999 then roundBoundary s
    else { s with blocks := { s.blocks with time := { s.blocks.time with beat := s.blocks.time.beat + 1 } } }
  else s

/-! ### The commands -/

/-- ROUND_BOUNDARY (R1). -/
def execRoundBoundary (s : State) : Host.Outcome State Fault Refusal := .next (roundBoundary s)

/-- ANNOUNCEMENT_BLOCK_BOUNDARY: the round boundary at which the round counter reaches a multiple of 64 (R1, R159, log 3). -/
def execAnnouncementBlockBoundary (s : State) : Host.Outcome State Fault Refusal :=
  .next (if (s.blocks.time.nextRound).round % 64 = 0 then roundBoundary s else s)

/-- CYCLE_BOUNDARY: the round boundary at which the round counter returns to 0 (R1, R180, log 3). -/
def execCycleBoundary (s : State) : Host.Outcome State Fault Refusal :=
  .next (if (s.blocks.time.nextRound).round = 0 then roundBoundary s else s)

/-- What a boundary brings one record, given as a command of its own: it happens only while the part is READY (R1, log 2). -/
def whileReady (f : Work → Work) (s : State) : Host.Outcome State Fault Refusal :=
  .next (if s.blocks.time.part = .ready then boundaryEvent f s else s)

/-- PREPARING_END (R10). -/
def execPreparingEnd (l : Leg) (s : State) : Host.Outcome State Fault Refusal := whileReady (fun w => w.endPreparing l) s

/-- RETIMING_END (R11). -/
def execRetimingEnd (l : Leg) (s : State) : Host.Outcome State Fault Refusal := whileReady (fun w => w.endRetiming l) s

/-- FAULT_RECOVERY (R16). -/
def execFaultRecovery (l : Leg) (s : State) : Host.Outcome State Fault Refusal := whileReady (fun w => w.recover l) s

/-- The hold of an entry that has one round left runs out (R33). -/
def Work.holdExpires (w : Work) (l : Leg) (d : Drop) : Work :=
  let e := w.drop l d
  let held : Option Nat := match e.state, e.resume with
    | .lost, _ => e.hold
    | .hushed, some r => if r.state == DropState.lost then r.hold else none
    | _, _ => none
  if held.any fun n => n ≤ 1 then w.retire l d .holdExpired else w

/-- LOST_HOLD_EXPIRY (R33). -/
def execLostHoldExpiry (l : Leg) (d : Drop) (s : State) : Host.Outcome State Fault Refusal :=
  whileReady (fun w => w.holdExpires l d) s

/-- The request for a discovery window at the boundary that begins the next round (R59). -/
def Work.discoveryDue (w : Work) (l : Leg) : Work :=
  w.mapLeg l fun r =>
    if ({ r with schedule := r.schedule.tick } : LegRecord).asksDiscovery then
      { r with requests := { r.requests with discovery := true } }
    else r

/-- DISCOVERY_DUE (R59). -/
def execDiscoveryDue (l : Leg) (s : State) : Host.Outcome State Fault Refusal := whileReady (fun w => w.discoveryDue l) s

/-- The countdown of a DORMANT entry reaches 0 at the next full map build (R123). -/
def Work.wakeCheckDue (w : Work) (l : Leg) (d : Drop) : Work :=
  if (w.leg l).control.state == .on && (w.drop l d).state == .dormant && (w.drop l d).wakeCount == some 1 then
    w.mapDrop l d fun e => { e with wakeCount := some 0 }
  else w

/-- WAKE_CHECK_DUE (R123). -/
def execWakeCheckDue (l : Leg) (d : Drop) (s : State) : Host.Outcome State Fault Refusal :=
  whileReady (fun w => w.wakeCheckDue l d) s

/-- An entry that waits for an echo from drop `d`, in its third round of waiting, counted at the boundary of round `k` (R50). -/
def OrderEntry.fallsDue (e : OrderEntry) (d : Drop) (k : Nat) (hushed : Bool) : Bool :=
  e.target == some d && e.awaiting && e.lastSent != some k && !hushed && e.waited ≥ 3

/-- The waits of a drop's entries that fall due at the next boundary brought to 4 (R50). -/
def Work.bringDue (w : Work) (l : Leg) (d : Drop) (p : OrderEntry → Bool) : Work :=
  w.mapLeg l fun r =>
    { r with
      orders := r.orders.map fun e =>
        if e.fallsDue d w.stamp.round (r.isHushed d) && p e then { e with waited := 4 } else e }

/-- The wait for an echo reaches 4 rounds with a resend left (R50 case 1). -/
def Work.resendFallsDue (w : Work) (l : Leg) (d : Drop) : Work :=
  if (w.leg l).control.state == .on then w.bringDue l d fun e => e.sends < 3 else w

/-- ECHO_WAIT_RESEND_DUE (R50). -/
def execEchoWaitResendDue (l : Leg) (d : Drop) (s : State) : Host.Outcome State Fault Refusal :=
  whileReady (fun w => w.resendFallsDue l d) s

/-- The wait for an echo reaches 4 rounds after the third send: the order fails (R50 case 2, R51). -/
def Work.waitFails (w : Work) (l : Leg) (d : Drop) : Work :=
  if (w.leg l).control.state == .on && !((w.leg l).isHushed d) then (w.bringDue l d fun e => e.sends ≥ 3).failOrder l d else w

/-- ORDER_FAILED (R51). -/
def execOrderFailed (l : Leg) (d : Drop) (s : State) : Host.Outcome State Fault Refusal :=
  whileReady (fun w => w.waitFails l d) s

/-- ORDER_RETRY: what found no room asks again (R43, R67). -/
def execOrderRetry (l : Leg) (s : State) : Host.Outcome State Fault Refusal := whileReady (fun w => w.retryOrders l) s

/-- SUSPECT_TIMEOUT (R140). -/
def execSuspectTimeout (l : Leg) (s : State) : Host.Outcome State Fault Refusal := whileReady (fun w => w.suspectTimeout l) s

/-- A hold-off with one round left runs out (R149). -/
def Work.holdoffExpires (w : Work) (l : Leg) : Work :=
  let m := (w.leg l).monitor
  match m.state, m.holdOffLeft with
  | .holdoff, some n => if n ≤ 1 then w.holdoffEnds l else w
  | _, _ => w

/-- HOLDOFF_EXPIRY (R149). -/
def execHoldoffExpiry (l : Leg) (s : State) : Host.Outcome State Fault Refusal := whileReady (fun w => w.holdoffExpires l) s

end Sys2Proof.Machine
end

