-- ==== Sys2Proof/Machine/Legs.lean ====
section
/-! DEFINITION. Pins, lock and legs: the reset pin, lock and loss of lock, the PULSE and LASER_FAULT pins, a leg's entry to FAULT and to
DRAINING, and the requests on legs (R1 to R17, R76 to R78, R160). -/

namespace Sys2Proof.Machine

/-! ### A leg leaves service (R12, R14, R15, R158) -/

/-- The frames of a leg's FIFO discarded uncharged, each counted (R162). -/
def Work.emptyFifo (w : Work) (l : Leg) : Work :=
  (w.discardDown l (w.leg l).fifo.length).mapLeg l fun r => { r with fifo := [] }

/-- The queues and the maps of a leg that sends no more headers: laser off, the round cut short, maps in flight and the kept copy
discarded, order queue and owed-order list emptied, FIFO emptied, monitor disarmed (R12, R15, R67, R89, R158). -/
def Work.leaveService (w : Work) (l : Leg) : Work :=
  let w := w.mapLeg l fun r =>
    { r with
      control := { r.control with txen := false }
      sending := none, inFlight := [], keptMap := none, requests := WindowRequests.none, orders := [], owed := [] }
  (w.emptyFifo l).disarmForLeg l

/-- What a leg fault makes of one entry, its HUSHED state already left (R15). -/
def Work.faultDrop (w : Work) (l : Leg) (d : Drop) : Work :=
  let e := w.drop l d
  match e.state with
  | .trimming | .awaiting | .serving | .dormant => w.lose l d .legFault
  | .found | .ranging =>
    match e.origin with
    | some (.reused hold _) => w.lose l d .legFault (some hold)
    | some .released => w.lose l d .legFault
    | _ => w.vacate l d
  | _ => w

/-- A leg enters FAULT (R14, R15); in OFF and FAULT nothing changes. -/
def Work.faultLeg (w : Work) (l : Leg) (cause : FaultCause) : Work :=
  match (w.leg l).control.state with
  | .preparing | .on | .retiming =>
    let w := ((w.setLeg l .fault (some cause)).leaveService l).unhushAll l none
    forDrops allDrops (fun d w => w.faultDrop l d) w
  | .draining => w.setLeg l .fault (some cause)
  | .off | .fault => w

/-- A leg enters DRAINING (R12), and OFF at once if no entry is left (R13). -/
def Work.drainLeg (w : Work) (l : Leg) : Work :=
  let w := (w.setLeg l .draining).leaveService l
  let w := w.mapLeg l fun r => { r with lanes := Vector.replicate 256 none }
  (forDrops allDrops (fun d w => w.retire l d .drain) w).drained l

/-! ### Pins and lock -/

/-- PIN_RESET: every block at its pin-reset state; the levels of the LASER_FAULT inputs are the pins' (R2, R17, R204). -/
def execPinReset (s : State) : Host.Outcome State Fault Refusal :=
  .next
    { State.reset with
      blocks :=
        { Blocks.reset with
          legs := Vector.ofFn fun l : Leg =>
            { LegRecord.reset l with
              control :=
                { (LegRecord.reset l).control with
                  laserFault := s.blocks.legs[l].control.laserFault, faultSeen := s.blocks.legs[l].control.laserFault } } }
      pending := s.pending }

/-- The Timebase's record changed. -/
def Work.mapTime (w : Work) (f : Timebase → Timebase) : Work :=
  { w with blocks := { w.blocks with time := f w.blocks.time } }

/-- Lock is reached (R2, R204). The first lock after a pin reset begins round 0, so each LASER_FAULT input is watched from there; a
later lock lets the interrupted round run on, with what was seen of the input since it began (R2, R16; DEDUCED, unsafe: log 55). -/
def Work.lock (w : Work) : Work :=
  let t := w.blocks.time
  if t.part = .locking then
    let w := w.mapTime fun t => { t with part := .ready, everLocked := true }
    let w := if t.everLocked then w else forLegs (fun l w => w.mapControl l LegControl.watchAfresh) w
    w.raise none none (.ready (!t.everLocked))
  else w

/-- LOCK_REACHED (R2). -/
def execLockReached (s : State) : Host.Outcome State Fault Refusal := .next (event Work.lock s)

/-- Lock is lost in READY: counters frozen, every leg not OFF in FAULT with cause CLOCK (R2, R14). -/
def Work.unlock (w : Work) : Work :=
  if w.blocks.time.part = .ready then
    forLegs (fun l w => w.faultLeg l .clock) (w.mapTime fun t => { t with part := .locking })
  else w

/-- LOSS_OF_LOCK (R2). -/
def execLossOfLock (s : State) : Host.Outcome State Fault Refusal := .next (event Work.unlock s)

/-- A capture put in the ring, which holds the last 4, and counted (R3). -/
def Timebase.capture (t : Timebase) : Timebase :=
  let ring := t.ring ++ [⟨⟨t.cycle, t.round⟩, t.beat⟩]
  { t with ring := ring.drop (ring.length - 4), captures := (t.captures + 1) % 4294967296 }

/-- A rising edge on PULSE (R3). -/
def Work.pulse (w : Work) : Work :=
  let t := w.blocks.time
  if t.part = .ready then (w.mapTime Timebase.capture).raise none none (.pulse ⟨⟨t.cycle, t.round⟩, t.beat⟩) else w

/-- PULSE_CAPTURE (R3). -/
def execPulseCapture (s : State) : Host.Outcome State Fault Refusal := .next (event Work.pulse s)

/-- The LASER_FAULT input of a leg becomes active (R14, R16). -/
def Work.laserFault (w : Work) (l : Leg) : Work :=
  (w.mapControl l fun c => { c with laserFault := true, faultSeen := true }).faultLeg l .laser

/-- LASER_FAULT_ASSERTED (R14). -/
def execLaserFaultAsserted (l : Leg) (s : State) : Host.Outcome State Fault Refusal := .next (event (fun w => w.laserFault l) s)

/-- LASER_FAULT_RELEASED: the input is inactive from now on (R16). -/
def execLaserFaultReleased (l : Leg) (s : State) : Host.Outcome State Fault Refusal :=
  .next (event (fun w => w.mapControl l fun c => { c with laserFault := false }) s)

/-- LEG_DRAINED (R13). -/
def execLegDrained (l : Leg) (s : State) : Host.Outcome State Fault Refusal := .next (event (fun w => w.drained l) s)

/-! ### Requests on legs (R4, R7 to R9, R12) -/

/-- PULSE_READ as its owner executes it (R4). -/
def doPulseRead : Handler := fun p w => .ok (.pulseRead w.blocks.time.captures w.blocks.time.ring) p w

/-- PULSE_READ (R4). -/
def execPulseRead (tag : Byte) (s : State) : Host.Outcome State Fault Refusal := serve 0x08 tag doPulseRead s

/-- A reach span of 625 to 6,250 beats (R6). -/
def reachInRange (reach : BitVec 16) : Bool := 625 ≤ reach.toNat && reach.toNat ≤ 6250

/-- A leg put in service (R9, R101). -/
def Work.legOn (w : Work) (l : Leg) (reach : Nat) : Work :=
  let w := w.mapLeg l fun r =>
    { r with
      control := { r.control with settings := { r.control.settings with reach := reach } }
      schedule := DiscoverySchedule.cleared }
  if (w.leg l).control.laserFault then w.setLeg l .fault (some .laser)
  else (w.mapLeg l fun r => { r with pointer := 0 }).setLeg l .preparing none 64

/-- LEG_ON as its owner executes it (R9). RANGE is tested before BUSY (DESIGN CHOICE, unsafe: log 37). -/
def doLegOn (leg : Byte) (reach : BitVec 16) : Handler := onLeg leg fun l p w =>
  if !(reachInRange reach) then .refuse .range p w
  else if (w.leg l).control.state != .off then .refuse .busy p w
  else .ok .none p (w.legOn l reach.toNat)

/-- LEG_ON (R9). -/
def execLegOn (tag leg : Byte) (reach : BitVec 16) (s : State) : Host.Outcome State Fault Refusal :=
  serve 0x10 tag (doLegOn leg reach) s

/-- LEG_OFF as its owner executes it (R12). -/
def doLegOff (leg : Byte) : Handler := onLeg leg fun l p w =>
  match (w.leg l).control.state with
  | .preparing | .on | .retiming | .fault => .ok .none p (w.drainLeg l)
  | .draining | .off => .ok .none p w

/-- LEG_OFF (R12). -/
def execLegOff (tag leg : Byte) (s : State) : Host.Outcome State Fault Refusal := serve 0x11 tag (doLegOff leg) s

/-- The five settings of a LEG_SET, clamped (R7). -/
def storedLegSet (x : WireLegSet) (old : LegSettings) : LegSettings where
  reach := old.reach
  discovery := if x.discovery.toNat = 0 then 0 else clamp 16 4096 x.discovery.toNat
  trimLow := x.trimLow.toNat
  trimHigh := x.trimHigh.toNat
  upThrottle := min x.upThrottle.toNat 2000
  downThrottle := x.downThrottle.toNat
  lostHold := clamp 1 64 x.lostHold.toNat

/-- LEG_SET as its owner executes it (R7). -/
def doLegSet (leg : Byte) (x : WireLegSet) : Handler := onLeg leg fun l p w =>
  if x.trimLow.toNat ≥ x.trimHigh.toNat then .refuse .range p w
  else
    let s := storedLegSet x (w.leg l).control.settings
    .ok (.legSet s) p (w.mapControl l fun c => { c with settings := s })

/-- LEG_SET (R7). -/
def execLegSet (tag leg : Byte) (x : WireLegSet) (s : State) : Host.Outcome State Fault Refusal :=
  serve 0x12 tag (doLegSet leg x) s

/-- The figures of LEG_STATUS (R8). -/
def LegRecord.status (r : LegRecord) : LegStatusReply where
  state := r.control.state
  roundsLeft := if r.control.state = .preparing ∨ r.control.state = .retiming then some r.control.roundsLeft else none
  cause := if r.control.state = .fault then r.control.cause else none
  settings := r.control.settings
  delay := 8 * r.control.settings.reach
  txen := r.control.txen
  laserFault := r.control.laserFault
  nonVacant := (r.dropsWhere fun e => e.state != .vacant).length
  retiring := (r.dropsWhere fun e => e.state == .retiring).length

/-- LEG_STATUS as its owner executes it (R8). -/
def doLegStatus (leg : Byte) : Handler := onLeg leg fun l p w => .ok (.legStatus (w.leg l).status) p w

/-- LEG_STATUS (R8). -/
def execLegStatus (tag leg : Byte) (s : State) : Host.Outcome State Fault Refusal := serve 0x13 tag (doLegStatus leg) s

/-! ### Change of reach (R76 to R78) -/

/-- An EqD moved by a signed shift. -/
def shiftDelay (eqd : Nat) (delta : Int) : Nat := ((eqd : Int) + delta).toNat

/-- What a change of reach makes of one entry; `reach` is the new span (R77). -/
def Work.reachDrop (w : Work) (l : Leg) (reach : Nat) (delta : Int) (d : Drop) : Work :=
  let e := w.drop l d
  match e.state with
  | .trimming | .awaiting | .serving | .dormant =>
    if e.rtt.any fun r => r > 8 * reach then w.lose l d .outOfReach
    else w.mapDrop l d fun e => { e with eqd := e.eqd.map fun q => shiftDelay q delta }
  | .found => w.removeOrders l d .setDelay
  | .quarantined => w.mapDrop l d fun e => { e with rtt := none, eqd := none }
  | _ => w

/-- The drops a change of reach makes LOST (R76, R77). -/
def LegRecord.outOfReach (r : LegRecord) (reach : Nat) : Nat :=
  (r.dropsWhere fun e => e.state.heard && e.rtt.any fun n => n > 8 * reach).length

/-- A change of reach accepted (R77, R78). -/
def Work.changeReach (w : Work) (l : Leg) (reach : Nat) (delta : Int) : Work :=
  let w := w.mapLeg l fun r =>
    { r with
      control := { r.control with settings := { r.control.settings with reach := reach } }
      owed := r.owed.filter fun i => i.kind != .setDelay
      inFlight := r.inFlight.map fun m => { m with reachChanged := true } }
  let w := forDrops allDrops (fun d w => w.reachDrop l reach delta d) w
  let w := w.queueOrder l (.queued (.shiftDelay delta w.stamp.round) none)
  (w.setLeg l .retiming none 4).abandonSpan l

/-- SET_REACH as its owner executes it (R76). -/
def doSetReach (leg : Byte) (reach : BitVec 16) : Handler := onLeg leg fun l p w =>
  let r := w.leg l
  let old := r.control.settings.reach
  let delta : Int := 8 * ((reach.toNat : Int) - old)
  if !(reachInRange reach) then .refuse .range p w
  else if r.control.state != .on || r.monitor.state.searching then .refuse .busy p w
  else if reach.toNat = old then .ok (.setReach 0 0) p w
  else if !(fixedLimitsHold r.lanes reach.toNat) then .refuse .ceiling p w
  else if !(urgentRoom r.orders) then .refuse .queueFull p w
  else .ok (.setReach delta (r.outOfReach reach.toNat)) p (w.changeReach l reach.toNat delta)

/-- SET_REACH (R76). -/
def execSetReach (tag leg : Byte) (reach : BitVec 16) (s : State) : Host.Outcome State Fault Refusal :=
  serve 0x14 tag (doSetReach leg reach) s

/-- ANNOUNCE_SET as its owner executes it (R160). -/
def doAnnounceSet (leg : Byte) (host : Vector Byte 40) : Handler := onLeg leg fun l p w =>
  .ok (.stamp w.stamp.nextBlock) p (w.mapLeg l fun r => { r with hostBytes := host })

/-- ANNOUNCE_SET (R160). -/
def execAnnounceSet (tag leg : Byte) (host : Vector Byte 40) (s : State) : Host.Outcome State Fault Refusal :=
  serve 0x15 tag (doAnnounceSet leg host) s

end Sys2Proof.Machine
end

