-- ==== Sys2Proof/Config.lean ====
section
/-! DEFINITION. The free values of the model: what the manual leaves open and no proof can see. -/

namespace Sys2Proof

/-- FREE VALUE (log 9): the number of the announcement block at whose start a BAND_SET takes effect, given a stamp whose round is
above 4,096 (cycle, round). R172 names no boundary for such a stamp. -/
opaque Config.bandBlock : Nat → Nat → Nat

/-- FREE VALUE (log 8): the bytes of a reply or notice body whose layout 11.10 does not give, after the status byte of a reply or
the opening of a notice (00_scope 4.3). -/
opaque Config.openBodyBytes : Machine.OutContent → List Byte

/-- FREE VALUE (log 11): whether a CLEAN outcome sets the clean-since-wake flag of a HUSHED entry, and that flag and the last level code of
a QUARANTINED one. R30 says that it does in any state; R36 and R151 say that window outcomes change nothing of such an entry. The
level of a HUSHED entry is not in question: R70 holds it. -/
opaque Config.deafHears : Bool

end Sys2Proof
end

