-- ==== Sys2Proof/Machine/Flags.lean ====
section
/-! DEFINITION. Codes and flag bytes that the host sees: status codes (11.5), notice kinds (11.6), close causes and entry flags
(11.10). -/

namespace Sys2Proof.Machine

/-- The byte of a status code (11.5). -/
def Status.code : Status → Byte
  | .ok => 0x00
  | .busy => 0x01
  | .range => 0x02
  | .full => 0x03
  | .absent => 0x04
  | .duplicate => 0x05
  | .queueFull => 0x06
  | .notReady => 0x07
  | .room => 0x08
  | .ceiling => 0x09
  | .latched => 0x0A
  | .unknownKind => 0x0B
  | .length => 0x0C

/-- The KIND of a notice (11.6). -/
def NoticeBody.kindByte (n : NoticeBody) : Byte := 0xE0 + BitVec.ofNat 8 n.place

/-- The cause byte of a journal entry (11.10). -/
def CloseCause.code : CloseCause → Byte
  | .period => 1
  | .host => 2
  | .retire => 3
  | .drain => 4
  | .restart => 5

/-- The flags byte of a journal entry (11.10). -/
def MeterFlags.byte (f : MeterFlags) : Byte :=
  BitVec.ofNat 8 (f.outage.toNat + 2 * f.throttled.toNat + 4 * f.saturated.toNat + 8 * f.extended.toNat)

/-- The places of the routing mask a PORT_SET keeps: notice kinds up to 0xF2 (R201). -/
def storedMask (mask : BitVec 32) : BitVec 32 := mask &&& 0x0007FFFF#32

end Sys2Proof.Machine
end

