-- ==== Sys2Proof/Machine/Operands.lean ====
section
/-! DEFINITION. The host-visible layouts of 11.8 and 11.10: request kinds, request bodies read and written, and the bytes of a record
that the part queues. Every field is most significant byte first. -/

namespace Sys2Proof.Machine

/-! ### Fields -/

/-- A number as `k` bytes, most significant first (11.10). -/
def beBytes : Nat → Nat → List Byte
  | 0, _ => []
  | k + 1, n => BitVec.ofNat 8 (n / 256 ^ k) :: beBytes k n

/-- A 16-bit field written. -/
def put16 (x : BitVec 16) : List Byte := [x.extractLsb' 8 8, x.extractLsb' 0 8]

/-- A 32-bit field written. -/
def put32 (x : BitVec 32) : List Byte := [x.extractLsb' 24 8, x.extractLsb' 16 8, x.extractLsb' 8 8, x.extractLsb' 0 8]

/-- A 64-bit field written. -/
def put64 (x : BitVec 64) : List Byte := put32 (x.extractLsb' 32 32) ++ put32 (x.extractLsb' 0 32)

/-- A 16-bit field read. -/
def get16 (a b : Byte) : BitVec 16 := a ++ b

/-- A 32-bit field read. -/
def get32 (a b c d : Byte) : BitVec 32 := get16 a b ++ get16 c d

/-- A 64-bit field read. -/
def get64 (a b c d e f g h : Byte) : BitVec 64 := get32 a b c d ++ get32 e f g h

/-! ### Request kinds (11.8) -/

/-- The KIND of a request (11.8). -/
def kindOf : Request → Byte
  | .identify => 0x01
  | .status => 0x02
  | .portSet _ _ => 0x03
  | .clearLatch => 0x04
  | .restart => 0x05
  | .pulseRead => 0x08
  | .legOn _ _ => 0x10
  | .legOff _ => 0x11
  | .legSet _ _ => 0x12
  | .legStatus _ => 0x13
  | .setReach _ _ => 0x14
  | .announceSet _ _ => 0x15
  | .enrolAdd _ => 0x18
  | .enrolRemove _ => 0x19
  | .enrolRead _ => 0x1A
  | .strangerRead _ _ => 0x1B
  | .admitDrop _ _ => 0x1C
  | .dismiss _ _ => 0x1D
  | .dropRead _ _ => 0x1E
  | .laneAdd _ _ _ _ _ _ => 0x20
  | .laneChange _ _ _ _ _ _ => 0x21
  | .laneRemove _ _ => 0x22
  | .laneRead _ _ => 0x23
  | .mapRead _ => 0x24
  | .windowStats _ => 0x25
  | .sleep _ _ _ => 0x28
  | .wake _ _ => 0x29
  | .rogueSet _ _ => 0x30
  | .rogueArm _ => 0x31
  | .rogueDisarm _ => 0x32
  | .rogueRead _ => 0x33
  | .release _ _ => 0x34
  | .bandSet _ _ _ _ => 0x38
  | .bandQuotaSet _ => 0x39
  | .bandRead => 0x3A
  | .quotaSet _ _ => 0x3B
  | .periodSet _ => 0x3C
  | .closePeriod _ => 0x3D
  | .journalRead _ _ => 0x40
  | .journalRelease _ => 0x41
  | .journalWatermark _ => 0x42
  | .meterRead _ _ => 0x43

/-! ### Request bodies (11.10) -/

/-- A template item written (11.8). -/
def putTemplate (t : WireTemplate) : List Byte := t.cls :: put16 t.first ++ put16 t.second

/-- Template items written. -/
def putTemplates : List WireTemplate → List Byte
  | [] => []
  | t :: ts => putTemplate t ++ putTemplates ts

/-- `n` template items read from exactly the bytes given. -/
def getTemplates : Nat → List Byte → Option (List WireTemplate)
  | 0, [] => some []
  | n + 1, c :: a :: b :: x :: y :: rest => (getTemplates n rest).map fun ts => ⟨c, get16 a b, get16 x y⟩ :: ts
  | _, _ => none

/-- The body of a request (11.10). -/
def bodyOf : Request → List Byte
  | .identify | .status | .clearLatch | .restart | .pulseRead | .bandRead => []
  | .portSet m k => m :: put32 k
  | .legOn l r => l :: put16 r
  | .setReach l r => l :: put16 r
  | .legOff l | .legStatus l | .mapRead l | .windowStats l | .rogueArm l | .rogueDisarm l | .rogueRead l => [l]
  | .legSet l x =>
    l :: put16 x.discovery ++ [x.trimLow, x.trimHigh] ++ put16 x.upThrottle ++ put16 x.downThrottle ++ [x.lostHold]
  | .announceSet l h => l :: h.toList
  | .enrolAdd e =>
    put64 e.serial ++ [e.allowed] ++ put32 e.account ++ [e.mode] ++ put64 e.quota ++ [BitVec.ofNat 8 e.templates.length] ++
      putTemplates e.templates
  | .enrolRemove s | .enrolRead s => put64 s
  | .strangerRead l c => [l, c]
  | .admitDrop l d | .dismiss l d | .dropRead l d | .wake l d | .release l d | .meterRead l d => [l, d]
  | .laneAdd l d p c f g => [l, d, p, c] ++ put16 f ++ put16 g
  | .laneChange l n c p f g => [l, n, c, p] ++ put16 f ++ put16 g
  | .laneRemove l n | .laneRead l n => [l, n]
  | .sleep l d i => [l, d] ++ put16 i
  | .rogueSet l x =>
    [l, x.stray, x.clash, x.tail, x.glow, x.combination, x.reference] ++ put16 x.watchSpan ++
      [x.strayBeatMin, x.tailLimit, x.glowMargin] ++ put16 x.confirmGap ++ put16 x.confirmWindow ++ [x.probeSpan, x.holdOff]
  | .bandSet b k c r => [b, k] ++ put32 c ++ put16 r
  | .bandQuotaSet f => [f]
  | .quotaSet a q => put32 a ++ put64 q
  | .periodSet n => put16 n
  | .closePeriod m => [m]
  | .journalRead c m => [c, m]
  | .journalRelease s => put32 s
  | .journalWatermark v => put16 v

/-- A request body that names a leg and nothing more. -/
def readLeg (f : Byte → Request) : List Byte → Option Request
  | [l] => some (f l)
  | _ => none

/-- A request body of two bytes. -/
def readPair (f : Byte → Byte → Request) : List Byte → Option Request
  | [a, b] => some (f a b)
  | _ => none

/-- A request body of no bytes. -/
def readNothing (r : Request) : List Byte → Option Request
  | [] => some r
  | _ => none

/-- A request body that is a serial. -/
def readSerial (f : Serial → Request) : List Byte → Option Request
  | [a, b, c, d, e, g, h, i] => some (f (get64 a b c d e g h i))
  | _ => none

/-- The body of an ENROL_ADD: 23 bytes and as many template items as the 23rd byte says (11.8). -/
def readEnrolAdd : List Byte → Option Request
  | s0 :: s1 :: s2 :: s3 :: s4 :: s5 :: s6 :: s7 :: leg :: a0 :: a1 :: a2 :: a3 :: mode ::
      q0 :: q1 :: q2 :: q3 :: q4 :: q5 :: q6 :: q7 :: n :: rest =>
    (getTemplates n.toNat rest).map fun ts =>
      .enrolAdd ⟨get64 s0 s1 s2 s3 s4 s5 s6 s7, leg, get32 a0 a1 a2 a3, mode, get64 q0 q1 q2 q3 q4 q5 q6 q7, ts⟩
  | _ => none

/-- The body of an ANNOUNCE_SET. -/
def readAnnounce : List Byte → Option Request
  | l :: host => if h : host.length = 40 then some (.announceSet l ⟨⟨host⟩, by simpa using h⟩) else none
  | [] => none

/-- The reader of a kind's body, if the kind is a request kind (11.8); the reader answers `none` for a body of the wrong length. -/
def bodyReader (kind : Byte) : Option (List Byte → Option Request) :=
  match kind.toNat with
  | 0x01 => some (readNothing .identify)
  | 0x02 => some (readNothing .status)
  | 0x03 => some fun | [m, a, b, c, d] => some (.portSet m (get32 a b c d)) | _ => none
  | 0x04 => some (readNothing .clearLatch)
  | 0x05 => some (readNothing .restart)
  | 0x08 => some (readNothing .pulseRead)
  | 0x10 => some fun | [l, a, b] => some (.legOn l (get16 a b)) | _ => none
  | 0x11 => some (readLeg .legOff)
  | 0x12 => some fun
    | [l, a, b, lo, hi, c, d, e, f, h] => some (.legSet l ⟨get16 a b, lo, hi, get16 c d, get16 e f, h⟩)
    | _ => none
  | 0x13 => some (readLeg .legStatus)
  | 0x14 => some fun | [l, a, b] => some (.setReach l (get16 a b)) | _ => none
  | 0x15 => some readAnnounce
  | 0x18 => some readEnrolAdd
  | 0x19 => some (readSerial .enrolRemove)
  | 0x1A => some (readSerial .enrolRead)
  | 0x1B => some (readPair .strangerRead)
  | 0x1C => some (readPair .admitDrop)
  | 0x1D => some (readPair .dismiss)
  | 0x1E => some (readPair .dropRead)
  | 0x20 => some fun | [l, d, p, c, a, b, x, y] => some (.laneAdd l d p c (get16 a b) (get16 x y)) | _ => none
  | 0x21 => some fun | [l, n, c, p, a, b, x, y] => some (.laneChange l n c p (get16 a b) (get16 x y)) | _ => none
  | 0x22 => some (readPair .laneRemove)
  | 0x23 => some (readPair .laneRead)
  | 0x24 => some (readLeg .mapRead)
  | 0x25 => some (readLeg .windowStats)
  | 0x28 => some fun | [l, d, a, b] => some (.sleep l d (get16 a b)) | _ => none
  | 0x29 => some (readPair .wake)
  | 0x30 => some fun
    | [l, s, c, t, g, m, r, a, b, e, f, h, i, j, k, n, o, p] =>
      some (.rogueSet l ⟨s, c, t, g, m, r, get16 a b, e, f, h, get16 i j, get16 k n, o, p⟩)
    | _ => none
  | 0x31 => some (readLeg .rogueArm)
  | 0x32 => some (readLeg .rogueDisarm)
  | 0x33 => some (readLeg .rogueRead)
  | 0x34 => some (readPair .release)
  | 0x38 => some fun | [n, k, a, b, c, d, e, f] => some (.bandSet n k (get32 a b c d) (get16 e f)) | _ => none
  | 0x39 => some (readLeg .bandQuotaSet)
  | 0x3A => some (readNothing .bandRead)
  | 0x3B => some fun
    | [a, b, c, d, e, f, g, h, i, j, k, l] => some (.quotaSet (get32 a b c d) (get64 e f g h i j k l))
    | _ => none
  | 0x3C => some fun | [a, b] => some (.periodSet (get16 a b)) | _ => none
  | 0x3D => some (readLeg .closePeriod)
  | 0x40 => some (readPair .journalRead)
  | 0x41 => some fun | [a, b, c, d] => some (.journalRelease (get32 a b c d)) | _ => none
  | 0x42 => some fun | [a, b] => some (.journalWatermark (get16 a b)) | _ => none
  | 0x43 => some (readPair .meterRead)
  | _ => none

/-- What a KIND and a body come to (R195 checks 1 and 2). -/
inductive Parsed where
  | unknownKind
  | wrongLength
  | request (r : Request)
deriving DecidableEq, Repr

/-- A KIND and a body read (R195, 11.8, 11.10). -/
def parseRequest (kind : Byte) (body : List Byte) : Parsed :=
  match bodyReader kind with
  | none => .unknownKind
  | some f =>
    match f body with
    | none => .wrongLength
    | some r => .request r

/-! ### Records (11.2, 11.10) -/

/-- The bytes of a record over which its CRC-16 runs: LEN, KIND, TAG, BODY (11.10). -/
def recordHead (kind tag : Byte) (body : List Byte) : List Byte := beBytes 2 (body.length + 2) ++ [kind, tag] ++ body

/-- A whole record (11.10). -/
def frameRecord (kind tag : Byte) (body : List Byte) : List Byte :=
  let head := recordHead kind tag body
  head ++ put16 (crc16 head)

/-- A stamp in 6 bytes (11.10). -/
def stampBytes (s : Stamp) : List Byte := beBytes 4 s.cycle ++ beBytes 2 s.round

/-- A leg or drop field of a notice, 0xFF for NONE (11.10). -/
def fieldByte {n : Nat} : Option (Fin n) → Byte
  | some i => BitVec.ofNat 8 i.val
  | none => 0xFF

/-- The opening of a notice body (11.10). -/
def Notice.opening (n : Notice) : List Byte := [fieldByte n.leg, fieldByte n.drop] ++ stampBytes n.stamp

/-- A journal entry in 69 bytes (11.10). -/
def JournalEntry.bytes (e : JournalEntry) : List Byte :=
  beBytes 4 e.seq ++ beBytes 4 e.account ++ [BitVec.ofNat 8 e.leg.val, BitVec.ofNat 8 e.drop.val] ++ stampBytes e.start ++
    stampBytes e.stop ++ e.up.toList.flatMap (beBytes 5) ++ e.down.toList.flatMap (beBytes 5) ++ beBytes 5 e.shed ++
    [e.cause.code, e.flags.byte]

/-- The body of a reply: the status byte alone after a refusal, the status byte and the kind after UNKNOWN_KIND, the layout of 11.10
for JOURNAL_READ, and open bytes for any other OK (R195, log 8). -/
def Reply.bytes (r : Reply) : List Byte :=
  r.status.code ::
    match r.body with
    | .none => []
    | .unknownKind k => [k]
    | .journalRead unreleased ahead held es =>
      beBytes 2 unreleased ++ beBytes 2 ahead ++ beBytes 2 held ++ [BitVec.ofNat 8 es.length] ++ es.flatMap JournalEntry.bytes
    | _ => Config.openBodyBytes (.reply r)

/-- A record as a read transaction shifts it out (R192, 11.10). -/
def OutRecord.bytes (r : OutRecord) : List Byte :=
  match r.content with
  | .reply x => frameRecord x.kind x.tag x.bytes
  | .notice n => frameRecord n.body.kindByte 0 (n.opening ++ Config.openBodyBytes (.notice n))

/-- The record that a read transaction in progress shifts out, if one is in transfer (R192). -/
def Port.shiftOut (p : Port) : List Byte :=
  match p.outbound with
  | r :: _ => if r.inTransfer then r.bytes else []
  | [] => []

/-- Byte `i` that the part drives on SDO in a transaction with the opcode given, byte 0 being clocked with the opcode itself: 0x00
throughout a write transaction and behind an unknown opcode (R191); in a read transaction 0x00 with the opcode, then the bytes of
the record in transfer, and 0x00 behind its last byte, with an empty queue, and once a RESTART has removed the record (R192). -/
def Port.sdo (p : Port) (opcode : Byte) (i : Nat) : Byte :=
  if opcode = 0xC2 ∧ 0 < i then p.shiftOut.getD (i - 1) 0 else 0

end Sys2Proof.Machine
end

