-- ==== Sys2Proof/Machine/Receive.lean ====
section
/-! DEFINITION. The Burst Receiver and what its results do: granted burst windows, discovery and ranging windows, the round report
(R25, R27 to R31, R56, R57, R61, R63 to R66, R69 to R72, R103 to R117, R124, R133, R146, R209). -/

namespace Sys2Proof.Machine

/-! ### The receive frame (R5, R103) -/

/-- The beats from the start of a downstream round to the start of its receive frame: the reach span and the unit response allowance
(R5). -/
def frameOffset (reach : Nat) : Nat := reach + 128

/-- The moment, as a round and a beat of the Timebase, at which beat `b` of the receive frame of a map in flight begins; the span that
governs the frame is the one the map was handed over with (R5). -/
def InFlight.moment (m : InFlight) (b : Nat) : Stamp × Nat :=
  let n := frameOffset m.reach + b
  (m.map.round.plus (n / 8000), n % 8000)

/-! ### Classification (R104 to R106) -/

/-- Where the delimiter of a burst is expected, in eighths from the start of the receive frame (R104). -/
def Burst.expected (b : Burst) : Nat := 8 * (b.start + 10)

/-- A delimiter within ±16 eighths of its expected place (R104). -/
def inTolerance (expected found : Nat) : Bool := expected ≤ found + 16 && found ≤ expected + 16

/-- The outcome of a granted burst window (R104). -/
def classify (b : Burst) (x : WindowLight) : WindowOutcome :=
  match x.found with
  | some f =>
    if inTolerance b.expected f.delimiter && f.crcGood then (if f.header.drop = b.drop then .clean else .misfit)
    else if x.lit then .garbled
    else .silent
  | none => if x.lit then .garbled else .silent

/-- The mean of some level codes, rounded down (R105). -/
def meanLevel (ls : List Byte) : Nat := (ls.map BitVec.toNat).sum / ls.length

/-- The last `n` items of a list. -/
def lastOf {α : Type} (n : Nat) (xs : List α) : List α := xs.drop (xs.length - n)

/-- A window's outcome put in a history: the last four outcomes and the CLEAN run (R106). -/
def History.record (h : History) (o : WindowOutcome) : History :=
  { h with recent := lastOf 4 (h.recent ++ [o]), cleanRun := if o = .clean then min (h.cleanRun + 1) 65535 else 0 }

/-- A CLEAN window's measures put in a history (R105, R106, R109, log 34); `t` is the stamp of the window (log 27). -/
def History.measure (h : History) (offset : Int) (level : Nat) (fault : Bool) (t : Stamp) : History :=
  { h with
    offset := some offset
    level := some level
    fault := some ⟨fault, if fault then some t else h.fault.bind UnitFault.lastSet⟩ }

/-- A GARBLED window qualifies when the drop's recent outcomes include a CLEAN (R116). -/
def History.qualifies (h : History) : Bool := h.recent.contains .clean

/-- One window more of an outcome in the statistics (R117). -/
def WindowStats.count (s : WindowStats) : WindowOutcome → WindowStats
  | .clean => { s with clean := bump32 s.clean }
  | .misfit => { s with misfit := bump32 s.misfit }
  | .garbled => { s with garbled := bump32 s.garbled }
  | .silent => { s with silent := bump32 s.silent }

/-! ### Trim and drift (R69 to R72) -/

/-- The raw trim step: a quarter of the distance to the target, halves away from zero, at least one toward the band, at most 8 either
way (R69 stages 1 and 2). -/
def rawStep (low high level : Nat) : Int :=
  let target : Int := ((low + high) / 2 : Nat)
  let diff := target - level
  let size := (diff.natAbs + 2) / 4
  let raw : Int := if diff < 0 then -(size : Int) else size
  let raw := if raw = 0 then (if level < low then 1 else -1) else raw
  max (-8) (min 8 raw)

/-- The applied trim step (R69 stages 3 and 4). -/
def appliedStep (low high level power : Nat) : Int := (movePower power (rawStep low high level) : Int) - power

/-- A level inside the leg's trim band (R70, R72). -/
def LegSettings.inBand (s : LegSettings) (level : Nat) : Bool := s.trimLow ≤ level && level ≤ s.trimHigh

/-- A TRIMMING entry's burst judged (R70). -/
def Work.judgeTrim (w : Work) (l : Leg) (d : Drop) (level : Nat) : Work :=
  let r := w.leg l
  let s := r.control.settings
  let step := appliedStep s.trimLow s.trimHigh level r.drops[d].power
  if r.stepOutstanding d then w
  else if s.inBand level then w.trimEnds l d false
  else if r.drops[d].trimCount ≥ 6 || step == 0 then w.trimEnds l d true
  else w.generate l d (.stepPower step)

/-- The step an out-of-band run that reached 16 leads to (R72). -/
def Work.driftStep (w : Work) (l : Leg) (d : Drop) (level : Nat) : Work :=
  let r := w.leg l
  let s := r.control.settings
  let step := appliedStep s.trimLow s.trimHigh level r.drops[d].power
  let w := w.mapDrop l d fun e => { e with outOfBand := 0 }
  if step == 0 then w.mapDrop l d fun e => { e with marginal := true } else w.generate l d (.stepPower step)

/-- A SERVING entry's burst watched for drift (R72). -/
def Work.judgeDrift (w : Work) (l : Leg) (d : Drop) (level : Nat) : Work :=
  let r := w.leg l
  if r.control.settings.inBand level then w.mapDrop l d fun e => { e with outOfBand := 0 }
  else if r.stepOutstanding d then w
  else if r.drops[d].outOfBand + 1 ≥ 16 then w.driftStep l d level
  else w.mapDrop l d fun e => { e with outOfBand := e.outOfBand + 1 }

/-- A burst's level judged by the state of the entry (R70, R72, R107). -/
def Work.judgeBurst (w : Work) (l : Leg) (d : Drop) (level : Nat) : Work :=
  match (w.drop l d).state with
  | .trimming => w.judgeTrim l d level
  | .serving => w.judgeDrift l d level
  | _ => w

/-! ### What a clean burst delivers (R30, R31, R82, R107 to R112, R124) -/

/-- The states for which R36 and R151 say that window outcomes change nothing. -/
def DropState.deaf : DropState → Bool
  | .hushed | .quarantined => true
  | _ => false

/-- The CLEAN outcome and the level put in the entry (R30). The level of a HUSHED entry is held (R70). Whether the clean-since-wake flag of a
HUSHED entry, and flag and level of a QUARANTINED one, are set is a free value (R30 against R36 and R151; log 11). -/
def DropEntry.heardClean (e : DropEntry) (level : Nat) : DropEntry :=
  if e.state.deaf && !Config.deafHears then e
  else
    { e with
      missed := if e.state.heard then 0 else e.missed
      level := if e.state == .hushed then e.level else some level
      cleanSinceWake := true }

/-- The status flags of a CLEAN burst taken (R31, R109, R124). -/
def Work.takeStatus (w : Work) (l : Leg) (d : Drop) (h : BurstHeader) : Work :=
  let st := (w.drop l d).state
  if h.dyingGasp && st.heard then w.lose l d .power
  else if h.wakeRequest && st == .dormant then w.wakeUp l d
  else w

/-- The four backlog reports applied to the drop's lanes (R82). -/
def Work.takeBacklog (w : Work) (l : Leg) (d : Drop) (backlog : Vector (BitVec 24) 4) : Work :=
  w.mapLanesOf l d fun x => { x with backlog := (backlog[x.port]).toNat }

/-- The frames of a segment and the number of discarded ones, reading from its first byte (R110); `fuel` bounds the frames. -/
def readFrames : Nat → List Byte → List (List Byte) × Nat
  | fuel + 1, a :: b :: rest =>
    let n := a.toNat * 256 + b.toNat
    if n = 0 then ([], 0)
    else if n ≥ 8192 then ([], 1)
    else if rest.length < n then ([], 1)
    else
      let (fs, bad) := readFrames fuel (rest.drop n)
      (rest.take n :: fs, bad)
  | _, _ => ([], 0)

/-- The uplink tag of a frame (11.10, R209). -/
def uplinkTag (leg : Leg) (d : Drop) (lane : Fin 256) (surplus down : Bool) (length : Nat) : BitVec 32 :=
  BitVec.ofNat 32 (leg.val * 1073741824 + d.val * 8388608 + lane.val * 32768 + surplus.toNat * 16384 + down.toNat * 8192 +
    length % 8192)

/-- What the segments of a burst come to: the frames forwarded and the frames discarded (R110, R111, R209). -/
def forwardSegments (r : LegRecord) (l : Leg) (d : Drop) : List Segment → List Byte → List UplinkFrame × Nat
  | [], _ => ([], 0)
  | s :: ss, bytes =>
    let seg := bytes.take (4 * s.beats)
    let (fs, bad) := readFrames seg.length seg
    let (rest, restBad) := forwardSegments r l d ss (bytes.drop (4 * s.beats))
    match r.lanes[s.lane] with
    | some x =>
      if x.owner = d ∧ x.port = s.port then
        ((fs.map fun f => ⟨uplinkTag l d s.lane x.surplus?.isSome false f.length, f⟩) ++ rest, bad + restBad)
      else (rest, bad + fs.length + restBad)
    | none => (rest, bad + fs.length + restBad)

/-- The payload of a CLEAN burst extracted, forwarded and charged (R110 to R112). -/
def Work.takePayload (w : Work) (l : Leg) (b : Burst) (payload : List Byte) : Work :=
  let (frames, bad) := forwardSegments (w.leg l) l b.drop b.segments payload
  let w := w.mapLeg l fun r =>
    { r with uplink := frames, stats := { r.stats with upDiscarded := saturate 4294967295 r.stats.upDiscarded bad } }
  if frames.isEmpty then w else w.charge l b.drop true (frames.map fun f => f.data.length).sum w.blocks.band

/-- The clean-since-wake flag cleared at the end of an event that woke the entry (R125 item 5). -/
def Work.afterWake (w : Work) (l : Leg) (d : Drop) (before : DropState) : Work :=
  if before == .dormant && (w.drop l d).state == .serving then w.mapDrop l d fun e => { e with cleanSinceWake := false }
  else w

/-- A CLEAN window's deliveries, in the order of R107. Of a VACANT entry's window only the payload is looked at, whose
frames R111 discards (DEDUCED, unsafe: log 33). -/
def Work.deliverClean (w : Work) (l : Leg) (b : Burst) (f : FoundBurst) : Work :=
  let d := b.drop
  let before := (w.drop l d).state
  if before == .vacant then w.takePayload l b f.payload
  else
    let level := meanLevel f.preamble
    let w := (w.deliverEcho l d f.header.echo).mapDrop l d fun e => e.heardClean level
    let w := ((w.takeStatus l d f.header).judgeBurst l d level).takeBacklog l d f.header.backlog
    (w.takePayload l b f.payload).afterWake l d before

/-- A missed burst of an entry whose unit should be heard (R30). -/
def Work.missBurst (w : Work) (l : Leg) (d : Drop) : Work :=
  let e := w.drop l d
  if e.state.heard then
    let w := w.mapDrop l d fun e => { e with missed := min (e.missed + 1) 8 }
    if e.missed + 1 ≥ 8 then w.lose l d .silent else w
  else w

/-- The map being received: the oldest in flight (R103). -/
def LegRecord.receiving (r : LegRecord) : Option InFlight := r.inFlight.head?

/-- The next burst window of the map being received. -/
def LegRecord.nextWindow (r : LegRecord) : Option Burst :=
  match r.receiving with
  | some m => m.map.bursts[m.judged]?
  | none => none

/-- The map being received changed. -/
def LegRecord.mapReceiving (r : LegRecord) (f : InFlight → InFlight) : LegRecord :=
  { r with inFlight := match r.inFlight with | [] => [] | m :: ms => f m :: ms }

/-- A window judged, in the figures for the round report (R116). -/
def InFlight.judge (m : InFlight) (o : WindowOutcome) (qualifies : Bool) : InFlight :=
  { m with
    judged := m.judged + 1
    misfit := if o = .misfit then m.misfit + 1 else m.misfit
    garbled := if o = .garbled ∧ qualifies then m.garbled + 1 else m.garbled }

/-- What the receiver keeps of a window that ended: the report's figures, the history, the statistics (R104 to R106, R109, R116, R117). -/
def LegRecord.keepOutcome (r : LegRecord) (b : Burst) (x : WindowLight) (t : Stamp) : LegRecord :=
  let o := classify b x
  let h := r.histories[b.drop]
  let h' := match o, x.found with
    | .clean, some f => (h.record o).measure ((f.delimiter : Int) - b.expected) (meanLevel f.preamble) f.header.unitFault t
    | _, _ => h.record o
  let faulty := o == .clean && x.found.any fun f => f.header.unitFault
  let r := r.mapReceiving fun m => m.judge o h.qualifies
  { r with
    histories := r.histories.set b.drop.val h'
    stats := if faulty then { r.stats.count o with unitFaults := bump32 r.stats.unitFaults } else r.stats.count o
    uplink := [] }

/-- A granted burst window ends (R104 to R112). -/
def Work.windowEnds (w : Work) (l : Leg) (x : WindowLight) : Work :=
  match (w.leg l).receiving, (w.leg l).nextWindow with
  | some m, some b =>
    let w := w.mapLeg l fun r => r.keepOutcome b x m.map.round
    match classify b x, x.found with
    | .clean, some f => w.deliverClean l b f
    | _, _ => w.missBurst l b.drop
  | _, _ => w

/-- GRANTED_WINDOW_END (R104). The command is the moment at which the window ends; the beat counter is not asked (DESIGN CHOICE, unsafe:
log 45). -/
def execGrantedWindowEnd (l : Leg) (x : WindowLight) (s : State) : Host.Outcome State Fault Refusal :=
  .next (event (fun w => w.windowEnds l x) s)

/-- The miss that brings a missed count to 8 (R30). -/
def Work.lastMiss (w : Work) (l : Leg) (d : Drop) : Work := if (w.drop l d).missed ≥ 7 then w.missBurst l d else w

/-- MISSED_COUNT_LIMIT (R30). -/
def execMissedCountLimit (l : Leg) (d : Drop) (s : State) : Host.Outcome State Fault Refusal :=
  .next (event (fun w => w.lastMiss l d) s)

/-- The burst that brings an out-of-band run to 16 (R72). -/
def Work.lastDrift (w : Work) (l : Leg) (d : Drop) (level : Nat) : Work :=
  let r := w.leg l
  if r.drops[d].state == .serving && r.drops[d].outOfBand ≥ 15 && !(r.control.settings.inBand level) &&
      !(r.stepOutstanding d) then w.driftStep l d level
  else w

/-- OUT_OF_BAND_RUN_LIMIT (R72). -/
def execOutOfBandRunLimit (l : Leg) (d : Drop) (level : Byte) (s : State) : Host.Outcome State Fault Refusal :=
  .next (event (fun w => w.lastDrift l d level.toNat) s)

/-! ### Light over a receive frame -/

/-- Some figure of the light summed over the beats from `a` to before `b`; the runs begin at beat `pos`. -/
def sumLight (f : LightRun → Nat) : FrameLight → Nat → Nat → Nat → Nat
  | [], _, _, _ => 0
  | r :: rs, pos, a, b => (min (pos + r.beats) b - max pos a) * f r + sumLight f rs (pos + r.beats) a b

/-- The lit beats from `a` to before `b`. -/
def litBeats (x : FrameLight) (a b : Nat) : Nat := sumLight (fun r => if r.lit then 1 else 0) x 0 a b

/-- The mean LEVEL from `a` to before `b`, rounded down (R116). -/
def darkLevel (x : FrameLight) (a b : Nat) : Nat := sumLight (fun r => r.level.toNat) x 0 a b / (b - a)

/-- Whether a beat is lit. -/
def litAt : FrameLight → Nat → Bool
  | [], _ => false
  | r :: rs, b => if b < r.beats then r.lit else litAt rs (b - r.beats)

/-- The consecutive lit beats from beat `b` on, at most `n`. -/
def litRun (x : FrameLight) : Nat → Nat → Nat
  | 0, _ => 0
  | n + 1, b => if litAt x b then 1 + litRun x n (b + 1) else 0

/-- The lit beats as intervals; the runs begin at beat `pos`. -/
def litIntervals : FrameLight → Nat → List (Nat × Nat)
  | [], _ => []
  | r :: rs, pos => if r.lit then (pos, pos + r.beats) :: litIntervals rs (pos + r.beats) else litIntervals rs (pos + r.beats)

/-- An interval without the beats of another. -/
def cutInterval (c : Nat × Nat) (i : Nat × Nat) : List (Nat × Nat) :=
  [(i.1, min i.2 c.1), (max i.1 c.2, i.2)].filter fun j => j.1 < j.2

/-! ### Strangers and matching (R25, R27 to R29) -/

/-- The place of the entry with the oldest last-heard stamp, the earliest of equals (R25 case 3). -/
def oldestStranger : List Stranger → Nat
  | [] => 0
  | xs => (xs.zipIdx.foldl
      (fun (best : Nat × Stamp) x => if !(best.2.le x.1.lastHeard) then (x.2, x.1.lastHeard) else best)
      (0, (xs.head?.map Stranger.lastHeard).getD ⟨0, 0⟩)).1

/-- A serial put in a stranger list (R25), and whether a STRANGER notice is due. -/
def noteStranger (xs : List Stranger) (serial : Serial) (why : StrangerWhy) (t : Stamp) : List Stranger × Bool :=
  let fresh : Stranger := ⟨serial, why, t, t, 1⟩
  if xs.any fun x => x.serial == serial then
    (xs.map fun x => if x.serial == serial then { x with why := why, lastHeard := t, times := min (x.times + 1) 255 } else x,
      false)
  else if xs.length < 8 then (xs ++ [fresh], true)
  else (xs.eraseIdx (oldestStranger xs) ++ [fresh], true)

/-- A stranger heard on a leg (R25). -/
def Work.stranger (w : Work) (l : Leg) (serial : Serial) (why : StrangerWhy) (t : Stamp) : Work :=
  let (xs, new) := noteStranger (w.leg l).strangers serial why t
  let w := w.mapLeg l fun r => { r with strangers := xs }
  if new then w.raise (some l) none (.stranger serial why) else w

/-- A drop index taken anew: no echo heard and an empty window history (R42, R106). An entry enters FOUND, for these rules, from VACANT,
LOST or QUARANTINED; a return to FOUND from RANGING or from HUSHED keeps both (DEDUCED, unsafe: log 56). -/
def Work.forget (w : Work) (l : Leg) (d : Drop) : Work :=
  w.mapLeg l fun r =>
    { r with lastEcho := r.lastEcho.set d.val none, histories := r.histories.set d.val History.empty }

/-- An announce claims a VACANT entry (R24, R28). -/
def Work.claim (w : Work) (l : Leg) (d : Drop) (i : Fin 512) (serial : Serial) (power : Nat) : Work :=
  let w := w.mapEnrol i fun e => { e with binding := some (l, d) }
  let w := w.mapDrop l d fun _ =>
    { DropEntry.vacant w.stamp with
      state := .found, serial := some serial, enrolRef := some i, origin := some .new, power := min power 31 }
  (w.forget l d).raiseDropState l d

/-- The LOST reason of an entry. -/
def DropEntry.lostReason (e : DropEntry) : LostReason :=
  match e.reason with
  | some (.lost r) => r
  | _ => .silent

/-- An announce matches a LOST entry on its own leg (R29). -/
def Work.refind (w : Work) (l : Leg) (d : Drop) (power : Nat) : Work :=
  let w := w.mapDrop l d fun e =>
    { e.resetCounts with
      state := .found, since := w.stamp, origin := some (.reused (e.hold.getD 0) e.lostReason), hold := none, reason := none
      power := min power 31, level := none }
  (w.forget l d).raiseDropState l d

/-- One announce matched (R27); `t` is the stamp of the round whose window carried it (R25). -/
def Work.matchAnnounce (w : Work) (l : Leg) (t : Stamp) (serial : Serial) (power : Nat) : Work :=
  match w.blocks.enrolWhere fun e => e.serial == serial with
  | none => w.stranger l serial .unknown t
  | some i =>
    match w.blocks.enrol[i] with
    | none => w
    | some e =>
      match e.binding with
      | some (bl, bd) =>
        match (w.drop bl bd).state with
        | .lost => if bl = l then w.refind l bd power else w.raise (some l) (some bd) (.clash serial bl bd)
        | .retiring => w
        | _ => w.raise (some l) (some bd) (.clash serial bl bd)
      | none =>
        if e.allowed.any fun a => a != l then w.stranger l serial .wrongLeg t
        else match (w.leg l).dropsWhere fun x => x.state == .vacant with
          | d :: _ => w.claim l d i serial power
          | [] => w.raise (some l) none (.tableFull serial)

/-! ### Discovery windows (R61, R113) -/

/-- The start of an announce, 10 beats before its delimiter, and whether its 16 beats lie in the window from beat `s`, in eighths. -/
def announceInside (a : FoundAnnounce) (s : Nat) : Bool := 8 * s + 80 ≤ a.delimiter && a.delimiter + 48 ≤ 64000

/-- An announce is decoded (R113). -/
def announceDecoded (a : FoundAnnounce) (s : Nat) : Bool := announceInside a s && a.crcGood && a.capability == 1

/-- The beats an announce covers, a beat it covers in part included (log 25). -/
def announceBeats (a : FoundAnnounce) : Nat × Nat := ((a.delimiter - 80) / 8, (a.delimiter + 48 + 7) / 8)

/-- The decoded announces of a window in the order of their delimiters (R113). -/
def decodedAnnounces (s : Nat) (xs : List FoundAnnounce) : List FoundAnnounce :=
  (xs.filter fun a => announceDecoded a s).insertionSort fun a b => a.delimiter ≤ b.delimiter

/-- An announce found in the window that is no decoded one: its header CRC or its generation is wrong, or it passes the window's end. -/
def announceGarbled (a : FoundAnnounce) (s : Nat) : Bool :=
  8 * s ≤ a.delimiter && (!a.crcGood || a.capability != 1 || a.delimiter + 48 > 64000)

/-- Whether a discovery window from beat `s` saw GARBLED light (R113). -/
def garbledLight (s : Nat) (light : FrameLight) (xs : List FoundAnnounce) : Bool :=
  let lit := ((litIntervals light 0).map fun i => (max i.1 s, min i.2 8000)).filter fun i => i.1 < i.2
  let left := (decodedAnnounces s xs).foldl (fun is a => is.flatMap (cutInterval (announceBeats a))) lit
  !left.isEmpty || xs.any fun a => announceGarbled a s

/-- Whether the map being received waits for the end of a tail window of some kind. -/
def InFlight.awaits (m : InFlight) (k : WindowKind) : Option Nat :=
  match m.map.window with
  | some w => if w.kind = k ∧ !m.windowDone then some (8000 - w.length) else none
  | none => none

/-- The tail window of the map being received has reported. -/
def LegRecord.windowReported (r : LegRecord) : LegRecord := r.mapReceiving fun m => { m with windowDone := true }

/-- A discovery window ends (R61, R113, R117). -/
def Work.discoveryEnds (w : Work) (l : Leg) (light : FrameLight) (xs : List FoundAnnounce) : Work :=
  match (w.leg l).receiving with
  | none => w
  | some m =>
    match m.awaits .discovery with
    | none => w
    | some s =>
      let heard := decodedAnnounces s xs
      let garbled := garbledLight s light xs
      let w := w.mapLeg l fun r =>
        { r.windowReported with
          schedule := { r.schedule with quickRetry := garbled }
          stats :=
            { r.stats with
              announces := saturate 4294967295 r.stats.announces heard.length
              garbledWindows := if garbled then bump32 r.stats.garbledWindows else r.stats.garbledWindows } }
      heard.foldl (fun w a => w.matchAnnounce l m.map.round a.serial a.power.toNat) w

/-- DISCOVERY_WINDOW_END (R61). -/
def execDiscoveryWindowEnd (l : Leg) (light : FrameLight) (xs : List FoundAnnounce) (s : State) :
    Host.Outcome State Fault Refusal :=
  .next (event (fun w => w.discoveryEnds l light xs) s)

/-! ### Ranging windows (R63 to R66, R114) -/

/-- A burst that meets the conditions of a reply in a window from beat `s` (R63, R114; log 31). -/
def burstReplies (b : FoundBurst) (s : Nat) (d : Drop) : Bool :=
  8 * s ≤ b.delimiter && b.delimiter + 48 ≤ 64000 && b.crcGood && b.header.drop == d

/-- The arrival offset of a burst in a window from beat `s`, in eighths (R63). -/
def burstArrival (b : FoundBurst) (s : Nat) : Int := (b.delimiter : Int) - 80 - 8 * s

/-- The reply of a ranging window: the arrival offset and the level, if exactly one burst replies (R114). -/
def rangingReply (s : Nat) (d : Drop) (bs : List FoundBurst) : Option (Int × Nat) :=
  match bs.filter fun b => burstReplies b s d with
  | [b] => some (burstArrival b s, meanLevel b.preamble)
  | _ => none

/-- A failed attempt (R65). -/
def Work.rangingFails (w : Work) (l : Leg) (d : Drop) (cause : RangingCause) : Work :=
  let e := w.drop l d
  let w := w.mapDrop l d fun e => { e with rangingAttempts := min (e.rangingAttempts + 1) 3 }
  if e.rangingAttempts + 1 < 3 then w.setState l d .found
  else
    let new := e.origin == some .new
    let w := w.raise (some l) (some d) (.rangingFailed e.serial e.origin (if new then .vacant else .lost) cause)
    if new then w.vacate l d else w.loseByOrigin l d

/-- A reply taken (R64). -/
def Work.rangingReplied (w : Work) (l : Leg) (d : Drop) (a : Int) (level : Nat) : Work :=
  let delay := 8 * (w.leg l).control.settings.reach
  let rtt := a.toNat
  let w := w.mapDrop l d fun e => { e with level := some level }
  if rtt > delay then w.rangingFails l d .outOfReach
  else
    ((w.setState l d .found).mapDrop l d fun e => { e with rtt := some rtt, eqd := some (delay - rtt) }).generate l d .setDelay

/-- The report of a ranging window taken by the entry (R64 to R66). The report of an earlier window, whose attempt a DISMISS or a hush
ended, applies to an entry that is RANGING anew: the entry's state is tested, not which window it waits for (DESIGN CHOICE, unsafe:
log 53). A return to FOUND keeps the window history and the last echo heard (DEDUCED, unsafe: log 56). -/
def Work.takeRanging (w : Work) (l : Leg) (d : Drop) (reachChanged : Bool) (reply : Option (Int × Nat)) : Work :=
  if (w.drop l d).state != .ranging then w
  else if (w.leg l).monitor.state.searching || reachChanged then w.setState l d .found
  else match reply with
    | some (a, level) => w.rangingReplied l d a level
    | none => w.rangingFails l d .noReply

/-- A ranging window ends (R63 to R66, R114, R117). -/
def Work.rangingEnds (w : Work) (l : Leg) (bs : List FoundBurst) : Work :=
  match (w.leg l).receiving with
  | none => w
  | some m =>
    match m.awaits .ranging, m.map.ranging with
    | some s, some e =>
      let reply := rangingReply s e.drop bs
      let w := w.mapLeg l fun r =>
        { r.windowReported with
          stats :=
            if reply.isSome then { r.stats with rangingReplies := bump32 r.stats.rangingReplies }
            else { r.stats with rangingNoReplies := bump32 r.stats.rangingNoReplies } }
      w.takeRanging l e.drop m.reachChanged reply
    | _, _ => w

/-- RANGING_WINDOW_END (R64). -/
def execRangingWindowEnd (l : Leg) (bs : List FoundBurst) (s : State) : Host.Outcome State Fault Refusal :=
  .next (event (fun w => w.rangingEnds l bs) s)

/-! ### The round report (R115, R116) -/

/-- The end of a burst's window. -/
def Burst.stop (b : Burst) : Nat := b.start + b.length

/-- The beat at which a tail run behind the last burst stops for good: the start of a discovery or ranging window, or the frame's end
(R115). -/
def GrantMap.tailLimit (m : GrantMap) : Nat :=
  match m.window with
  | some ⟨.ranging, n⟩ | some ⟨.discovery, n⟩ => 8000 - n
  | _ => 8000

/-- The tail runs of some bursts in their order, each with its drop; a run of 0 beats included (R115). -/
def tailRuns (light : FrameLight) (last : Nat) : List Burst → List (Drop × Nat)
  | [] => []
  | [b] => [(b.drop, litRun light (min 64 (last - b.stop)) b.stop)]
  | b :: c :: bs => (b.drop, litRun light (min 64 (c.start + 4 - b.stop)) b.stop) :: tailRuns light last (c :: bs)

/-- The end of the last burst of a map. -/
def GrantMap.lastStop (m : GrantMap) : Nat := (m.bursts.getLast?.map Burst.stop).getD 0

/-- The dark sample of a region, if it has 64 beats (R116). -/
def darkSample (light : FrameLight) (k : Region) (a b : Nat) : List (Region × Nat) :=
  if b - a ≥ 64 then [(k, darkLevel light a b)] else []

/-- The round report of a map held to its end (R115, R116). -/
def InFlight.report (m : InFlight) (light : FrameLight) : RoundReport :=
  let runs := tailRuns light m.map.tailLimit m.map.bursts
  let dark := m.map.lastStop + (runs.getLast?.map Prod.snd).getD 0
  let quiet := 8000 - (m.map.window.map TailWindow.length).getD 0
  let gap : Option Region := match m.map.window with
    | some ⟨.watch, _⟩ => some .watch
    | some ⟨.probe, _⟩ => some .probe
    | _ => none
  let from' := max quiet dark
  let inGap := if gap.isSome then litBeats light from' 8000 else 0
  { round := m.map.round
    stray := litBeats light dark quiet + inGap
    probeCount := if gap = some .probe then some inGap else none
    tails := runs.filter fun t => t.2 > 0
    samples := darkSample light .idle dark quiet ++ (match gap with | some k => darkSample light k from' 8000 | none => [])
    misfit := m.misfit
    garbled := m.garbled }

/-- A receive round ends: its map is let go and its report taken (R103, R116). -/
def Work.roundReceived (w : Work) (l : Leg) (light : FrameLight) : Work :=
  match (w.leg l).receiving with
  | none => w
  | some m => (w.mapLeg l fun r => { r with inFlight := r.inFlight.drop 1 }).takeReport l (m.report light)

/-- RECEIVE_ROUND_END (R116). -/
def execReceiveRoundEnd (l : Leg) (light : FrameLight) (s : State) : Host.Outcome State Fault Refusal :=
  .next (event (fun w => w.roundReceived l light) s)

/-- A report that ends the span in progress, taken (R133, R136). -/
def Work.spanEnds (w : Work) (l : Leg) (r : RoundReport) : Work :=
  if (w.leg l).monitor.endsSpan r then w.takeReport l r else w

/-- SPAN_END (R136). -/
def execSpanEnd (l : Leg) (r : RoundReport) (s : State) : Host.Outcome State Fault Refusal :=
  .next (event (fun w => w.spanEnds l r) s)

/-- The report of a step's last observation round, taken (R142, R146). -/
def Work.stepReads (w : Work) (l : Leg) (r : RoundReport) : Work :=
  let m := (w.leg l).monitor
  if m.state.searching && m.lastObserves r.round then w.takeReport l r else w

/-- STEP_READING (R146). -/
def execStepReading (l : Leg) (r : RoundReport) (s : State) : Host.Outcome State Fault Refusal :=
  .next (event (fun w => w.stepReads l r) s)

end Sys2Proof.Machine
end

