-- ==== Sys2Proof/Machine/Drops.lean ====
section
/-! DEFINITION. Requests on the enrolment list, the stranger lists and the drop table, and a retirement that completes (R20 to R26, R35,
R37 to R39). -/

namespace Sys2Proof.Machine

/-! ### Figures of a lane or a template (R21, R79, R84, 11.8) -/

/-- The figures of a class byte and two fields; `none` for an unknown class or a figure out of range. A peak cap above 8,000 is
taken as 8,000. The second field is ignored for FIXED: 11.10 says so of LANE_ADD and LANE_CHANGE, and that a FIXED template of ENROL_ADD
with a second field other than 0 is taken too, where 11.8 gives it as 0, is the model's choice (R21; DESIGN CHOICE, unsafe: log 52). -/
def readFigures (cls : Byte) (first second : BitVec 16) : Option LaneFigures :=
  let a := first.toNat
  let b := min second.toNat 8000
  if cls = 0 then (if 1 ≤ a ∧ a ≤ 2000 then some (.fixed a) else none)
  else if cls = 1 then (if 1 ≤ a ∧ a ≤ 2000 ∧ 1 ≤ b then some (.assured a b) else none)
  else if cls = 2 then (if 1 ≤ a ∧ a ≤ 64 ∧ 1 ≤ b then some (.surplus a b) else none)
  else none

/-- The templates of a list, if every one has figures in range. -/
def readTemplates : List WireTemplate → Option (List LaneFigures)
  | [] => some []
  | t :: ts =>
    match readFigures t.cls t.first t.second, readTemplates ts with
    | some f, some fs => some (f :: fs)
    | _, _ => none

/-- The allowed leg of a byte: a leg, or ANY for 0xFF (R21, 11.8). -/
def readAllowed (b : Byte) : Option (Option Leg) :=
  if b = 0xFF then some none else (toLeg? b).map some

/-- The approval mode of a byte (11.10). -/
def readMode (b : Byte) : Option ApprovalMode := if b = 0 then some .auto else if b = 1 then some .hold else none

/-- The enrolment entry a request describes, unbound; `none` for an argument out of range (R21 check 1). -/
def readEnrol (e : WireEnrol) : Option EnrolEntry :=
  if e.account.toNat = 0 ∨ e.templates.length > 4 then none
  else
    match readAllowed e.allowed, readMode e.mode, readTemplates e.templates with
    | some a, some m, some ts => some ⟨e.serial, a, e.account.toNat, m, e.quota.toNat, ts, none⟩
    | _, _, _ => none

/-! ### The enrolment list (R21 to R23) -/

/-- The lowest free position of the list. -/
def Blocks.freeEnrol (b : Blocks) : Option (Fin 512) := (List.finRange 512).find? fun i => (b.enrol[i]).isNone

/-- An enrolment entry stored, and its serial gone from every stranger list (R21). -/
def Work.enrolAt (w : Work) (i : Fin 512) (e : EnrolEntry) : Work :=
  let w := { w with blocks := { w.blocks with enrol := w.blocks.enrol.set i.val (some e) } }
  forLegs (fun l w => w.mapLeg l fun r => { r with strangers := r.strangers.filter fun x => x.serial != e.serial }) w

/-- ENROL_ADD as its owner executes it (R21). -/
def doEnrolAdd (x : WireEnrol) : Handler := fun p w =>
  match readEnrol x with
  | none => .refuse .range p w
  | some e =>
    if (w.blocks.enrolWhere fun o => o.serial == e.serial || o.account == e.account).isSome then .refuse .duplicate p w
    else match w.blocks.freeEnrol with
      | none => .refuse .full p w
      | some i => .ok (.enrolAdd i) p (w.enrolAt i e)

/-- ENROL_ADD (R21). -/
def execEnrolAdd (tag : Byte) (x : WireEnrol) (s : State) : Host.Outcome State Fault Refusal :=
  serve 0x18 tag (doEnrolAdd x) s

/-- The position and the entry that hold a serial. -/
def Blocks.enrolled (b : Blocks) (serial : Serial) : Option (Fin 512 × EnrolEntry) :=
  match b.enrolWhere fun e => e.serial == serial with
  | some i => (b.enrol[i]).map fun e => (i, e)
  | none => none

/-- An enrolment position freed. -/
def Work.unenrol (w : Work) (i : Fin 512) : Work :=
  { w with blocks := { w.blocks with enrol := w.blocks.enrol.set i.val none } }

/-- ENROL_REMOVE as its owner executes it (R22). -/
def doEnrolRemove (serial : Serial) : Handler := fun p w =>
  match w.blocks.enrolled serial with
  | none => .refuse .absent p w
  | some (i, e) => if e.binding.isSome then .refuse .busy p w else .ok .none p (w.unenrol i)

/-- ENROL_REMOVE (R22). -/
def execEnrolRemove (tag : Byte) (serial : Serial) (s : State) : Host.Outcome State Fault Refusal :=
  serve 0x19 tag (doEnrolRemove serial) s

/-- ENROL_READ as its owner executes it (R23). -/
def doEnrolRead (serial : Serial) : Handler := fun p w =>
  match w.blocks.enrolled serial with
  | none => .refuse .absent p w
  | some (i, e) => .ok (.enrolRead i e w.blocks.enrolCount) p w

/-- ENROL_READ (R23). -/
def execEnrolRead (tag : Byte) (serial : Serial) (s : State) : Host.Outcome State Fault Refusal :=
  serve 0x1A tag (doEnrolRead serial) s

/-- STRANGER_READ as its owner executes it (R26). -/
def doStrangerRead (leg clear : Byte) : Handler := onLeg leg fun l p w =>
  .ok (.strangers (w.leg l).strangers) p (if clear = 0 then w else w.mapLeg l fun r => { r with strangers := [] })

/-- STRANGER_READ (R26). -/
def execStrangerRead (tag leg clear : Byte) (s : State) : Host.Outcome State Fault Refusal :=
  serve 0x1B tag (doStrangerRead leg clear) s

/-! ### Drops (R35, R37 to R39) -/

/-- ADMIT as its owner executes it (R37). -/
def doAdmit (leg drop : Byte) : Handler := onDrop leg drop fun l d p w =>
  if (w.drop l d).state = .awaiting then .ok .none p (w.serveDrop l d none) else .refuse .busy p w

/-- ADMIT (R37). -/
def execAdmitDrop (tag leg drop : Byte) (s : State) : Host.Outcome State Fault Refusal := serve 0x1C tag (doAdmit leg drop) s

/-- Whether a DISMISS of an entry in some state needs a DISMISS order (R38). -/
def DropState.needsDismiss : DropState → Bool
  | .found | .lost => false
  | _ => true

/-- A drop retired at the host's request, its DISMISS order queued behind if it needs one and a place is left (R38, log 28). -/
def Work.dismiss (w : Work) (l : Leg) (d : Drop) : Work :=
  let needed := (w.drop l d).state.needsDismiss
  let w := w.retire l d .dismissed
  if needed && plainRoom (w.leg l).orders then w.queueOrder l (.queued .dismiss (some d)) else w

/-- DISMISS as its owner executes it (R38). -/
def doDismiss (leg drop : Byte) : Handler := onDrop leg drop fun l d p w =>
  let st := (w.drop l d).state
  if st = .vacant ∨ st = .retiring then .refuse .busy p w
  else if st.needsDismiss && !(plainRoom (w.leg l).orders) then .refuse .queueFull p w
  else .ok .none p (w.dismiss l d)

/-- DISMISS (R38). -/
def execDismiss (tag leg drop : Byte) (s : State) : Host.Outcome State Fault Refusal := serve 0x1D tag (doDismiss leg drop) s

/-- DROP_READ as its owner executes it (R39, R67, R106). -/
def doDropRead (leg drop : Byte) : Handler := onDrop leg drop fun l d p w =>
  .ok (.dropRead d (w.drop l d) (w.leg l).histories[d] ((w.leg l).owed.filter fun i => i.drop == d)) p w

/-- DROP_READ (R39). -/
def execDropRead (tag leg drop : Byte) (s : State) : Host.Outcome State Fault Refusal := serve 0x1E tag (doDropRead leg drop) s

/-- A RETIRING entry without a meter, or with one that holds no usage, becomes VACANT (R35). -/
def Work.completeRetirement (w : Work) (l : Leg) (d : Drop) : Work :=
  if (w.drop l d).state == .retiring && !((w.meter l d).any Meter.usage) then (w.setMeter l d none).vacate l d else w

/-- RETIRING_VACATED (R35). -/
def execRetiringVacated (l : Leg) (d : Drop) (s : State) : Host.Outcome State Fault Refusal :=
  .next (event (fun w => w.completeRetirement l d) s)

end Sys2Proof.Machine
end

