-- ==== Sys2Proof/Machine/Lanes.lean ====
section
/-! DEFINITION. Lane requests, MAP_READ and WINDOW_STATS (R84 to R86, R88, R102, R117). -/

namespace Sys2Proof.Machine

/-- The owners whose lanes the host may add, move or remove (R84 to R86). -/
def DropState.laneOpen : DropState → Bool
  | .awaiting | .serving | .dormant => true
  | _ => false

/-- A BIND_LANES to a drop can be queued or absorbed (R84 check 6). -/
def LegRecord.bindRoom (r : LegRecord) (d : Drop) : Bool := hasQueued r.orders d .bindLanes || plainRoom r.orders

/-- A local port of a byte. -/
def toPort? (b : Byte) : Option (Fin 4) := toLeg? b

/-- LANE_ADD as its owner executes it (R84). -/
def doLaneAdd (leg drop port cls : Byte) (first second : BitVec 16) : Handler := onDrop leg drop fun l d p w =>
  let r := w.leg l
  match toPort? port, readFigures cls first second with
  | some q, some f =>
    if !(r.drops[d].state.laneOpen) then .refuse .busy p w
    else if (r.laneAt d q).isSome then .refuse .duplicate p w
    else match freeLane r.lanes with
      | none => .refuse .full p w
      | some n =>
        let x := Lane.fresh d q f
        if x.isFixed && !(fixedLimitsHold (putLane x r.lanes) r.control.settings.reach) then .refuse .ceiling p w
        else if !(r.bindRoom d) then .refuse .queueFull p w
        else .ok (.laneAdd n) p ((w.createLane l x).generate l d .bindLanes)
  | _, _ => .refuse .range p w

/-- LANE_ADD (R84). -/
def execLaneAdd (tag leg drop port cls : Byte) (first second : BitVec 16) (s : State) : Host.Outcome State Fault Refusal :=
  serve 0x20 tag (doLaneAdd leg drop port cls first second) s

/-- The class byte of a lane (11.10). -/
def LaneFigures.classByte : LaneFigures → Byte
  | .fixed _ => 0
  | .assured _ _ => 1
  | .surplus _ _ => 2

/-- A lane with new figures of its class: a lower assured rate clamps the credit to twice the new rate (R81, R85). -/
def Lane.withFigures (x : Lane) (f : LaneFigures) : Lane :=
  match f with
  | .assured rate _ => { x with figures := f, credit := x.credit.map fun c => min c (2 * rate) }
  | _ => { x with figures := f }

/-- A lane moved to another local port: BINDING, its backlog gone (R85). -/
def Lane.moveTo (x : Lane) (q : Fin 4) : Lane := if x.port = q then x else { x with port := q, state := .binding, backlog := 0 }

/-- A lane record stored at its number; a port change also queues or absorbs a BIND_LANES (R85). A BIND_LANES in flight that named
the lane goes on naming it (R53, R80, log 14). -/
def Work.storeLane (w : Work) (l : Leg) (n : Fin 256) (x : Lane) (moved : Bool) : Work :=
  let w := w.mapLeg l fun r => { r with lanes := r.lanes.set n.val (some x) }
  if moved then w.generate l x.owner .bindLanes else w

/-- LANE_CHANGE as its owner executes it (R85); a class byte out of range differs from any lane's class (check 3). -/
def doLaneChange (leg lane cls port : Byte) (first second : BitVec 16) : Handler := onLeg leg fun l p w =>
  let r := w.leg l
  let n : Fin 256 := lane.toFin
  match toPort? port with
  | none => .refuse .range p w
  | some q =>
    if cls.toNat ≤ 2 ∧ (readFigures cls first second).isNone then .refuse .range p w
    else match r.lanes[n] with
      | none => .refuse .absent p w
      | some x =>
        match readFigures cls first second with
        | none => .refuse .range p w
        | some f =>
          let moved := x.port != q
          let y := (x.withFigures f).moveTo q
          if cls ≠ x.figures.classByte then .refuse .range p w
          else if moved && !(r.drops[x.owner].state.laneOpen) then .refuse .busy p w
          else if moved && (r.laneAt x.owner q).isSome then .refuse .duplicate p w
          else if y.fixedBeats > x.fixedBeats &&
              !(fixedLimitsHold (r.lanes.set n.val (some y)) r.control.settings.reach) then .refuse .ceiling p w
          else if moved && !(r.bindRoom x.owner) then .refuse .queueFull p w
          else .ok (.laneChange n y) p (w.storeLane l n y moved)

/-- LANE_CHANGE (R85). -/
def execLaneChange (tag leg lane cls port : Byte) (first second : BitVec 16) (s : State) : Host.Outcome State Fault Refusal :=
  serve 0x21 tag (doLaneChange leg lane cls port first second) s

/-- A lane deleted, its place free, a BIND_LANES for the rest queued or absorbed (R86). -/
def Work.removeLane (w : Work) (l : Leg) (n : Fin 256) (d : Drop) : Work :=
  (w.mapLeg l fun r => { r with lanes := r.lanes.set n.val none, orders := unbindLane n r.orders }).generate l d .bindLanes

/-- LANE_REMOVE as its owner executes it (R86). That BUSY is tested before QUEUE_FULL is the model's choice (DESIGN CHOICE, unsafe:
log 46). -/
def doLaneRemove (leg lane : Byte) : Handler := onLeg leg fun l p w =>
  let r := w.leg l
  let n : Fin 256 := lane.toFin
  match r.lanes[n] with
  | none => .refuse .absent p w
  | some x =>
    if !(r.drops[x.owner].state.laneOpen) then .refuse .busy p w
    else if !(r.bindRoom x.owner) then .refuse .queueFull p w
    else .ok .none p (w.removeLane l n x.owner)

/-- LANE_REMOVE (R86). -/
def execLaneRemove (tag leg lane : Byte) (s : State) : Host.Outcome State Fault Refusal := serve 0x22 tag (doLaneRemove leg lane) s

/-- LANE_READ as its owner executes it (R88). -/
def doLaneRead (leg lane : Byte) : Handler := onLeg leg fun l p w =>
  let r := w.leg l
  let n : Fin 256 := lane.toFin
  match r.lanes[n] with
  | none => .refuse .absent p w
  | some x =>
    .ok (.laneRead n x (w.overQuota l x.owner) (fixedSum r.lanes) (fixedDrops r.lanes) (fixedLimit r.control.settings.reach)) p w

/-- LANE_READ (R88). -/
def execLaneRead (tag leg lane : Byte) (s : State) : Host.Outcome State Fault Refusal := serve 0x23 tag (doLaneRead leg lane) s

/-- The summary of a map (R102). -/
def GrantMap.summary (m : GrantMap) : MapReply where
  round := m.round.round
  empty := m.empty
  window := m.window.map fun w => (w.kind, 8000 - w.length, w.length)
  ranging := m.ranging.map RangingEntry.drop
  burstCount := m.bursts.length
  fixedBeats := m.fixedBeats
  assuredBeats := m.assuredBeats
  surplusBeats := m.surplusBeats
  overheadBeats := 16 * m.bursts.length
  idleBeats := m.idleBeats
  refused := m.refused
  pointerBefore := m.pointerBefore
  pointerAfter := m.pointerAfter
  bursts := m.bursts.map fun b => ⟨b.drop, b.start, b.length, !b.segments.isEmpty⟩

/-- MAP_READ as its owner executes it (R102). -/
def doMapRead (leg : Byte) : Handler := onLeg leg fun l p w =>
  .ok (.mapRead l ((w.leg l).keptMap.map GrantMap.summary)) p w

/-- MAP_READ (R102). -/
def execMapRead (tag leg : Byte) (s : State) : Host.Outcome State Fault Refusal := serve 0x24 tag (doMapRead leg) s

/-- WINDOW_STATS as its owner executes it (R117). -/
def doWindowStats (leg : Byte) : Handler := onLeg leg fun l p w =>
  .ok (.windowStats (w.leg l).stats) p (w.mapStats l fun _ => WindowStats.zero w.stamp)

/-- WINDOW_STATS (R117). -/
def execWindowStats (tag leg : Byte) (s : State) : Host.Outcome State Fault Refusal := serve 0x25 tag (doWindowStats leg) s

end Sys2Proof.Machine
end

