-- ==== Sys2Proof/Machine/Dormant.lean ====
section
/-! DEFINITION. The requests SLEEP and WAKE (R119, R126, R128). -/

namespace Sys2Proof.Machine

/-- The conditions under which SLEEP is refused BUSY (R119 check 2). -/
def LegRecord.sleepBusy (r : LegRecord) (d : Drop) : Bool :=
  let e := r.drops[d]
  e.state != .serving || !e.cleanSinceWake || e.sleepCancelled || hasOrder r.orders d .sleep

/-- SLEEP as its owner executes it (R119). -/
def doSleep (leg drop : Byte) (interval : BitVec 16) : Handler := onDrop leg drop fun l d p w =>
  let r := w.leg l
  let n := clamp 16 1024 interval.toNat
  if r.sleepBusy d then .refuse .busy p w
  else if !(plainRoom r.orders) then .refuse .queueFull p w
  else .ok (.sleep n) p (w.queueOrder l (.queued (.sleep n) (some d)))

/-- SLEEP (R119). -/
def execSleep (tag leg drop : Byte) (interval : BitVec 16) (s : State) : Host.Outcome State Fault Refusal :=
  serve 0x28 tag (doSleep leg drop interval) s

/-- A WAKE queued, if there is room (R126). -/
def queueWake (l : Leg) (d : Drop) : Handler := fun p w =>
  if plainRoom (w.leg l).orders then .ok .none p (w.queueOrder l (.queued .wake (some d))) else .refuse .queueFull p w

/-- The SLEEP that has not gone out yet removed, without failure outcome (R126). -/
def Work.dropQueuedSleep (w : Work) (l : Leg) (d : Drop) : Work :=
  w.mapLeg l fun r =>
    { r with orders := r.orders.filter fun e => !(e.target == some d && e.order.kind == .sleep && !e.awaiting) }

/-- WAKE as its owner executes it (R126). -/
def doWake (leg drop : Byte) : Handler := onDrop leg drop fun l d p w =>
  let r := w.leg l
  let e := r.drops[d]
  match e.state with
  | .dormant => if hasOrder r.orders d .wake then .ok .none p w else queueWake l d p w
  | .serving =>
    if e.sleepCancelled then .ok .none p w
    else if hasAwaiting r.orders d .sleep then
      if plainRoom r.orders then queueWake l d p (w.mapDrop l d fun e => { e with sleepCancelled := true })
      else .refuse .queueFull p w
    else if hasQueued r.orders d .sleep then .ok .none p (w.dropQueuedSleep l d)
    else .ok .none p w
  | _ => .refuse .busy p w

/-- WAKE (R126). -/
def execWake (tag leg drop : Byte) (s : State) : Host.Outcome State Fault Refusal := serve 0x29 tag (doWake leg drop) s

end Sys2Proof.Machine
end

