-- ==== Sys2Proof/Machine/Rogue.lean ====
section
/-! DEFINITION. The requests on the Rogue Monitor and RELEASE (R131, R137, R138, R150, R152, R153). -/

namespace Sys2Proof.Machine

/-- The combination mode of a byte (11.10). -/
def readCombination (b : Byte) : Option Combination := if b = 0 then some .any else if b = 1 then some .all else none

/-- The reference mode of a byte (11.10). -/
def readReference (b : Byte) : Option ReferenceMode := if b = 0 then some .fixed else if b = 1 then some .tracking else none

/-- The eleven settings of a request, clamped to the ranges of R131. -/
def clampRogue (x : WireRogue) (c : Combination) (m : ReferenceMode) : MonitorSettings where
  thresholds := ⟨x.stray.toNat, x.clash.toNat, x.tail.toNat, x.glow.toNat⟩
  combination := c
  referenceMode := m
  watchSpan := clamp 8 256 x.watchSpan.toNat
  strayBeatMin := clamp 1 255 x.strayBeatMin.toNat
  tailLimit := clamp 1 8 x.tailLimit.toNat
  glowMargin := clamp 1 255 x.glowMargin.toNat
  confirmGap := min x.confirmGap.toNat 4095
  confirmWindow := max 1 x.confirmWindow.toNat
  probeSpan := clamp 4 64 x.probeSpan.toNat
  holdOff := max 1 x.holdOff.toNat

/-- Settings stored, with what they do in the monitor's state (R131). -/
def Work.rogueSettings (w : Work) (l : Leg) (s : MonitorSettings) : Work :=
  match (w.leg l).monitor.state with
  | .watching | .suspect =>
    (w.mapMonitor l fun m => { m with settings := s, state := .watching, suspicion := none }).beginSpan l true
  | .holdoff => w.mapMonitor l fun m => { m with settings := s, relearn := true }
  | _ => w.mapMonitor l fun m => { m with settings := s }

/-- ROGUE_SET as its owner executes it (R131). -/
def doRogueSet (leg : Byte) (x : WireRogue) : Handler := onLeg leg fun l p w =>
  match readCombination x.combination, readReference x.reference with
  | some c, some m =>
    let s := clampRogue x c m
    if (w.leg l).monitor.state.searching then .refuse .busy p w
    else if s.confirmWindow < s.confirmGap then .refuse .range p w
    else .ok (.rogueSet s) p (w.rogueSettings l s)
  | _, _ => .refuse .range p w

/-- ROGUE_SET (R131). -/
def execRogueSet (tag leg : Byte) (x : WireRogue) (s : State) : Host.Outcome State Fault Refusal :=
  serve 0x30 tag (doRogueSet leg x) s

/-- A DISARMED monitor armed: WATCHING with a learning span (R137). -/
def Work.arm (w : Work) (l : Leg) : Work :=
  (w.mapMonitor l fun m => { m with state := .watching, relearn := false }).beginSpan l true

/-- ROGUE_ARM as its owner executes it (R137). -/
def doRogueArm (leg : Byte) : Handler := onLeg leg fun l p w =>
  if (w.leg l).monitor.state ≠ .disarmed then .ok .none p w
  else if (w.leg l).control.state = .on then .ok .none p (w.arm l)
  else .refuse .busy p w

/-- ROGUE_ARM (R137). -/
def execRogueArm (tag leg : Byte) (s : State) : Host.Outcome State Fault Refusal := serve 0x31 tag (doRogueArm leg) s

/-- A hunt or a check abandoned by the host (R150). With no free place for the UNHUSH_ALL the HUSHED entries return and the monitor is DISARMED
all the same, and the UNHUSH_ALL is asked for again at the next boundaries (R43; DESIGN CHOICE, unsafe: log 51). -/
def Work.abandonHunt (w : Work) (l : Leg) : Work := (((w.dropStepAsks l).queueUnhush l).unhushAll l none).disarmByHost l

/-- ROGUE_DISARM as its owner executes it (R138). -/
def doRogueDisarm (leg : Byte) : Handler := onLeg leg fun l p w =>
  match (w.leg l).monitor.state with
  | .disarmed => .ok .none p w
  | .hunting | .verifying => .ok .none p (w.abandonHunt l)
  | .watching | .suspect | .holdoff => .ok .none p (w.disarmByHost l)

/-- ROGUE_DISARM (R138). -/
def execRogueDisarm (tag leg : Byte) (s : State) : Host.Outcome State Fault Refusal := serve 0x32 tag (doRogueDisarm leg) s

/-- A span's figures as ROGUE_READ reports them. -/
def Span.figures (sp : Span) : Nat × Bool × Signatures × Option (Drop × Bool) :=
  (sp.position, sp.learning, sp.counts, sp.tailDrop.map fun d => (d, sp.mixed))

/-- The figures of ROGUE_READ (R153). -/
def Monitor.reply (m : Monitor) (now : Stamp) : RogueReply where
  state := m.state
  settings := m.settings
  relearn := m.relearn
  span := m.span.map Span.figures
  reference := m.reference
  suspicion := m.suspicion.map fun t => (t, t.roundsTo now)
  candidates := m.candidates
  suspectDrop := m.suspectDrop
  step := m.step.map fun s => (s.kind, s.number, s.set, s.elapsed, s.read, s.lit)
  holdOffLeft := m.holdOffLeft
  lastVerdict := m.lastVerdict

/-- ROGUE_READ as its owner executes it (R153). -/
def doRogueRead (leg : Byte) : Handler := onLeg leg fun l p w => .ok (.rogueRead ((w.leg l).monitor.reply w.stamp)) p w

/-- ROGUE_READ (R153). -/
def execRogueRead (tag leg : Byte) (s : State) : Host.Outcome State Fault Refusal := serve 0x33 tag (doRogueRead leg) s

/-- A quarantine ended at the host's request (R152). -/
def Work.release (w : Work) (l : Leg) (d : Drop) : Work :=
  let w := (w.removeOrders l d .mute).mapMonitor l fun m => { m with asks := m.asks.filter fun a => a != .mute d }
  let w := w.mapDrop l d fun e =>
    { e.resetCounts with state := .found, since := w.stamp, origin := some .released, reason := none, level := none }
  (w.forget l d).raiseDropState l d

/-- RELEASE as its owner executes it (R152). -/
def doRelease (leg drop : Byte) : Handler := onDrop leg drop fun l d p w =>
  if (w.drop l d).state = .quarantined then .ok .none p (w.release l d) else .refuse .busy p w

/-- RELEASE (R152). -/
def execRelease (tag leg drop : Byte) (s : State) : Host.Outcome State Fault Refusal := serve 0x34 tag (doRelease leg drop) s

end Sys2Proof.Machine
end

