-- ==== Sys2Proof/Machine/Usage.lean ====
section
/-! DEFINITION. The band, quotas, closes and the journal: their requests and the closes that waited for room (R172, R174, R175, R178,
R180, R181, R183, R187 to R190). -/

namespace Sys2Proof.Machine

/-! ### The band schedule (R172, R174, R175) -/

/-- The band of a byte: `some none` is NONE (11.8, R172). -/
def readBand (b : Byte) : Option (Option (Fin 4)) := if b = 0xFF then some none else (toLeg? b).map some

/-- The first block boundary at or after a stamp, a round of 4,096 being round 0 of the next cycle (R172 case 2); a round above 4,096
names no round, and the block is a free value (log 9). -/
def blockAt (cycle round : Nat) : Stamp :=
  if round ≤ 4096 then Stamp.ofIndex ((cycle * 4096 + round + 63) / 64 * 64)
  else Stamp.ofIndex (Config.bandBlock cycle round * 64)

/-- The effective boundary of a BAND_SET taken in the round `now` (R172). -/
def effectiveBoundary (now : Stamp) (whenKind : Byte) (cycle : BitVec 32) (round : BitVec 16) : Stamp :=
  if whenKind ≠ 0 then now.nextBlock
  else
    let b := blockAt cycle.toNat round.toNat
    if b.le now then now.nextBlock else b

/-- An entry put in the schedule in its order, replacing one with its boundary (R172). -/
def putBand (e : BandEntry) : List BandEntry → List BandEntry
  | [] => [e]
  | x :: xs =>
    if x.boundary = e.boundary then e :: xs
    else if x.boundary.le e.boundary then x :: putBand e xs
    else e :: x :: xs

/-- The band schedule replaced. -/
def Work.setBandPlan (w : Work) (xs : List BandEntry) : Work := { w with blocks := { w.blocks with bandPlan := xs } }

/-- BAND_SET as its owner executes it (R172). -/
def doBandSet (band whenKind : Byte) (cycle : BitVec 32) (round : BitVec 16) : Handler := fun p w =>
  let at' := effectiveBoundary w.stamp whenKind cycle round
  let plan := w.blocks.bandPlan
  let held := plan.any fun e => e.boundary == at'
  match readBand band with
  | none => .refuse .range p w
  | some none =>
    if held then
      let xs := plan.filter fun e => e.boundary != at'
      .ok (.bandSet at' xs.length) p (w.setBandPlan xs)
    else .refuse .absent p w
  | some (some b) =>
    if !held && plan.length ≥ 8 then .refuse .full p w
    else
      let xs := putBand ⟨b, at'⟩ plan
      .ok (.bandSet at' xs.length) p (w.setBandPlan xs)

/-- BAND_SET (R172). -/
def execBandSet (tag band whenKind : Byte) (cycle : BitVec 32) (round : BitVec 16) (s : State) :
    Host.Outcome State Fault Refusal :=
  serve 0x38 tag (doBandSet band whenKind cycle round) s

/-- Bits 0 to 3 of a byte, one for each band or leg (11.10). -/
def fourBits (b : Byte) : Vector Bool 4 := #v[b.getLsbD 0, b.getLsbD 1, b.getLsbD 2, b.getLsbD 3]

/-- BAND_QUOTA_SET as its owner executes it (R174). -/
def doBandQuotaSet (flags : Byte) : Handler := fun p w =>
  .ok (.bandQuotaSet (fourBits flags)) p { w with blocks := { w.blocks with quotaBands := fourBits flags } }

/-- BAND_QUOTA_SET (R174). -/
def execBandQuotaSet (tag flags : Byte) (s : State) : Host.Outcome State Fault Refusal :=
  serve 0x39 tag (doBandQuotaSet flags) s

/-- BAND_READ as its owner executes it (R175). -/
def doBandRead : Handler := fun p w =>
  .ok (.bandRead w.blocks.band w.blocks.quotaBands w.blocks.bandPlan w.stamp.nextBlock) p w

/-- BAND_READ (R175). -/
def execBandRead (tag : Byte) (s : State) : Host.Outcome State Fault Refusal := serve 0x3A tag doBandRead s

/-! ### Quotas (R178) -/

/-- A meter's over-quota mark cleared where a new quota is 0 or above quota used (R177 case 1). -/
def Work.clearQuota (w : Work) (l : Leg) (d : Drop) (quota : Nat) : Work :=
  match w.meter l d with
  | none => w
  | some m =>
    if m.overQuota && (quota == 0 || quota > m.quotaUsed) then w.setMeter l d (some { m with overQuota := false }) else w

/-- A quota stored and the account's meter judged against it (R178). -/
def Work.setQuota (w : Work) (i : Fin 512) (quota : Nat) : Work :=
  let w := w.mapEnrol i fun e => { e with quota := quota }
  match (w.blocks.enrol[i]).bind EnrolEntry.binding with
  | none => w
  | some (l, d) => if w.overQuota l d then w.clearQuota l d quota else w.judgeQuota l d

/-- The figures of an account's meter after a QUOTA_SET, if it has one (R178). -/
def Work.quotaFigures (w : Work) (i : Fin 512) : Option (Nat × Bool) :=
  match (w.blocks.enrol[i]).bind EnrolEntry.binding with
  | none => none
  | some (l, d) => (w.meter l d).map fun m => (m.quotaUsed, m.overQuota)

/-- QUOTA_SET as its owner executes it (R178). -/
def doQuotaSet (account : BitVec 32) (quota : BitVec 64) : Handler := fun p w =>
  if account.toNat = 0 then .refuse .range p w
  else match w.blocks.enrolWhere fun e => e.account == account.toNat with
    | none => .refuse .absent p w
    | some i =>
      let w' := w.setQuota i quota.toNat
      .ok (.quotaSet quota.toNat (w'.quotaFigures i)) p w'

/-- QUOTA_SET (R178). -/
def execQuotaSet (tag : Byte) (account : BitVec 32) (quota : BitVec 64) (s : State) : Host.Outcome State Fault Refusal :=
  serve 0x3B tag (doQuotaSet account quota) s

/-! ### Periods (R180, R181) -/

/-- The cycle number of the next periodic close (R180). -/
def nextClose (cycle length : Nat) : Option Nat :=
  if length = 0 then none
  else
    let n := (cycle / length + 1) * length
    some (if n < 4294967296 then n else length)

/-- PERIOD_SET as its owner executes it (R180). -/
def doPeriodSet (length : BitVec 16) : Handler := fun p w =>
  .ok (.periodSet (nextClose w.stamp.cycle length.toNat)) p { w with blocks := { w.blocks with period := length.toNat } }

/-- PERIOD_SET (R180). -/
def execPeriodSet (tag : Byte) (length : BitVec 16) (s : State) : Host.Outcome State Fault Refusal :=
  serve 0x3C tag (doPeriodSet length) s

/-- Two masks of legs combined (R181). -/
def orFlags (a b : Vector Bool 4) : Vector Bool 4 := Vector.ofFn fun i : Fin 4 => a[i] || b[i]

/-- CLOSE_PERIOD as its owner executes it (R181). -/
def doClosePeriod (mask : Byte) : Handler := fun p w =>
  if !((fourBits mask).any id) then .refuse .range p w
  else .ok (.stamp w.stamp.next) p { w with blocks := { w.blocks with hostClose := orFlags w.blocks.hostClose (fourBits mask) } }

/-- CLOSE_PERIOD (R181). -/
def execClosePeriod (tag mask : Byte) (s : State) : Host.Outcome State Fault Refusal := serve 0x3D tag (doClosePeriod mask) s

/-! ### Closes that waited (R183) -/

/-- The close of a HELD meter written, if there is room; a RETIRING entry whose close it was becomes VACANT (R35, R179, R183). -/
def Work.writeHeldMeter (w : Work) (l : Leg) (d : Drop) : Work :=
  match w.meter l d with
  | none => w
  | some m =>
    match m.pending with
    | none => w
    | some (cause, _) =>
      if w.blocks.journal.room then
        let w := (w.writeEntry l d m cause).afterWritten l d m cause
        if cause.ending && (w.drop l d).state == .retiring then w.vacate l d else w
      else w

/-- The closes of HELD meters written as far as the room allows, in leg and drop order (R183). -/
def Work.writeHeld (w : Work) : Work := forLegs (fun l w => forDrops allDrops (fun d w => w.writeHeldMeter l d) w) w

/-- HELD_CLOSE_WRITE (R183). -/
def execHeldCloseWrite (s : State) : Host.Outcome State Fault Refusal := .next (event Work.writeHeld s)

/-! ### The journal (R187 to R189) -/

/-- The first sequence a read returns: the cursor for RESUME, the oldest unreleased entry for RESTART (R187). -/
def Journal.readFrom (j : Journal) (restart : Bool) : Nat := if restart then j.oldest.getD j.nextSeq else j.cursor

/-- The entries a read returns (R187). -/
def Journal.readEntries (j : Journal) (restart : Bool) (count : Nat) : List JournalEntry :=
  (j.entries.filter fun e => e.seq ≥ j.readFrom restart).take count

/-- The journal after a read (R187 item 3). -/
def Journal.afterRead (j : Journal) (es : List JournalEntry) : Journal :=
  match es.getLast? with
  | some e => { j with cursor := e.seq + 1 }
  | none => j

/-- The entries at or after the cursor. -/
def Journal.ahead (j : Journal) : Nat := (j.entries.filter fun e => e.seq ≥ j.cursor).length

/-- JOURNAL_READ as its owner executes it (R187). -/
def doJournalRead (count mode : Byte) : Handler := fun p w =>
  if count.toNat = 0 ∨ count.toNat > 8 ∨ mode.toNat > 1 then .refuse .range p w
  else
    let es := w.blocks.journal.readEntries (mode == 1) count.toNat
    let w := w.mapJournal fun j => j.afterRead es
    .ok (.journalRead w.blocks.journal.entries.length w.blocks.journal.ahead w.blocks.heldCount es) p w

/-- JOURNAL_READ (R187). -/
def execJournalRead (tag count mode : Byte) (s : State) : Host.Outcome State Fault Refusal :=
  serve 0x40 tag (doJournalRead count mode) s

/-- The highest sequence a release removes (R188). -/
def Journal.releaseLimit (j : Journal) (seq : Nat) : Nat := min seq (j.cursor - 1)

/-- The entries a release removes (R188). -/
def Journal.released (j : Journal) (seq : Nat) : Nat := (j.entries.filter fun e => e.seq ≤ j.releaseLimit seq).length

/-- Released entries removed, and the watermark judged (R188, R189). -/
def Work.releaseEntries (w : Work) (seq : Nat) : Work :=
  let w' := w.mapJournal fun j => { j with entries := j.entries.filter fun e => !(e.seq ≤ j.releaseLimit seq) }
  if w.blocks.journal.released seq = 0 then w' else w'.judgeLevel

/-- JOURNAL_RELEASE as its owner executes it (R188). -/
def doJournalRelease (seq : BitVec 32) : Handler := fun p w =>
  let w₁ := w.releaseEntries seq.toNat
  let w₂ := w₁.writeHeld
  let j := w₂.blocks.journal
  .ok (.journalRelease (w.blocks.journal.released seq.toNat) (j.nextSeq - w₁.blocks.journal.nextSeq) j.entries.length j.oldest
    w₂.blocks.heldCount) p w₂

/-- JOURNAL_RELEASE (R188). -/
def execJournalRelease (tag : Byte) (seq : BitVec 32) (s : State) : Host.Outcome State Fault Refusal :=
  serve 0x41 tag (doJournalRelease seq) s

/-- JOURNAL_WATERMARK as its owner executes it (R189). -/
def doJournalWatermark (level : BitVec 16) : Handler := fun p w =>
  let n := clamp 1 1024 level.toNat
  .ok (.watermark n w.blocks.journal.entries.length) p (w.mapJournal fun j => { j with watermark := n }).judgeLevel

/-- JOURNAL_WATERMARK (R189). -/
def execJournalWatermark (tag : Byte) (level : BitVec 16) (s : State) : Host.Outcome State Fault Refusal :=
  serve 0x42 tag (doJournalWatermark level) s

/-- METER_READ as its owner executes it (R190). -/
def doMeterRead (leg drop : Byte) : Handler := onDrop leg drop fun l d p w =>
  match w.meter l d with
  | none => .refuse .absent p w
  | some m => .ok (.meterRead l d m (w.blocks.quotaOf m.account) w.blocks.quotaBands[w.blocks.band]) p w

/-- METER_READ (R190). -/
def execMeterRead (tag leg drop : Byte) (s : State) : Host.Outcome State Fault Refusal := serve 0x43 tag (doMeterRead leg drop) s

end Sys2Proof.Machine
end

