-- ==== Sys2Proof/Machine/Port.lean ====
section
/-! DEFINITION. The Control Port: its transactions, the requests it owns, RESTART, the taking of a record, and a frame from the uplink
(R163, R191 to R207, R209). -/

namespace Sys2Proof.Machine

/-! ### Requests of the port (R200 to R203) -/

/-- IDENTIFY as its owner executes it (R202). -/
def doIdentify : Handler := fun p w => .ok (.identify 0x5D04 1 1 4 128 512 256 48 1024 w.blocks.time.part) p w

/-- IDENTIFY (R202). -/
def execIdentify (tag : Byte) (s : State) : Host.Outcome State Fault Refusal := serve 0x01 tag doIdentify s

/-- The figures of a STATUS reply (R203). -/
def statusOf (p : Port) (w : Work) : StatusReply where
  part := w.blocks.time.part
  stamp := w.stamp
  legs := w.blocks.legs.map fun r => r.control.state
  latched := p.latch
  persistent := p.persistent
  bad := p.bad
  overrun := p.overrun
  log := p.log
  noticesLost := p.noticesLost
  replies := p.outbound.length - noticeCount p.outbound
  notices := noticeCount p.outbound
  inbound := p.inbound.length

/-- STATUS as its owner executes it (R203, log 32). -/
def doStatus : Handler := fun p w => .ok (.status (statusOf p w)) { p with noticesLost := false } w

/-- STATUS (R203). -/
def execStatus (tag : Byte) (s : State) : Host.Outcome State Fault Refusal := serve 0x02 tag doStatus s

/-- PORT_SET as its owner executes it (R201). -/
def doPortSet (mode : Byte) (mask : BitVec 32) : Handler := fun p w =>
  if mode.toNat > 1 then .refuse .range p w
  else
    let on := mode == 1
    .ok (.portSet on (storedMask mask)) { p with persistent := on, mask := storedMask mask } w

/-- PORT_SET (R201). -/
def execPortSet (tag mode : Byte) (mask : BitVec 32) (s : State) : Host.Outcome State Fault Refusal :=
  serve 0x03 tag (doPortSet mode mask) s

/-- CLEAR_LATCH as its owner executes it (R200). -/
def doClearLatch : Handler := fun p w =>
  .ok (.clearLatch p.latch p.bad p.overrun p.log) { p with latch := false, bad := 0, overrun := 0, log := none } w

/-- CLEAR_LATCH (R200). -/
def execClearLatch (tag : Byte) (s : State) : Host.Outcome State Fault Refusal := serve 0x04 tag doClearLatch s

/-! ### RESTART (R185, R205 to R207) -/

/-- The meters of a leg that hold usage. -/
def LegRecord.usedMeters (r : LegRecord) : Nat := (r.meters.toList.filter fun o => o.any Meter.usage).length

/-- The meters of a leg. -/
def LegRecord.meterCount (r : LegRecord) : Nat := (r.meters.toList.filter Option.isSome).length

/-- The meters holding usage, M of R205. -/
def Blocks.usedMeters (b : Blocks) : Nat := (b.legs.toList.map LegRecord.usedMeters).sum

/-- All meters. -/
def Blocks.meterCount (b : Blocks) : Nat := (b.legs.toList.map LegRecord.meterCount).sum

/-- The journal has room for every restart close (R205). -/
def Blocks.restartRoom (b : Blocks) : Bool :=
  b.journal.entries.length + b.usedMeters ≤ 1024 && b.journal.nextSeq + b.usedMeters ≤ 4294967296

/-- A meter closed by a RESTART, or removed unwritten (R185). -/
def Work.restartMeter (w : Work) (l : Leg) (d : Drop) : Work :=
  match w.meter l d with
  | none => w
  | some m => (if m.usage then w.writeEntry l d m .restart else w).setMeter l d none

/-- A leg after a RESTART at the stamp `t`, its meters gone already (R206). -/
def LegRecord.restarted (r : LegRecord) (t : Stamp) : LegRecord :=
  { r with
    control := { r.control with state := .off, roundsLeft := 0, cause := none, txen := false }
    sending := none
    drops := Vector.replicate 128 (DropEntry.vacant t)
    schedule := DiscoverySchedule.cleared
    owed := [], orders := []
    lastEcho := Vector.replicate 128 none
    lanes := Vector.replicate 256 none
    pointer := 0, keptMap := none
    requests := WindowRequests.none
    inFlight := []
    histories := Vector.replicate 128 History.empty
    stats := WindowStats.zero t
    uplink := []
    monitor := Monitor.disarmed r.monitor.settings false none
    fifo := [] }

/-- A leg taken out of service by a RESTART; one that was not OFF raises a LEG_STATE notice (R206, R207). -/
def Work.restartLeg (w : Work) (l : Leg) : Work :=
  let st := (w.leg l).control.state
  let w := w.mapLeg l fun r => r.restarted w.stamp
  if st == .off then w else w.raise (some l) none (.legState .off none)

/-- What a RESTART does to the blocks, in the order of R206. -/
def Work.restart (w : Work) : Work :=
  let w := forLegs (fun l w => forDrops allDrops (fun d w => w.restartMeter l d) w) w
  let w := forLegs (fun l w => w.restartLeg l) w
  { w with
    blocks :=
      { w.blocks with
        time := { w.blocks.time with ring := [], captures := 0 }
        enrol := w.blocks.enrol.map fun o => o.map fun e => { e with binding := none }
        hostClose := Vector.replicate 4 false } }

/-- RESTART as its owner executes it (R205 to R207). -/
def doRestart : Handler := fun p w =>
  if !w.blocks.restartRoom then .refuse .room p w
  else
    let used := w.blocks.usedMeters
    let w' := w.restart
    let j := w'.blocks.journal
    .ok (.restart used (w.blocks.meterCount - used) j.entries.length j.nextSeq) { p with inbound := [], outbound := [] } w'

/-- RESTART (R205). -/
def execRestart (tag : Byte) (s : State) : Host.Outcome State Fault Refusal := serve 0x05 tag doRestart s

/-! ### Writes (R191, R193, R194, R199) -/

/-- The judgement of the bytes of a write transaction: a cause, or a good record's KIND, TAG and BODY (R193). -/
def judgeRecord (bytes : List Byte) : PortCause ⊕ (Byte × Byte × List Byte) :=
  match bytes with
  | a :: b :: rest =>
    let len := a.toNat * 256 + b.toNat
    if len < 2 ∨ len > 1022 then .inl .length
    else if bytes.length < len + 4 then .inl .short
    else if bytes.length > len + 4 then .inl .long
    else if put16 (crc16 (bytes.take (len + 2))) ≠ bytes.drop (len + 2) then .inl .crc
    else
      match rest.take len with
      | kind :: tag :: body => .inr (kind, tag, body)
      | _ => .inl .short
  | _ => .inl .short

/-- A PORT_ERROR notice placed (R193, R194). -/
def portError (p : Port) (now : Stamp) (cause : PortCause) : Port :=
  placeAll p [⟨none, none, now, .portError cause p.bad p.overrun p.latch⟩]

/-- A bad record or a bad transaction: counted, logged, the latch set in persistent mode, a notice raised (R193, R199). -/
def badRecord (p : Port) (now : Stamp) (cause : PortCause) (count : Nat) (bytes : List Byte) : Port :=
  portError
    { p with
      bad := min (p.bad + 1) 65535
      log := some ⟨cause, now, min count 65535, bytes.take 8⟩
      latch := p.latch || p.persistent } now cause

/-- A good record: put in the inbound buffer, or discarded as an overrun (R194). -/
def goodRecord (p : Port) (now : Stamp) (kind tag : Byte) (body : List Byte) : Port :=
  if p.inbound.length < 4 then { p with inbound := p.inbound ++ [⟨kind, tag, body, p.latch⟩] }
  else portError { p with overrun := min (p.overrun + 1) 65535 } now .overrun

/-- WRITE_TRANSACTION_END: the collected bytes are judged (R191, R193). -/
def execWriteTransactionEnd (bytes : List Byte) (s : State) : Host.Outcome State Fault Refusal :=
  .next
    { s with
      port :=
        match judgeRecord bytes with
        | .inl cause => badRecord s.port s.blocks.now cause bytes.length bytes
        | .inr (kind, tag, body) => goodRecord s.port s.blocks.now kind tag body }

/-- BAD_OPCODE_TRANSACTION: an opcode that is neither 0xC1 nor 0xC2 (R191, R193, log 18). -/
def execBadOpcodeTransaction (opcode : Byte) (s : State) : Host.Outcome State Fault Refusal :=
  .next
    (if opcode = 0xC1 ∨ opcode = 0xC2 then s
     else { s with port := badRecord s.port s.blocks.now .opcode 0 [opcode] })

/-! ### Reads (R192) -/

/-- The transfer mark of the record at the head. -/
def markHead (on : Bool) : List OutRecord → List OutRecord
  | [] => []
  | r :: rs => { r with inTransfer := on } :: rs

/-- READ_OPCODE: the record at the head is in transfer (R192). -/
def execReadOpcode (s : State) : Host.Outcome State Fault Refusal :=
  .next { s with port := { s.port with outbound := markHead true s.port.outbound } }

/-- The queue after a read transaction: a record in transfer that was read whole is removed, else it stays (R192). -/
def afterTransfer (whole : Bool) : List OutRecord → List OutRecord
  | [] => []
  | r :: rs => if r.inTransfer then (if whole then rs else { r with inTransfer := false } :: rs) else r :: rs

/-- READ_TRANSACTION_END (R192, R198). -/
def execReadTransactionEnd (whole : Bool) (s : State) : Host.Outcome State Fault Refusal :=
  .next { s with port := judgeLines { s.port with outbound := afterTransfer whole s.port.outbound } }

/-! ### Taking a request (R195) -/

/-- The owner of each request. -/
def runRequest : Request → Handler
  | .identify => doIdentify
  | .status => doStatus
  | .portSet m k => doPortSet m k
  | .clearLatch => doClearLatch
  | .restart => doRestart
  | .pulseRead => doPulseRead
  | .legOn l r => doLegOn l r
  | .legOff l => doLegOff l
  | .legSet l x => doLegSet l x
  | .legStatus l => doLegStatus l
  | .setReach l r => doSetReach l r
  | .announceSet l h => doAnnounceSet l h
  | .enrolAdd e => doEnrolAdd e
  | .enrolRemove x => doEnrolRemove x
  | .enrolRead x => doEnrolRead x
  | .strangerRead l c => doStrangerRead l c
  | .admitDrop l d => doAdmit l d
  | .dismiss l d => doDismiss l d
  | .dropRead l d => doDropRead l d
  | .laneAdd l d p c f g => doLaneAdd l d p c f g
  | .laneChange l n c p f g => doLaneChange l n c p f g
  | .laneRemove l n => doLaneRemove l n
  | .laneRead l n => doLaneRead l n
  | .mapRead l => doMapRead l
  | .windowStats l => doWindowStats l
  | .sleep l d i => doSleep l d i
  | .wake l d => doWake l d
  | .rogueSet l x => doRogueSet l x
  | .rogueArm l => doRogueArm l
  | .rogueDisarm l => doRogueDisarm l
  | .rogueRead l => doRogueRead l
  | .release l d => doRelease l d
  | .bandSet b k c r => doBandSet b k c r
  | .bandQuotaSet f => doBandQuotaSet f
  | .bandRead => doBandRead
  | .quotaSet a q => doQuotaSet a q
  | .periodSet n => doPeriodSet n
  | .closePeriod m => doClosePeriod m
  | .journalRead c m => doJournalRead c m
  | .journalRelease q => doJournalRelease q
  | .journalWatermark v => doJournalWatermark v
  | .meterRead l d => doMeterRead l d

/-- A record taken from the inbound buffer, checked and answered (R195); `s` no longer holds it. -/
def takeRecord (r : InRecord) (s : State) : State :=
  match parseRequest r.kind r.body with
  | .unknownKind =>
    (⟨.unknownKind, .unknownKind r.kind, s.port, Work.start s.blocks⟩ : Answer).deliver 0x5F r.tag s
  | .wrongLength => (Answer.refuse .length s.port (Work.start s.blocks)).deliver r.kind r.tag s
  | .request q => handOver r.kind r.tag r.latched (runRequest q) s

/-- TAKE_REQUEST: the record at the head of the inbound buffer, if it can be taken (R195). -/
def execTakeRequest (s : State) : Host.Outcome State Fault Refusal :=
  .next
    (match s.port.inbound with
     | r :: rs => if hasPlace s.port r.tag then takeRecord r { s with port := { s.port with inbound := rs } } else s
     | [] => s)

/-! ### A frame from the uplink (R163, R209) -/

/-- The leg of an uplink tag (11.10). -/
def tagLeg (t : BitVec 32) : Leg := (t.extractLsb' 30 2).toFin

/-- The drop index of an uplink tag. -/
def tagDrop (t : BitVec 32) : Drop := (t.extractLsb' 23 7).toFin

/-- The class of an uplink tag: SURPLUS. -/
def tagSurplus (t : BitVec 32) : Bool := t.getLsbD 14

/-- The direction of an uplink tag: downstream. -/
def tagDown (t : BitVec 32) : Bool := t.getLsbD 13

/-- The data length of an uplink tag. -/
def tagLength (t : BitVec 32) : Nat := (t.extractLsb' 0 13).toNat

/-- Whether the Downstream Queue of a leg takes a frame (R163, R209). -/
def LegRecord.takesFrame (r : LegRecord) (tag : BitVec 32) (data : List Byte) : Bool :=
  tagDown tag && tagLength tag != 0 && data.length == tagLength tag && r.control.state.sends &&
    occupancy r.fifo + tagLength tag + 4 ≤ 262144

/-- A frame the uplink delivers: appended to its leg's FIFO, or discarded and counted (R163, R209). -/
def Work.frameArrives (w : Work) (tag : BitVec 32) (data : List Byte) : Work :=
  let l := tagLeg tag
  if (w.leg l).takesFrame tag data then
    w.mapLeg l fun r => { r with fifo := r.fifo ++ [⟨tagDrop tag, tagSurplus tag, data⟩] }
  else w.discardDown l 1

/-- DOWNSTREAM_FRAME_ARRIVAL (R163). -/
def execDownstreamFrameArrival (tag : BitVec 32) (data : List Byte) (s : State) : Host.Outcome State Fault Refusal :=
  .next (event (fun w => w.frameArrives tag data) s)

end Sys2Proof.Machine
end

