-- ==== Sys2Proof/Machine/Dispatch.lean ====
section
/-! DEFINITION. The meaning of every command: one arm per constructor of `Instr`, each one direct call. -/

namespace Sys2Proof.Machine

def exec (i : Instr) (s : State) : Host.Outcome State Fault Refusal :=
  match i with
  | .pinReset => Sys2Proof.Machine.execPinReset s
  | .lockReached => Sys2Proof.Machine.execLockReached s
  | .lossOfLock => Sys2Proof.Machine.execLossOfLock s
  | .pulseCapture => Sys2Proof.Machine.execPulseCapture s
  | .laserFaultAsserted leg => Sys2Proof.Machine.execLaserFaultAsserted leg s
  | .roundBoundary => Sys2Proof.Machine.execRoundBoundary s
  | .announcementBlockBoundary => Sys2Proof.Machine.execAnnouncementBlockBoundary s
  | .cycleBoundary => Sys2Proof.Machine.execCycleBoundary s
  | .preparingEnd leg => Sys2Proof.Machine.execPreparingEnd leg s
  | .retimingEnd leg => Sys2Proof.Machine.execRetimingEnd leg s
  | .faultRecovery leg => Sys2Proof.Machine.execFaultRecovery leg s
  | .lostHoldExpiry leg drop => Sys2Proof.Machine.execLostHoldExpiry leg drop s
  | .discoveryDue leg => Sys2Proof.Machine.execDiscoveryDue leg s
  | .wakeCheckDue leg drop => Sys2Proof.Machine.execWakeCheckDue leg drop s
  | .echoWaitResendDue leg drop => Sys2Proof.Machine.execEchoWaitResendDue leg drop s
  | .orderFailed leg drop => Sys2Proof.Machine.execOrderFailed leg drop s
  | .orderRetry leg => Sys2Proof.Machine.execOrderRetry leg s
  | .suspectTimeout leg => Sys2Proof.Machine.execSuspectTimeout leg s
  | .holdoffExpiry leg => Sys2Proof.Machine.execHoldoffExpiry leg s
  | .grantedWindowEnd leg light => Sys2Proof.Machine.execGrantedWindowEnd leg light s
  | .missedCountLimit leg drop => Sys2Proof.Machine.execMissedCountLimit leg drop s
  | .outOfBandRunLimit leg drop level => Sys2Proof.Machine.execOutOfBandRunLimit leg drop level s
  | .discoveryWindowEnd leg light announces => Sys2Proof.Machine.execDiscoveryWindowEnd leg light announces s
  | .rangingWindowEnd leg bursts => Sys2Proof.Machine.execRangingWindowEnd leg bursts s
  | .receiveRoundEnd leg light => Sys2Proof.Machine.execReceiveRoundEnd leg light s
  | .spanEnd leg report => Sys2Proof.Machine.execSpanEnd leg report s
  | .stepReading leg report => Sys2Proof.Machine.execStepReading leg report s
  | .downstreamFrameArrival tag data => Sys2Proof.Machine.execDownstreamFrameArrival tag data s
  | .writeTransactionEnd bytes => Sys2Proof.Machine.execWriteTransactionEnd bytes s
  | .badOpcodeTransaction opcode => Sys2Proof.Machine.execBadOpcodeTransaction opcode s
  | .readOpcode => Sys2Proof.Machine.execReadOpcode s
  | .readTransactionEnd whole => Sys2Proof.Machine.execReadTransactionEnd whole s
  | .takeRequest => Sys2Proof.Machine.execTakeRequest s
  | .heldCloseWrite => Sys2Proof.Machine.execHeldCloseWrite s
  | .retiringVacated leg drop => Sys2Proof.Machine.execRetiringVacated leg drop s
  | .legDrained leg => Sys2Proof.Machine.execLegDrained leg s
  | .identify tag => Sys2Proof.Machine.execIdentify tag s
  | .status tag => Sys2Proof.Machine.execStatus tag s
  | .portSet tag mode mask => Sys2Proof.Machine.execPortSet tag mode mask s
  | .clearLatch tag => Sys2Proof.Machine.execClearLatch tag s
  | .restart tag => Sys2Proof.Machine.execRestart tag s
  | .pulseRead tag => Sys2Proof.Machine.execPulseRead tag s
  | .legOn tag leg reach => Sys2Proof.Machine.execLegOn tag leg reach s
  | .legOff tag leg => Sys2Proof.Machine.execLegOff tag leg s
  | .legSet tag leg settings => Sys2Proof.Machine.execLegSet tag leg settings s
  | .legStatus tag leg => Sys2Proof.Machine.execLegStatus tag leg s
  | .setReach tag leg reach => Sys2Proof.Machine.execSetReach tag leg reach s
  | .announceSet tag leg host => Sys2Proof.Machine.execAnnounceSet tag leg host s
  | .enrolAdd tag entry => Sys2Proof.Machine.execEnrolAdd tag entry s
  | .enrolRemove tag serial => Sys2Proof.Machine.execEnrolRemove tag serial s
  | .enrolRead tag serial => Sys2Proof.Machine.execEnrolRead tag serial s
  | .strangerRead tag leg clear => Sys2Proof.Machine.execStrangerRead tag leg clear s
  | .admitDrop tag leg drop => Sys2Proof.Machine.execAdmitDrop tag leg drop s
  | .dismiss tag leg drop => Sys2Proof.Machine.execDismiss tag leg drop s
  | .dropRead tag leg drop => Sys2Proof.Machine.execDropRead tag leg drop s
  | .laneAdd tag leg drop port cls first second => Sys2Proof.Machine.execLaneAdd tag leg drop port cls first second s
  | .laneChange tag leg lane cls port first second => Sys2Proof.Machine.execLaneChange tag leg lane cls port first second s
  | .laneRemove tag leg lane => Sys2Proof.Machine.execLaneRemove tag leg lane s
  | .laneRead tag leg lane => Sys2Proof.Machine.execLaneRead tag leg lane s
  | .mapRead tag leg => Sys2Proof.Machine.execMapRead tag leg s
  | .windowStats tag leg => Sys2Proof.Machine.execWindowStats tag leg s
  | .sleep tag leg drop interval => Sys2Proof.Machine.execSleep tag leg drop interval s
  | .wake tag leg drop => Sys2Proof.Machine.execWake tag leg drop s
  | .rogueSet tag leg settings => Sys2Proof.Machine.execRogueSet tag leg settings s
  | .rogueArm tag leg => Sys2Proof.Machine.execRogueArm tag leg s
  | .rogueDisarm tag leg => Sys2Proof.Machine.execRogueDisarm tag leg s
  | .rogueRead tag leg => Sys2Proof.Machine.execRogueRead tag leg s
  | .release tag leg drop => Sys2Proof.Machine.execRelease tag leg drop s
  | .bandSet tag band whenKind cycle round => Sys2Proof.Machine.execBandSet tag band whenKind cycle round s
  | .bandQuotaSet tag flags => Sys2Proof.Machine.execBandQuotaSet tag flags s
  | .bandRead tag => Sys2Proof.Machine.execBandRead tag s
  | .quotaSet tag account quota => Sys2Proof.Machine.execQuotaSet tag account quota s
  | .periodSet tag length => Sys2Proof.Machine.execPeriodSet tag length s
  | .closePeriod tag mask => Sys2Proof.Machine.execClosePeriod tag mask s
  | .journalRead tag count mode => Sys2Proof.Machine.execJournalRead tag count mode s
  | .journalRelease tag seq => Sys2Proof.Machine.execJournalRelease tag seq s
  | .journalWatermark tag level => Sys2Proof.Machine.execJournalWatermark tag level s
  | .meterRead tag leg drop => Sys2Proof.Machine.execMeterRead tag leg drop s
  | .laserFaultReleased leg => Sys2Proof.Machine.execLaserFaultReleased leg s

end Sys2Proof.Machine
end

