-- ==== Sys2Proof/Machine/Step.lean ====
section
/-! DEFINITION. One step of the part: the command at the front of the queue, or one beat of the clock when none waits. -/

namespace Sys2Proof.Machine

/-- One step: the command at the front of the queue is carried out on the part with the rest of the queue; with no command
waiting, one beat of the clock passes (DESIGN CHOICE, log 4). -/
def step (s : State) : Host.Outcome State Fault Refusal :=
  match s.pending with
  | [] => .next (idleBeat s)
  | c :: cs => exec c { s with pending := cs }

/-- `s` with the command that a word spells put at the front of its queue; unchanged where the word spells none (log 29). -/
def State.withFetchWord (s : State) (nbits w : Nat) : State :=
  match decodeTableWord nbits w with
  | some c => { s with pending := c :: s.pending }
  | none => s

end Sys2Proof.Machine
end

