-- ==== Sys2Proof/Safety.lean ====
section
/-! DEFINITION. The terms in which claims about the part are made: reading a state, what a request that is carried out leaves, and the
invariants that make a state a good one. Nothing of the machine calls these. -/

namespace Sys2Proof.Machine

/-! ### Reading a state -/

/-- The record of leg `l`. -/
def State.leg (s : State) (l : Leg) : LegRecord := s.blocks.legs[l]

/-- The entry of drop `d` on leg `l`. -/
def State.drop (s : State) (l : Leg) (d : Drop) : DropEntry := (s.leg l).drops[d]

/-- The meter of drop `d` on leg `l`. -/
def State.meter (s : State) (l : Leg) (d : Drop) : Option Meter := (s.leg l).meters[d]

/-- The stamp of an event taken now (R1). -/
def State.now (s : State) : Stamp := s.blocks.now

/-- The stamp of an event taken at the boundary that ends the round in progress (R1). -/
def State.boundary (s : State) : Stamp := s.blocks.now.next

/-- The state with leg `l`'s record changed and nothing else. -/
def State.mapLeg (s : State) (l : Leg) (f : LegRecord → LegRecord) : State :=
  { s with blocks := { s.blocks with legs := s.blocks.legs.set l.val (f (s.leg l)) } }

/-- The state with the blocks given and nothing else changed. -/
def State.withBlocks (s : State) (b : Blocks) : State := { s with blocks := b }

/-- The state with some notices placed in the outbound queue and nothing else changed (R197, R198). -/
def State.notify (s : State) (ns : List Notice) : State := { s with port := placeAll s.port ns }

/-- The state with an OK reply at the tail of the outbound queue, then some notices placed, and nothing else changed (R195 to R198). -/
def State.reply (s : State) (kind tag : Byte) (body : ReplyBody) (ns : List Notice := []) : State :=
  { s with
    port := placeAll { s.port with outbound := s.port.outbound ++ [⟨.reply ⟨kind + 0x80, tag, .ok, body⟩, false⟩] } ns }

/-- The same with the status of a refusal. -/
def State.refuse (s : State) (kind tag : Byte) (st : Status) : State :=
  { s with
    port := placeAll { s.port with outbound := s.port.outbound ++ [⟨.reply ⟨kind + 0x80, tag, st, .none⟩, false⟩] } [] }

/-- A request with this tag passes the checks of R195 that come before its owner's, wants a reply, and its reply has a place: the part is
READY, the port is not latched, the tag is not 0, and the outbound queue holds fewer than 32 records. -/
def State.takes (s : State) (tag : Byte) : Bool :=
  s.blocks.time.part == .ready && !s.port.latch && tag != 0 && s.port.outbound.length < 32

/-- A leg that sends headers, and whose laser may be on (R10). -/
def LegState.live : LegState → Bool
  | .preparing | .on | .retiming => true
  | .off | .draining | .fault => false

/-- The payload of a burst cut into the bytes of its segments, four to a beat (R110). -/
def segmentBytes : List Segment → List Byte → List (Segment × List Byte)
  | [], _ => []
  | x :: xs, bytes => (x, bytes.take (4 * x.beats)) :: segmentBytes xs (bytes.drop (4 * x.beats))

/-- The orders of a leg that stay when the HUSHED drops named return to their resume states: of one whose resume state an echo made
SERVING, the WAKEs go (R125, R127). -/
def LegRecord.ordersBehindReturn (r : LegRecord) (named : Drop → Bool) : List OrderEntry :=
  r.orders.filter fun o =>
    !(o.order.kind == .wake &&
      o.target.any fun d => named d && r.drops[d].state == .hushed &&
        r.drops[d].resume.any fun back => back.state == .serving && back.changed)

/-- The lost hold that counts down at a boundary: a LOST entry's own, and the one a HUSHED entry keeps for its resume state LOST (R33, R36). -/
def DropEntry.lostHold (e : DropEntry) : Option Nat :=
  match e.state, e.resume with
  | .lost, _ => e.hold
  | .hushed, some back => if back.state = .lost then back.hold else none
  | _, _ => none

/-- The FIXED beats of some figures; 0 of another class (R79). -/
def LaneFigures.reserved : LaneFigures → Nat
  | .fixed beats => beats
  | _ => 0

/-- A template list can become lanes of drop `d`: the lane table has a free place for each item, and, if one is FIXED, the FIXED beats of
the table and the list, with 16 for each drop that then holds a FIXED lane, keep within what the reach span leaves, for at most 32 such
drops (R83, R87). -/
def LegRecord.HasRoomFor (r : LegRecord) (d : Drop) (templates : List LaneFigures) : Prop :=
  let held := allLanes.filterMap fun n : Fin 256 => r.lanes[n]
  let owners := allDrops.filter fun c => decide (c = d ∨ ∃ x ∈ held, x.owner = c ∧ x.isFixed = true)
  templates.length + held.length ≤ 256 ∧
    ((∃ x ∈ templates, x = .fixed x.reserved) →
      (held.map fun x => x.figures.reserved).sum + (templates.map LaneFigures.reserved).sum + 16 * owners.length +
          (r.control.settings.reach + 80) ≤ 8000 ∧
        owners.length ≤ 32)

/-- A BIND_LANES to drop `d` stands in the order queue, QUEUED, or in the owed-order list (R43, R44, R67). -/
def LegRecord.AsksBindLanes (r : LegRecord) (d : Drop) : Prop :=
  (∃ o ∈ r.orders, o.target = some d ∧ o.order.kind = .bindLanes ∧ o.awaiting = false) ∨ ⟨d, .bindLanes⟩ ∈ r.owed

/-- The LEVEL input over a beat of a receive frame; 0 behind its end (R116). -/
def levelAt : FrameLight → Nat → Nat
  | [], _ => 0
  | r :: rs, b => if b < r.beats then r.level.toNat else levelAt rs (b - r.beats)

/-- The lit beats from `a` to before `b`, counted one by one (R115). -/
def litCount (x : FrameLight) (a b : Nat) : Nat := ((List.range (b - a)).filter fun i => litAt x (a + i)).length

/-- The mean LEVEL from `a` to before `b`, rounded down (R116). -/
def levelMean (x : FrameLight) (a b : Nat) : Nat := ((List.range (b - a)).map fun i => levelAt x (a + i)).sum / (b - a)

/-! ### A drop that leaves a search -/

/-- The leaving of drop `d` ends the search: it is the last candidate of a hunt, or the suspect of a check (R145, R147). -/
def Monitor.endsWithout (m : Monitor) (d : Drop) : Bool :=
  match m.state with
  | .hunting => m.candidates.any fun cs => cs.contains d && cs.all fun c => c == d
  | .verifying => m.suspectDrop == some d
  | _ => false

/-- What the search of leg `l` holds after drop `d` entered LOST or RETIRING in an event at stamp `at'` (R145, R147, R149). -/
structure SearchLeft (s t : State) (l : Leg) (d : Drop) (at' : Stamp) : Prop where
  /-- A hunt goes on without the candidate, and any other monitor as it was; a MUTE of the drop is asked for no more (log 15, the
  model's choice). -/
  goesOn : (s.leg l).monitor.endsWithout d = false →
    (t.leg l).monitor =
      { (s.leg l).monitor with
        candidates :=
          if (s.leg l).monitor.state = .hunting then (s.leg l).monitor.candidates.map fun cs => cs.filter fun c => c != d
          else (s.leg l).monitor.candidates
        asks := (s.leg l).monitor.asks.filter fun a => a != .mute d } ∧
      ∀ c : Drop, c ≠ d → t.drop l c = s.drop l c
  /-- With the last candidate or the suspect gone, the verdict is UNATTRIBUTED, its steps taken with the one in progress (log 54, the
  model's choice), and every other HUSHED entry returns. -/
  ends : ∀ st : ProbeStep, (s.leg l).monitor.endsWithout d = true → (s.leg l).monitor.step = some st →
    (t.leg l).monitor.state = .holdoff ∧ (t.leg l).monitor.step = none ∧ (t.leg l).monitor.candidates = none ∧
      (t.leg l).monitor.suspectDrop = none ∧ (t.leg l).monitor.span = none ∧
      (t.leg l).monitor.holdOffLeft = some ((s.leg l).monitor.settings.holdOff * 4096) ∧
      (t.leg l).monitor.lastVerdict = some ⟨.unattributed, at', st.number⟩ ∧
      (∀ (c : Drop) (back : Resume), c ≠ d → (s.drop l c).state = .hushed → (s.drop l c).resume = some back →
        (t.drop l c).state = back.state) ∧
      ∀ c : Drop, c ≠ d → (s.drop l c).state ≠ .hushed → t.drop l c = s.drop l c

/-! ### A drop that becomes LOST, and a leg that enters FAULT from service -/

/-- Drop `d` became LOST with a reason and `hold` rounds remaining: its lanes are SUSPENDED without credit, and its meter, if it has one, is
marked with an outage (R15, R32). -/
structure EntersLost (s t : State) (l : Leg) (d : Drop) (reason : LostReason) (hold : Nat) : Prop where
  entry : (t.drop l d).state = .lost ∧ (t.drop l d).reason = some (.lost reason) ∧ (t.drop l d).hold = some hold
  lanes : ∀ (n : Fin 256) (x : Lane), (t.leg l).lanes[n] = some x → x.owner = d →
    x.state = .suspended ∧ ∀ c, x.credit = some c → c = 0
  meter : ∀ m, s.meter l d = some m → t.meter l d = some { m with flags := { m.flags with outage := true } }

/-- What R15's table makes of an entry that held FOUND or RANGING, or returned to FOUND, by its origin. -/
structure FoundFaulted (s t : State) (l : Leg) (d : Drop) : Prop where
  new      : (s.drop l d).origin = some .new → t.drop l d = DropEntry.vacant s.now ∧
    ∀ i e, (s.drop l d).enrolRef = some i → s.blocks.enrol[(i : Fin 512)] = some e →
      t.blocks.enrol[i] = some { e with binding := none }
  released : (s.drop l d).origin = some .released → EntersLost s t l d .legFault ((s.leg l).control.settings.lostHold * 4096)
  reused   : ∀ hold why, (s.drop l d).origin = some (.reused hold why) → EntersLost s t l d .legFault hold

/-- What R15 leaves of a leg that entered FAULT from PREPARING, ON or RETIMING, but for its control record: queues and maps are gone, the
monitor is DISARMED with its settings kept, the lane table keeps its lanes, and every entry is what the table says of the state it held, or
of the resume state it returned to. -/
structure LegFaulted (s t : State) (l : Leg) : Prop where
  queues    : (t.leg l).orders = [] ∧ (t.leg l).owed = [] ∧ (t.leg l).fifo = [] ∧ (t.leg l).inFlight = [] ∧
    (t.leg l).keptMap = none ∧ (t.leg l).sending = none
  strangers : (t.leg l).strangers = (s.leg l).strangers
  monitor   :
    (t.leg l).monitor = Monitor.disarmed (s.leg l).monitor.settings (s.leg l).monitor.relearn (s.leg l).monitor.lastVerdict
  heard     : ∀ d : Drop,
    (s.drop l d).state = .trimming ∨ (s.drop l d).state = .awaiting ∨ (s.drop l d).state = .serving ∨
      (s.drop l d).state = .dormant → EntersLost s t l d .legFault ((s.leg l).control.settings.lostHold * 4096)
  found     : ∀ d : Drop, (s.drop l d).state = .found ∨ (s.drop l d).state = .ranging → FoundFaulted s t l d
  rest      : ∀ d : Drop,
    (s.drop l d).state = .vacant ∨ (s.drop l d).state = .lost ∨ (s.drop l d).state = .quarantined ∨
      (s.drop l d).state = .retiring → t.drop l d = s.drop l d
  hushed    : ∀ (d : Drop) (r : Resume), (s.drop l d).state = .hushed → (s.drop l d).resume = some r →
    (r.state = .trimming ∨ r.state = .awaiting ∨ r.state = .serving ∨ r.state = .dormant →
      EntersLost s t l d .legFault ((s.leg l).control.settings.lostHold * 4096)) ∧
    (r.state = .found → FoundFaulted s t l d) ∧
    (r.state = .lost → (t.drop l d).state = .lost ∧ (t.drop l d).reason = r.reason ∧ (t.drop l d).hold = r.hold)
  lanes     : ∀ (n : Fin 256) (x : Lane), (s.leg l).lanes[n] = some x →
    ∃ y, (t.leg l).lanes[n] = some y ∧ y.owner = x.owner ∧ y.port = x.port ∧ y.figures = x.figures

/-! ### Invariants -/

/-- The counters stay in their ranges, and the pulse ring holds at most 4 captures (R1, R3). -/
structure Timebase.Ok (t : Timebase) : Prop where
  beat     : t.beat ≤ 7999
  round    : t.round ≤ 4095
  cycle    : t.cycle ≤ 4294967295
  ring     : t.ring.length ≤ 4
  captures : t.captures ≤ 4294967295

/-- The port's buffers stay within their sizes, its counts within 16 bits, and its lines follow its queue (R193, R194, R196 to R198). -/
structure Port.Ok (p : Port) : Prop where
  inbound  : p.inbound.length ≤ 4
  outbound : p.outbound.length ≤ 32
  notices  : noticeCount p.outbound ≤ 28
  bad      : p.bad ≤ 65535
  overrun  : p.overrun ≤ 65535
  attn     : p.attn = !p.outbound.isEmpty
  alert    : p.alert = p.outbound.any (OutRecord.routed p.mask)

/-- The laser is on in no state but PREPARING, ON and RETIMING, is on in ON and RETIMING, and is off in PREPARING only before its
first round, with all 64 rounds remaining (R10, R11, R158). -/
structure LegControl.LaserOk (c : LegControl) : Prop where
  onlyLive  : c.txen = true → c.state.live = true
  inService : c.state = .on ∨ c.state = .retiming → c.txen = true
  preparing : c.state = .preparing → c.txen = true ∨ c.roundsLeft = 64

/-- The journal's entries carry consecutive sequence numbers that end one below the next, and the watermark is in its range (R186,
R189). -/
structure Journal.Ok (j : Journal) : Prop where
  consecutive : ∀ i, (h : i < j.entries.length) → j.entries[i].seq + j.entries.length = j.nextSeq + i
  first       : j.entries.length < j.nextSeq
  watermark   : 1 ≤ j.watermark ∧ j.watermark ≤ 1024

/-- A meter is HELD only while the journal has no room (R183), and is marked extended while it is HELD (R182). -/
structure Blocks.HeldOk (b : Blocks) : Prop where
  waits    : b.journal.room = true → ∀ (l : Leg) (d : Drop) (m : Meter), b.legs[l].meters[d] = some m → m.pending = none
  extended : ∀ (l : Leg) (d : Drop) (m : Meter), b.legs[l].meters[d] = some m → m.pending ≠ none → m.flags.extended = true

/-- Every leg's laser follows its state. -/
def State.LaserOk (s : State) : Prop := ∀ l : Leg, (s.leg l).control.LaserOk

/-- A map holds at most 64 bursts, at most one for a drop, and its bursts and its tail window fit the 8,000 beats of a round (R89,
R99). -/
structure GrantMap.Ok (m : GrantMap) : Prop where
  count : m.bursts.length ≤ 64
  drops : (m.bursts.map Burst.drop).Nodup
  room  : (m.bursts.map Burst.length).sum + (m.window.map TailWindow.length).getD 0 ≤ 8000

/-- A leg's maps in flight are at most two and each is a good one, and so is the kept copy; the reach span is in its range and the
FIXED limits hold under it (R6, R83, R89, R99, R102). A leg out of service receives no map and its monitor is DISARMED (R12, R15,
R130); a leg in OFF or DRAINING has an empty lane table and only VACANT and RETIRING entries (R12, R13). -/
structure LegRecord.MapsOk (r : LegRecord) : Prop where
  two     : r.inFlight.length ≤ 2
  flying  : ∀ m ∈ r.inFlight, m.map.Ok
  kept    : ∀ m, r.keptMap = some m → m.Ok
  reach   : 625 ≤ r.control.settings.reach ∧ r.control.settings.reach ≤ 6250
  limits  : fixedLimitsHold r.lanes r.control.settings.reach = true
  resting : r.control.state.live = false → r.inFlight = [] ∧ r.monitor.state = .disarmed
  drained : r.control.state = .off ∨ r.control.state = .draining →
    (∀ n : Fin 256, r.lanes[n] = none) ∧ ∀ d : Drop, r.drops[d].state = .vacant ∨ r.drops[d].state = .retiring

/-- Every leg's maps and lane table are good ones. -/
def State.MapsOk (s : State) : Prop := ∀ l : Leg, (s.leg l).MapsOk

/-- A leg's order queue holds at most 48 entries, at most 40 of them NORMAL and LOW (R43). An entry is URGENT as its kind is (R40; a
retry is LOW, R52), only an echoed kind awaits an echo, at most one entry to a drop does, and it is the oldest echoed entry to the drop
(R46 case 1). -/
structure LegRecord.OrdersOk (r : LegRecord) : Prop where
  all    : r.orders.length ≤ 48
  plain  : plainCount r.orders ≤ 40
  urgent : ∀ e ∈ r.orders, e.priority = .urgent ↔ e.order.kind.priority = .urgent
  echoed : ∀ e ∈ r.orders, e.awaiting = true → e.order.kind.echoed = true
  single : ∀ d : Drop, (r.orders.filter fun e => e.awaiting && e.target == some d).length ≤ 1
  oldest : ∀ (i j : Nat) (e x : OrderEntry), r.orders[i]? = some e → r.orders[j]? = some x → x.awaiting = true → i < j →
    e.order.kind.echoed = true → e.target ≠ x.target

/-- Every leg's order queue is a good one. -/
def State.OrdersOk (s : State) : Prop := ∀ l : Leg, (s.leg l).OrdersOk

/-- An ASSURED lane has a credit, at most twice its rate; a lane of another class has none (R79, R81). -/
def Lane.CreditOk (x : Lane) : Prop :=
  match x.figures with
  | .assured rate _ => ∃ c, x.credit = some c ∧ c ≤ 2 * rate
  | _ => x.credit = none

/-- Every lane's credit is a good one. -/
def State.CreditOk (s : State) : Prop := ∀ (l : Leg) (n : Fin 256) (x : Lane), (s.leg l).lanes[n] = some x → x.CreditOk

/-- The binding of enrolment entries and drop entries agrees on its two sides: an enrolment entry bound to a drop is the one the drop's
entry names, with the drop's serial, and an entry is VACANT exactly when it names none (R24). A resume state is one that a
HUSH_SET masks (2.2, R144), and what a search holds is none of VACANT, QUARANTINED and RETIRING (R145, R147). -/
structure State.BindingsOk (s : State) : Prop where
  listed     : ∀ (i : Fin 512) (e : EnrolEntry) (l : Leg) (d : Drop), s.blocks.enrol[i] = some e → e.binding = some (l, d) →
    (s.drop l d).enrolRef = some i ∧ (s.drop l d).serial = some e.serial
  bound      : ∀ (l : Leg) (d : Drop) (i : Fin 512), (s.drop l d).enrolRef = some i →
    ∃ e, s.blocks.enrol[i] = some e ∧ e.binding = some (l, d)
  vacant     : ∀ (l : Leg) (d : Drop), (s.drop l d).state = .vacant ↔ (s.drop l d).enrolRef = none
  resumes    : ∀ (l : Leg) (d : Drop) (r : Resume), (s.drop l d).resume = some r → r.state.hushable = true
  candidates : ∀ (l : Leg) (cs : List Drop), (s.leg l).monitor.state = .hunting → (s.leg l).monitor.candidates = some cs →
    ∀ d ∈ cs, (s.drop l d).state.candidate = true
  suspect    : ∀ (l : Leg) (d : Drop), (s.leg l).monitor.state = .verifying → (s.leg l).monitor.suspectDrop = some d →
    (s.drop l d).state.candidate = true

end Sys2Proof.Machine
end

