-- ==== Sys2Proof/WellFormed.lean ====
section
/-! DEFINITION. Which commands are well formed: what a receiver, the uplink or a record could really give. The meanings do not depend on
it; the encoder's statements do. -/

namespace Sys2Proof

/-- Light that fits in a receive frame of 8,000 beats (R103). -/
def lightFits (x : FrameLight) : Bool := (x.map LightRun.beats).sum ≤ 8000

/-- A burst whose delimiter lies in the receive frame and whose preamble is 6 beats (R105). -/
def burstFits (b : FoundBurst) : Bool := b.delimiter < 64000 && b.preamble.length == 6

/-- A window's light: a delimiter found is light (R104). -/
def windowFits (x : WindowLight) : Bool :=
  match x.found with
  | some b => x.lit && burstFits b
  | none => true

/-- An announce whose delimiter lies in the receive frame (R113). -/
def announceFits (a : FoundAnnounce) : Bool := a.delimiter < 64000

/-- A report of a round the counters can hold, with tails of 1 to 64 beats and samples of one byte (R1, R115, R116). -/
def reportFits (r : RoundReport) : Bool :=
  r.round.round < 4096 && r.round.cycle < 4294967296 && (r.tails.all fun t => 1 ≤ t.2 && t.2 ≤ 64) &&
    (r.samples.all fun x => x.2 < 256)

/-- An ENROL_ADD body that fits in a record of 1,020 body bytes (11.2, 11.8). -/
def enrolFits (e : WireEnrol) : Bool := e.templates.length ≤ 199

/-- A request that a record can carry (11.2, 11.8). -/
def Request.wellFormed : Request → Bool
  | .enrolAdd e => enrolFits e
  | _ => true

/-- A well-formed command. -/
def Instr.wellFormed (i : Instr) : Bool :=
  match i with
  | .grantedWindowEnd _ x => windowFits x
  | .discoveryWindowEnd _ x as => lightFits x && as.all announceFits
  | .rangingWindowEnd _ bs => bs.all burstFits
  | .receiveRoundEnd _ x => lightFits x
  | .spanEnd _ r => reportFits r
  | .stepReading _ r => reportFits r
  | .badOpcodeTransaction o => o != 0xC1 && o != 0xC2
  | .enrolAdd _ e => enrolFits e
  | .pinReset | .lockReached | .lossOfLock | .pulseCapture | .laserFaultAsserted _ | .roundBoundary
  | .announcementBlockBoundary | .cycleBoundary | .preparingEnd _ | .retimingEnd _ | .faultRecovery _
  | .lostHoldExpiry _ _ | .discoveryDue _ | .wakeCheckDue _ _ | .echoWaitResendDue _ _ | .orderFailed _ _ | .orderRetry _
  | .suspectTimeout _ | .holdoffExpiry _ | .missedCountLimit _ _ | .outOfBandRunLimit _ _ _ | .downstreamFrameArrival _ _
  | .writeTransactionEnd _ | .readOpcode | .readTransactionEnd _ | .takeRequest | .heldCloseWrite | .retiringVacated _ _
  | .legDrained _ | .laserFaultReleased _ | .identify _ | .status _ | .portSet _ _ _ | .clearLatch _ | .restart _
  | .pulseRead _ | .legOn _ _ _ | .legOff _ _ | .legSet _ _ _ | .legStatus _ _ | .setReach _ _ _ | .announceSet _ _ _
  | .enrolRemove _ _ | .enrolRead _ _ | .strangerRead _ _ _ | .admitDrop _ _ _ | .dismiss _ _ _ | .dropRead _ _ _
  | .laneAdd _ _ _ _ _ _ _ | .laneChange _ _ _ _ _ _ _ | .laneRemove _ _ _ | .laneRead _ _ _ | .mapRead _ _
  | .windowStats _ _ | .sleep _ _ _ _ | .wake _ _ _ | .rogueSet _ _ _ | .rogueArm _ _ | .rogueDisarm _ _ | .rogueRead _ _
  | .release _ _ _ | .bandSet _ _ _ _ _ | .bandQuotaSet _ _ | .bandRead _ | .quotaSet _ _ _ | .periodSet _ _
  | .closePeriod _ _ | .journalRead _ _ _ | .journalRelease _ _ | .journalWatermark _ _ | .meterRead _ _ _ => true

end Sys2Proof
end

