-- ==== Sys2Proof/Certificates/Slice0/Obligations.lean ====
section
/-! DEFINITION. The statements for the provers. Each says what a command, an operation or every step does, in the terms of Safety.lean
and of the rules its docstring names; a clause that rests on a choice of the model names the log entry. -/

open Sys2Proof Sys2Proof.Machine

/-! ### The machine -/

/-- A step with a command at the front of the queue is that command on the part with the rest of the queue. With no command
waiting, a step is one beat (log 4, the model's choice): nothing while LOCKING, the beat counter one higher below 7,999, and the
round boundary behind beat 7,999. -/
def Obligations.StepRunsFrontCommand : Prop :=
  (∀ (c : Instr) (cs : List Instr) (s : State), step { s with pending := c :: cs } = exec c { s with pending := cs }) ∧
  (∀ s : State, s.pending = [] →
    (s.blocks.time.part = .locking → step s = .next s) ∧
    (s.blocks.time.part = .ready → s.blocks.time.beat < 7999 →
      step s = .next (s.withBlocks { s.blocks with time := { s.blocks.time with beat := s.blocks.time.beat + 1 } })) ∧
    (s.blocks.time.part = .ready → 7999 ≤ s.blocks.time.beat → step s = exec .roundBoundary s))

/-- No command ends in a fault or a refusal, and none changes the queue of waiting commands. -/
def Obligations.EveryCommandCompletes : Prop :=
  ∀ (c : Instr) (s : State), ∃ t, exec c s = .next t ∧ t.pending = s.pending

/-! ### Records (R193, R195, R208, 11.8, 11.10) -/

/-- Reading the body written for a well-formed request gives the request back, for each of the 42 kinds. A kind and a body are
read as at most one request, and it is the one whose kind and body they are. -/
def Obligations.RequestBodiesRoundTrip : Prop :=
  (∀ q : Request, q.wellFormed = true → parseRequest (kindOf q) (bodyOf q) = .request q) ∧
  (∀ (kind : Byte) (body : List Byte) (q : Request), parseRequest kind body = .request q → kindOf q = kind ∧ bodyOf q = body)

/-- Taking a well-formed request from the head of the inbound buffer, when its reply has a place and its latched mark is the
port's present latch, is that request's own command on the port without the record. A record that holds no such request leaves the
buffer too: one whose KIND is no request kind is answered UNKNOWN_KIND with KIND 0xDF and the kind it had, one whose body has not
the length of its kind LENGTH, ENROL_ADD's being 23 bytes and 5 for each template its count names, and one with the latched mark
that is neither STATUS nor CLEAR_LATCH LATCHED; with tag 0 there is no reply, and nothing else changes. On a latched port a record
without the mark is executed as usual, but for RESTART, which is answered LATCHED, and STATUS and CLEAR_LATCH are executed
whatever the mark (R199, R200, R203; log 35, the model's choice for PORT_SET and RESTART). Without a place for its reply a record
waits, and an empty buffer gives nothing to take (R195). -/
def Obligations.TakeRequestRunsTheCommand : Prop :=
  (∀ (c : Instr) (q : Request) (tag : Byte) (rest : List InRecord) (s : State),
    c.request? = some (tag, q) → q.wellFormed = true → hasPlace s.port tag = true →
    s.port.inbound = ⟨kindOf q, tag, bodyOf q, s.port.latch⟩ :: rest →
    ∃ t, exec .takeRequest s = .next t ∧ exec c { s with port := { s.port with inbound := rest } } = .next t) ∧
  (∀ (kind tag : Byte) (body : List Byte) (mark : Bool) (rest : List InRecord) (s : State),
    s.port.inbound = ⟨kind, tag, body, mark⟩ :: rest →
    let left : State := { s with port := { s.port with inbound := rest } }
    (tag ≠ 0 → s.port.outbound.length < 32 →
      ((∀ q : Request, kindOf q ≠ kind) →
        exec .takeRequest s =
          .next { left with
            port := placeAll { left.port with
              outbound := left.port.outbound ++ [⟨.reply ⟨0xDF, tag, .unknownKind, .unknownKind kind⟩, false⟩] } [] }) ∧
      ((∃ q : Request, kindOf q = kind) → (∀ q : Request, kindOf q = kind → (bodyOf q).length ≠ body.length) →
        exec .takeRequest s = .next (left.refuse kind tag .length)) ∧
      (kind = 0x18 → (∀ n : Byte, body[22]? = some n → body.length ≠ 23 + 5 * n.toNat) →
        exec .takeRequest s = .next (left.refuse kind tag .length)) ∧
      (∀ q : Request, q.wellFormed = true → kindOf q = kind → bodyOf q = body → mark = true → q ≠ .status → q ≠ .clearLatch →
        exec .takeRequest s = .next (left.refuse kind tag .latched))) ∧
    (tag = 0 →
      (∀ q : Request, kindOf q ≠ kind) ∨
        (∃ q : Request, kindOf q = kind) ∧ (∀ q : Request, kindOf q = kind → (bodyOf q).length ≠ body.length) ∨
        kind = 0x18 ∧ (∀ n : Byte, body[22]? = some n → body.length ≠ 23 + 5 * n.toNat) ∨
        (∃ q : Request, q.wellFormed = true ∧ kindOf q = kind ∧ bodyOf q = body ∧ mark = true ∧ q ≠ .status ∧ q ≠ .clearLatch) ∨
        kind = 0x05 ∧ body = [] ∧ s.port.latch = true →
      exec .takeRequest s = .next (left.notify [])) ∧
    (tag ≠ 0 → s.port.outbound.length < 32 → kind = 0x05 → body = [] → s.port.latch = true →
      exec .takeRequest s = .next (left.refuse 0x05 tag .latched)) ∧
    (∀ (c : Instr) (q : Request), c.request? = some (tag, q) → q.wellFormed = true → kindOf q = kind → bodyOf q = body →
      hasPlace s.port tag = true →
      (q = .status ∨ q = .clearLatch → ∃ t, exec .takeRequest s = .next t ∧ exec c left = .next t) ∧
      (mark = false → s.port.latch = true → q ≠ .restart → q ≠ .status → q ≠ .clearLatch →
        ∃ t, exec c { left with port := { left.port with latch := false } } = .next t ∧
          exec .takeRequest s = .next { t with port := { t.port with latch := true } })) ∧
    (tag ≠ 0 → 32 ≤ s.port.outbound.length → exec .takeRequest s = .next s)) ∧
  (∀ s : State, s.port.inbound = [] → exec .takeRequest s = .next s)

/-- On a READY part that is not latched a request has, under every tag, the effect its owning block gives it. Under tag 0 it is
taken whatever the outbound queue holds and no reply is queued; under any other tag with a place for its reply, the same blocks
and the same port are left with the reply at the tail, and then the notices are placed (R195). That STATUS, WINDOW_STATS,
STRANGER_READ and CLEAR_LATCH clear under tag 0 what they clear under any other is the model's choice (log 32). -/
def Obligations.TagChangesOnlyTheReply : Prop :=
  ∀ (q : Request) (s : State), s.blocks.time.part = .ready → s.port.latch = false →
    ∃ (b : Blocks) (p : Port) (st : Status) (body : ReplyBody) (ns : List Notice),
      (∀ c' : Instr, c'.request? = some (0, q) → exec c' s = .next { s with blocks := b, port := placeAll p ns }) ∧
      (∀ (c' : Instr) (tag' : Byte), c'.request? = some (tag', q) → tag' ≠ 0 → s.port.outbound.length < 32 →
        exec c' s =
          .next { s with
            blocks := b
            port :=
              placeAll { p with outbound := p.outbound ++ [⟨.reply ⟨kindOf q + 0x80, tag', st, body⟩, false⟩] } ns })

/-! ### Invariants -/

/-- The part after a pin reset meets every invariant below. -/
def Obligations.ResetMeetsTheInvariants : Prop :=
  State.reset.blocks.time.Ok ∧ State.reset.port.Ok ∧ State.reset.LaserOk ∧ State.reset.blocks.journal.Ok ∧ State.reset.blocks.HeldOk ∧
  State.reset.MapsOk ∧ State.reset.OrdersOk ∧ State.reset.CreditOk ∧ State.reset.BindingsOk

/-- Every step keeps the counters in their ranges and the pulse ring within 4 captures (R1, R3). -/
def Obligations.StepKeepsCountersInRange : Prop :=
  ∀ s t : State, s.blocks.time.Ok → step s = .next t → t.blocks.time.Ok

/-- Every step keeps the port's buffers and counts within their sizes and its lines in accord with its queue (R193, R194, R196 to
R198). -/
def Obligations.StepKeepsPortInBounds : Prop :=
  ∀ s t : State, s.port.Ok → step s = .next t → t.port.Ok

/-- Every step keeps every leg's laser in accord with its state (R10, R11, R158). -/
def Obligations.StepKeepsLaserWithLegState : Prop :=
  ∀ s t : State, s.LaserOk → step s = .next t → t.LaserOk

/-- Every step keeps the journal's sequence numbers consecutive and its watermark in range (R186, R189), and keeps it so that a
meter is HELD only while the journal has no room, with its extended flag set (R182, R183). -/
def Obligations.StepKeepsJournalConsecutive : Prop :=
  (∀ s t : State, s.blocks.journal.Ok → step s = .next t → t.blocks.journal.Ok) ∧
  (∀ s t : State, s.blocks.HeldOk → step s = .next t → t.blocks.HeldOk)

/-- Every step keeps every leg's maps good ones: at most two in flight, each with at most 64 bursts, at most one burst for a drop,
and bursts and tail window within 8,000 beats (R89, R99); the FIXED limits hold under the reach span (R83), and a leg that is out
of service or empty is so (R12, R13, R15). -/
def Obligations.StepKeepsMapsInBounds : Prop :=
  ∀ s t : State, s.MapsOk → step s = .next t → t.MapsOk

/-- Every step keeps every order queue within 48 entries, at most 40 of them NORMAL and LOW (R43), and at most one echoed order to a drop
awaiting its echo (R46 case 1), which is the oldest echoed order of the drop in the queue: that an echoed order does not overtake an older
one of its drop, be that QUEUED, is the model's choice (log 40, from the last sentence of R46 case 1). -/
def Obligations.StepKeepsOrderQueueInBounds : Prop :=
  ∀ s t : State, s.OrdersOk → step s = .next t → t.OrdersOk

/-- Every step keeps the credit of every ASSURED lane at most twice its rate, and every other lane without credit (R79, R81). -/
def Obligations.StepKeepsCreditInBounds : Prop :=
  ∀ s t : State, s.CreditOk → step s = .next t → t.CreditOk

/-- Every step keeps the bindings two-sided: an enrolment entry is bound to a drop exactly when that drop's entry names it, and an
entry is VACANT exactly when it names none (R24). -/
def Obligations.StepKeepsBindingsTwoSided : Prop :=
  ∀ s t : State, s.BindingsOk → step s = .next t → t.BindingsOk

/-! ### Pins, lock and clock -/

/-- After a pin reset the part is LOCKING with counters, ring and capture count 0, every leg OFF with its laser off and the
settings of R6, an empty drop table, lane table, order queue, stranger list and FIFO, and a DISARMED monitor with the settings of
R131. A pin reset puts every block at its pin-reset state, but for the levels of the LASER_FAULT inputs, which are the pins' (R2,
R17; the levels: log 16, the model's choice). -/
def Obligations.ResetAndPinResetLeaveTheGivenValues : Prop :=
  (State.reset.blocks.time.part = .locking ∧ State.reset.now = ⟨0, 0⟩ ∧ State.reset.blocks.time.beat = 0 ∧
  State.reset.blocks.time.ring = [] ∧ State.reset.blocks.time.captures = 0 ∧
  State.reset.blocks.journal.nextSeq = 1 ∧ State.reset.blocks.journal.watermark = 768 ∧ State.reset.blocks.journal.armed = true ∧
  State.reset.port.latch = false ∧ State.reset.port.persistent = false ∧ State.reset.port.outbound = [] ∧
  ∀ l : Leg,
    (State.reset.leg l).control.state = .off ∧ (State.reset.leg l).control.txen = false ∧
    (State.reset.leg l).control.settings =
      { reach := 6250, discovery := 256, trimLow := 96, trimHigh := 160, upThrottle := 125, downThrottle := 2000, lostHold := 1 } ∧
    (∀ d : Drop, State.reset.drop l d = DropEntry.vacant ⟨0, 0⟩ ∧ State.reset.meter l d = none) ∧
    (∀ n : Fin 256, (State.reset.leg l).lanes[n] = none) ∧
    (State.reset.leg l).orders = [] ∧ (State.reset.leg l).strangers = [] ∧ (State.reset.leg l).fifo = [] ∧
    (State.reset.leg l).block = composeBlock l 0 0 (Vector.replicate 40 0) ∧
    (State.reset.leg l).monitor.state = .disarmed ∧
    (State.reset.leg l).monitor.settings =
      { thresholds := ⟨4, 4, 2, 4⟩, combination := .any, referenceMode := .fixed, watchSpan := 32, strayBeatMin := 4,
        tailLimit := 2, glowMargin := 12, confirmGap := 256, confirmWindow := 4096, probeSpan := 16, holdOff := 4 }) ∧
  (∀ s : State, ∃ t, exec .pinReset s = .next t ∧ t.port = Port.reset ∧
    { t.blocks with legs := Blocks.reset.legs } = Blocks.reset ∧
    ∀ l : Leg, t.leg l =
      { LegRecord.reset l with
        control :=
          { (LegRecord.reset l).control with
            laserFault := (s.leg l).control.laserFault, faultSeen := (s.leg l).control.laserFault } })

/-- Reaching lock makes a LOCKING part READY, its counters resuming from the values they hold, with a READY notice that tells a first lock
(R2, R204). At the first lock, from which round 0 runs, each leg's LASER_FAULT input is watched afresh; at a later one the interrupted round
runs on with what was seen of it since that round began (R2, R16; that an assertion while lock was lost counts as one in the interrupted
round: log 55, the model's choice). A rising edge on PULSE while READY appends a capture to the ring, which keeps the last 4, adds one to
the 32-bit capture count, and raises a PULSE notice; while LOCKING it changes nothing but the judging of the lines. A pin reset and an
accepted RESTART leave the ring empty and the count 0 (R3). -/
def Obligations.LockAndPulseEdgesAreTaken : Prop :=
  (∀ s : State, s.blocks.time.part = .locking →
    exec .lockReached s =
      .next
        ((s.withBlocks
          { s.blocks with
            time := { s.blocks.time with part := .ready, everLocked := true }
            legs :=
              if s.blocks.time.everLocked then s.blocks.legs
              else s.blocks.legs.map fun r => { r with control := { r.control with faultSeen := r.control.laserFault } } }).notify
          [⟨none, none, s.now, .ready (!s.blocks.time.everLocked)⟩])) ∧
  (∀ s : State,
    (s.blocks.time.part = .ready → ∃ ring,
      exec .pulseCapture s =
        .next
          ((s.withBlocks
            { s.blocks with
              time := { s.blocks.time with ring := ring, captures := (s.blocks.time.captures + 1) % 4294967296 } }).notify
            [⟨none, none, s.now, .pulse ⟨s.now, s.blocks.time.beat⟩⟩]) ∧
      (s.blocks.time.ring.length < 4 → ring = s.blocks.time.ring ++ [⟨s.now, s.blocks.time.beat⟩]) ∧
      (s.blocks.time.ring.length = 4 → ring = s.blocks.time.ring.tail ++ [⟨s.now, s.blocks.time.beat⟩])) ∧
    (s.blocks.time.part = .locking → exec .pulseCapture s = .next (s.notify [])) ∧
    (∃ t, exec .pinReset s = .next t ∧ t.blocks.time.ring = [] ∧ t.blocks.time.captures = 0) ∧
    (∀ tag : Byte, s.takes tag = true → s.blocks.restartRoom = true →
      ∃ t, exec (.restart tag) s = .next t ∧ t.blocks.time.ring = [] ∧ t.blocks.time.captures = 0))

/-- A round boundary while READY returns the beat counter to 0 and moves the round counter one on, wrapping 4,095 to 0 with the
cycle counter one higher; the ring, the capture count, the band flags and the period length stay. An announcement-block boundary
and a cycle boundary are such boundaries (R1; log 3). At an announcement-block boundary the latest due entry of the band schedule
sets the band in force, due entries leave, and every leg's block is composed anew with that band and the cycle number; at any
other boundary block, band and schedule stay (R159, R161, R173). Every OPEN meter is closed with cause PERIOD at a cycle boundary
whose number is a non-zero multiple of the period length, and with cause HOST at the boundary behind a CLOSE_PERIOD that names its
leg, each once, in ascending leg and drop, PERIOD before HOST; a HELD meter is passed over, and the request is served (R179 to
R182; stated of a meter that nothing else at the boundary touches: no frame of its drop waits, no awaited order of its drop fails,
and no lost hold of its drop runs out). -/
def Obligations.BoundariesAdvanceCountersAndBlocks : Prop :=
  (∀ s : State, s.blocks.time.part = .ready → s.blocks.time.Ok → ∃ t, exec .roundBoundary s = .next t ∧
    t.blocks.time.beat = 0 ∧
    t.blocks.time.round = (s.blocks.time.round + 1) % 4096 ∧
    t.blocks.time.cycle = (if s.blocks.time.round = 4095 then (s.blocks.time.cycle + 1) % 4294967296 else s.blocks.time.cycle) ∧
    t.blocks.time.part = .ready ∧ t.blocks.time.ring = s.blocks.time.ring ∧ t.blocks.time.captures = s.blocks.time.captures ∧
    t.blocks.quotaBands = s.blocks.quotaBands ∧ t.blocks.period = s.blocks.period ∧
    (s.blocks.time.round % 64 = 63 → exec .announcementBlockBoundary s = .next t) ∧
    (s.blocks.time.round = 4095 → exec .cycleBoundary s = .next t)) ∧
  (∀ s : State, s.blocks.time.part = .ready → s.blocks.time.Ok →
    (s.blocks.time.round % 64 = 63 → ∃ t, exec .announcementBlockBoundary s = .next t ∧
      (∀ e, ((s.blocks.bandPlan.filter fun e => e.boundary.le s.boundary).getLast? = some e → t.blocks.band = e.band)) ∧
      ((s.blocks.bandPlan.filter fun e => e.boundary.le s.boundary) = [] → t.blocks.band = s.blocks.band) ∧
      t.blocks.bandPlan = (s.blocks.bandPlan.filter fun e => !(e.boundary.le s.boundary)) ∧
      ∀ l : Leg, (t.leg l).block = composeBlock l t.blocks.band s.boundary.cycle (s.leg l).hostBytes) ∧
    (s.blocks.time.round % 64 ≠ 63 → ∃ t, exec .roundBoundary s = .next t ∧
      t.blocks.band = s.blocks.band ∧ t.blocks.bandPlan = s.blocks.bandPlan ∧ ∀ l : Leg, (t.leg l).block = (s.leg l).block)) ∧
  (∀ (l : Leg) (d : Drop) (m : Meter) (s : State), s.blocks.time.part = .ready → s.blocks.time.Ok → s.meter l d = some m →
    (∀ f ∈ (s.leg l).fifo, f.drop ≠ d) → (∀ e ∈ (s.leg l).orders, e.target = some d → e.awaiting = false) →
    (∀ n, (s.drop l d).hold = some n → 2 ≤ n) →
    (∀ back n, (s.drop l d).resume = some back → back.hold = some n → 2 ≤ n) →
    ∃ (t : State) (new : List JournalEntry), exec .roundBoundary s = .next t ∧ (∀ k : Leg, t.blocks.hostClose[k] = false) ∧
      t.blocks.journal.entries = s.blocks.journal.entries ++ new ∧
      ((new.filter fun e => !e.cause.ending).Pairwise fun a b => a.leg < b.leg ∨ a.leg = b.leg ∧ a.drop < b.drop) ∧
      let due := s.boundary.round = 0 ∧ s.blocks.period ≠ 0 ∧ s.boundary.cycle ≠ 0 ∧ s.blocks.period ∣ s.boundary.cycle
      (¬due → s.blocks.hostClose[l] = false →
        t.meter l d = some m ∧ (new.filter fun e => e.leg == l && e.drop == d) = []) ∧
      (∀ cause : CloseCause, due ∧ cause = .period ∨ ¬due ∧ s.blocks.hostClose[l] = true ∧ cause = .host →
        (m.pending ≠ none → t.meter l d = some m) ∧
        (m.pending = none → m.usage = false → m.flags = MeterFlags.clear →
          t.meter l d = some { m with start := s.boundary }) ∧
        (m.pending = none → m.usage = true ∨ m.flags ≠ MeterFlags.clear →
          (s.blocks.journal.entries.length + 512 ≤ 1024 → s.blocks.journal.nextSeq + 512 ≤ 4294967296 →
            (∃ seq, (new.filter fun e => e.leg == l && e.drop == d) =
              [{ seq := seq, account := m.account, leg := l, drop := d, start := m.start, stop := s.boundary, up := m.up
                 down := m.down, shed := m.shed, cause := cause, flags := m.flags }]) ∧
            ∃ m', t.meter l d = some m' ∧ m'.usage = false ∧ m'.start = s.boundary ∧ m'.pending = none ∧
              m'.account = m.account ∧ m'.quotaUsed = 0 ∧ m'.overQuota = false) ∧
          (s.blocks.journal.room = false →
            t.meter l d = some { m with pending := some (cause, s.boundary), flags := { m.flags with extended := true } }))))

/-! ### Legs -/

/-- At the boundary behind its last round PREPARING gives way to ON; a leg in FAULT whose LASER_FAULT input was inactive
throughout the round enters PREPARING with 64 rounds; each changes the leg's control record alone and raises a LEG_STATE notice
(R8, R10, R16; log 2). At the boundary behind its last round RETIMING gives way to ON: beside the control record only the monitor
changes, which owes no learning span any more and, in WATCHING or SUSPECT, begins a span with the next round, a learning span if
one was owed or it has no reference (R11, R133, R135). A leg in DRAINING all of whose entries are VACANT enters OFF, with a
LEG_STATE notice and no other change (R13). The LASER_FAULT input's release changes the input's level and no leg state (R16). A
round boundary itself counts one round off in PREPARING, whose first turns the laser on, and in RETIMING, ends either where none
is left, with its LEG_STATE notice, the span that begins and the owed learning of a RETIMING leg as above, makes a leg in FAULT
whose input was inactive throughout the round PREPARING with its first round begun, and leaves a leg in ON and one in FAULT with a
fault seen as they stand, the input watched afresh (R10, R11, R16; that RETIMING shows 3 in its first round: log 36, the model's
choice). -/
def Obligations.LegStateCommandsChangeTheLeg : Prop :=
  (∀ (l : Leg) (s : State), s.blocks.time.part = .ready →
    ((s.leg l).control.state = .preparing → (s.leg l).control.roundsLeft = 0 →
      exec (.preparingEnd l) s =
        .next
          ((s.mapLeg l fun r => { r with control := { r.control with state := .on, cause := none, roundsLeft := 0 } }).notify
            [⟨some l, none, s.boundary, .legState .on none⟩])) ∧
    ((s.leg l).control.state = .fault → (s.leg l).control.faultSeen = false → (s.leg l).control.laserFault = false →
      exec (.faultRecovery l) s =
        .next
          ((s.mapLeg l fun r =>
            { r with control := { r.control with state := .preparing, cause := none, roundsLeft := 64 } }).notify
            [⟨some l, none, s.boundary, .legState .preparing none⟩]))) ∧
  (∀ (l : Leg) (s : State), s.blocks.time.part = .ready →
    (s.leg l).control.state = .retiming → (s.leg l).control.roundsLeft = 0 →
    ∃ span, exec (.retimingEnd l) s =
        .next
          ((s.mapLeg l fun r =>
            { r with
              control := { r.control with state := .on, cause := none, roundsLeft := 0 }
              monitor := { r.monitor with span := span, owedLearning := false } }).notify
            [⟨some l, none, s.boundary, .legState .on none⟩]) ∧
      ((s.leg l).monitor.state = .watching ∨ (s.leg l).monitor.state = .suspect →
        span = some
          { position := 0, learning := (s.leg l).monitor.owedLearning || (s.leg l).monitor.reference.isNone
            counts := ⟨0, 0, 0, 0⟩, sampleSum := 0, sampleCount := 0, tailDrop := none, mixed := false
            countFrom := s.boundary.next }) ∧
      (¬((s.leg l).monitor.state = .watching ∨ (s.leg l).monitor.state = .suspect) → span = (s.leg l).monitor.span)) ∧
  (∀ (l : Leg) (s : State), (s.leg l).control.state = .draining → (∀ d : Drop, (s.drop l d).state = .vacant) →
    exec (.legDrained l) s =
      .next
        ((s.mapLeg l fun r => { r with control := { r.control with state := .off, cause := none, roundsLeft := 0 } }).notify
          [⟨some l, none, s.now, .legState .off none⟩])) ∧
  (∀ (l : Leg) (s : State),
    exec (.laserFaultReleased l) s =
      .next ((s.mapLeg l fun r => { r with control := { r.control with laserFault := false } }).notify [])) ∧
  (∀ (l : Leg) (s : State), s.blocks.time.part = .ready → s.blocks.time.Ok →
    let c := (s.leg l).control
    ∃ (t : State) (ns : List Notice), exec .roundBoundary s = .next t ∧ t.port = placeAll s.port ns ∧
      (c.state = .preparing → c.roundsLeft ≠ 0 →
        (t.leg l).control = { c with roundsLeft := c.roundsLeft - 1, txen := true, faultSeen := c.laserFault }) ∧
      (c.state = .preparing → c.roundsLeft = 0 →
        (t.leg l).control = { c with state := .on, cause := none, faultSeen := c.laserFault } ∧
        ⟨some l, none, s.boundary, .legState .on none⟩ ∈ ns) ∧
      (c.state = .retiming → c.roundsLeft ≠ 0 →
        (t.leg l).control = { c with roundsLeft := c.roundsLeft - 1, faultSeen := c.laserFault }) ∧
      (c.state = .retiming → c.roundsLeft = 0 →
        (t.leg l).control = { c with state := .on, cause := none, faultSeen := c.laserFault } ∧
        ⟨some l, none, s.boundary, .legState .on none⟩ ∈ ns ∧ (t.leg l).monitor.owedLearning = false ∧
        ((s.leg l).monitor.state = .watching ∨ (s.leg l).monitor.state = .suspect →
          (t.leg l).monitor.span = some
            { position := 0, learning := (s.leg l).monitor.owedLearning || (s.leg l).monitor.reference.isNone
              counts := ⟨0, 0, 0, 0⟩, sampleSum := 0, sampleCount := 0, tailDrop := none, mixed := false
              countFrom := s.boundary.next })) ∧
      (c.state = .fault → c.faultSeen = false → c.laserFault = false →
        (t.leg l).control = { c with state := .preparing, cause := none, roundsLeft := 63, txen := true } ∧
        ⟨some l, none, s.boundary, .legState .preparing none⟩ ∈ ns) ∧
      (c.state = .fault → c.faultSeen = true ∨ c.laserFault = true →
        (t.leg l).control = { c with faultSeen := c.laserFault }) ∧
      (c.state = .on → (t.leg l).control = { c with faultSeen := c.laserFault }))

/-- LASER_FAULT asserted in PREPARING, ON or RETIMING: the leg enters FAULT with cause LASER, its laser goes off, its queues and
maps are discarded, its monitor is DISARMED with its settings kept and asks for no order any more, a MUTE included (log 42, the
model's choice); every entry becomes what R15's table says of the state it held, or of the resume state it returned to: LOST with
its lanes SUSPENDED without credit and its meter marked with an outage, VACANT with its binding given up for a NEW one, or
unchanged; lane table, settings, stranger list, the clock and every other leg stay (R14, R15). In DRAINING it only enters FAULT,
and in OFF and FAULT the input alone changes (R14, R16). Loss of lock in READY freezes the counters; every leg in service enters
FAULT with cause CLOCK, and the same becomes of its queues, its monitor and its entries; a leg in DRAINING only enters FAULT, and
a leg in OFF or FAULT stays as it is (R2, R14, R15). -/
def Obligations.FaultsTakeLegsOutOfService : Prop :=
  (∀ (l : Leg) (s : State), (s.leg l).control.state.live = true → ∃ t, exec (.laserFaultAsserted l) s = .next t ∧
    t.blocks.time = s.blocks.time ∧
    (t.leg l).control =
      { (s.leg l).control with
        state := .fault, cause := some .laser, roundsLeft := 0, txen := false, laserFault := true, faultSeen := true } ∧
    LegFaulted s t l ∧ ∀ k : Leg, k ≠ l → t.leg k = s.leg k) ∧
  (∀ (l : Leg) (s : State),
    ((s.leg l).control.state = .draining →
      exec (.laserFaultAsserted l) s =
        .next ((s.mapLeg l fun r =>
          { r with
            control :=
              { r.control with
                state := .fault, cause := some .laser, roundsLeft := 0, laserFault := true, faultSeen := true } }).notify
          [⟨some l, none, s.now, .legState .fault (some .laser)⟩])) ∧
    ((s.leg l).control.state = .off ∨ (s.leg l).control.state = .fault →
      exec (.laserFaultAsserted l) s =
        .next ((s.mapLeg l fun r => { r with control := { r.control with laserFault := true, faultSeen := true } }).notify []))) ∧
  (∀ s : State, s.blocks.time.part = .ready → ∃ t, exec .lossOfLock s = .next t ∧
    t.blocks.time = { s.blocks.time with part := .locking } ∧
    ∀ l : Leg,
      ((s.leg l).control.state.live = true →
        (t.leg l).control =
          { (s.leg l).control with state := .fault, cause := some .clock, roundsLeft := 0, txen := false } ∧
        LegFaulted s t l) ∧
      ((s.leg l).control.state = .draining →
        t.leg l =
          { s.leg l with
            control := { (s.leg l).control with state := .fault, cause := some .clock, roundsLeft := 0 } }) ∧
      ((s.leg l).control.state = .off ∨ (s.leg l).control.state = .fault → t.leg l = s.leg l))

/-- LEG_ON accepted in OFF stores the reach span and clears the discovery schedule; with LASER_FAULT inactive the leg enters
PREPARING with 64 rounds and its rotation pointer at 0, with it active FAULT with cause LASER; the reply is OK in both cases. A
leg number above 3 or a span outside 625 to 6,250 is refused RANGE, and any other leg state BUSY (R9, R101; that RANGE comes
before BUSY: log 37, the model's choice). -/
def Obligations.LegOnStartsPreparing : Prop :=
  (∀ (tag leg : Byte) (reach : BitVec 16) (s : State), s.takes tag = true →
    (3 < leg.toNat ∨ reach.toNat < 625 ∨ 6250 < reach.toNat →
      exec (.legOn tag leg reach) s = .next (s.refuse 0x10 tag .range)) ∧
    (∀ l : Leg, toLeg? leg = some l → 625 ≤ reach.toNat → reach.toNat ≤ 6250 → (s.leg l).control.state ≠ .off →
      exec (.legOn tag leg reach) s = .next (s.refuse 0x10 tag .busy))) ∧
  (∀ (tag leg : Byte) (reach : BitVec 16) (l : Leg) (s : State), toLeg? leg = some l → s.takes tag = true →
    625 ≤ reach.toNat → reach.toNat ≤ 6250 → (s.leg l).control.state = .off →
    ((s.leg l).control.laserFault = false →
      exec (.legOn tag leg reach) s =
        .next
          ((s.mapLeg l fun r =>
            { r with
              control :=
                { r.control with
                  state := .preparing, cause := none, roundsLeft := 64
                  settings := { r.control.settings with reach := reach.toNat } }
              schedule := { roundsSince := 0, neverPlaced := true, quickRetry := false }
              pointer := 0 }).reply 0x10 tag .none [⟨some l, none, s.now, .legState .preparing none⟩])) ∧
    ((s.leg l).control.laserFault = true →
      exec (.legOn tag leg reach) s =
        .next
          ((s.mapLeg l fun r =>
            { r with
              control :=
                { r.control with
                  state := .fault, cause := some .laser, roundsLeft := 0
                  settings := { r.control.settings with reach := reach.toNat } }
              schedule := { roundsSince := 0, neverPlaced := true, quickRetry := false } }).reply 0x10 tag .none
            [⟨some l, none, s.now, .legState .fault (some .laser)⟩])))

/-- LEG_OFF in PREPARING, ON, RETIMING or FAULT is answered OK and leaves the leg in OFF if every entry is VACANT then, and in DRAINING if
not: laser off, queues, maps and lane table empty, monitor DISARMED, every entry RETIRING with reason DRAIN or the reason it had, or VACANT,
as it is at once where it has no meter or an OPEN one without usage, settings and stranger list kept, every other leg as it was. The DRAIN
closes of its OPEN meters with usage are taken in ascending drop index: as many as the journal has room for are written, with the stamp of
the request, and their entries are VACANT; the meters of the rest are HELD for DRAIN, and so is one HELD for a PERIOD or HOST close with
usage, at its own stamp; one HELD so without usage is removed (R182, R184). In DRAINING and in OFF it is answered OK and changes nothing
(R12, R13). A leg number above 3 is refused RANGE (R12). -/
def Obligations.LegOffStartsDraining : Prop :=
  (∀ (tag leg : Byte) (s : State), s.takes tag = true → 3 < leg.toNat →
    exec (.legOff tag leg) s = .next (s.refuse 0x11 tag .range)) ∧
  ∀ (tag leg : Byte) (l : Leg) (s : State), toLeg? leg = some l → s.takes tag = true →
    ((s.leg l).control.state ≠ .off → (s.leg l).control.state ≠ .draining →
      ∃ t, exec (.legOff tag leg) s = .next t ∧
        t.port.outbound[s.port.outbound.length]? = some ⟨.reply ⟨0x91, tag, .ok, .none⟩, false⟩ ∧
        ((t.leg l).control.state = .draining ∨ (t.leg l).control.state = .off) ∧
        ((t.leg l).control.state = .off ↔ ∀ d : Drop, (t.drop l d).state = .vacant) ∧
        (∀ d : Drop, (s.drop l d).state = .vacant → t.drop l d = s.drop l d) ∧
        (∀ d : Drop, (s.drop l d).state ≠ .vacant → (s.drop l d).state ≠ .retiring →
          (∀ m, s.meter l d = some m → m.pending = none ∧ m.usage = false) → t.drop l d = DropEntry.vacant s.now) ∧
        (∀ (d : Drop) (m : Meter), (s.drop l d).state ≠ .vacant → (s.drop l d).state ≠ .retiring → s.meter l d = some m →
          m.usage = true → s.blocks.journal.room = false → (t.drop l d).state = .retiring) ∧
        (t.leg l).control.txen = false ∧ (t.leg l).control.settings = (s.leg l).control.settings ∧
        (t.leg l).orders = [] ∧ (t.leg l).owed = [] ∧ (t.leg l).fifo = [] ∧ (t.leg l).inFlight = [] ∧
        (∀ n : Fin 256, (t.leg l).lanes[n] = none) ∧ (t.leg l).monitor.state = .disarmed ∧
        (∀ d : Drop, (t.drop l d).state = .retiring ∨ (t.drop l d).state = .vacant) ∧
        (∀ d : Drop, (s.drop l d).state = .retiring → t.drop l d = s.drop l d) ∧
        (∀ d : Drop, (s.drop l d).state ≠ .retiring → (t.drop l d).state = .retiring →
          (t.drop l d).reason = some (.retire .drain)) ∧
        (∃ new : List JournalEntry,
          let closing := allDrops.filter fun d =>
            (s.drop l d).state != .vacant && (s.drop l d).state != .retiring &&
              (s.meter l d).any fun m => m.usage && m.pending.isNone
          let n := min (1024 - s.blocks.journal.entries.length) (4294967296 - s.blocks.journal.nextSeq)
          t.blocks.journal.entries = s.blocks.journal.entries ++ new ∧
          t.blocks.journal.nextSeq = s.blocks.journal.nextSeq + new.length ∧ new.map JournalEntry.drop = closing.take n ∧
          (∀ i, (h : i < new.length) → ∃ m, s.meter l new[i].drop = some m ∧
            new[i] =
              { seq := s.blocks.journal.nextSeq + i, account := m.account, leg := l, drop := new[i].drop, start := m.start
                stop := s.now, up := m.up, down := m.down, shed := m.shed, cause := .drain, flags := m.flags }) ∧
          (∀ d ∈ closing.take n, t.drop l d = DropEntry.vacant s.now ∧ t.meter l d = none) ∧
          (∀ d ∈ closing.drop n, (t.drop l d).state = .retiring ∧ ∃ m, s.meter l d = some m ∧
            t.meter l d = some { m with pending := some (.drain, s.now), flags := { m.flags with extended := true } })) ∧
        (∀ (d : Drop) (m : Meter) (was : CloseCause) (at' : Stamp), (s.drop l d).state ≠ .vacant →
          (s.drop l d).state ≠ .retiring → s.meter l d = some m → m.pending = some (was, at') → was = .period ∨ was = .host →
          (m.usage = true → (t.drop l d).state = .retiring ∧ t.meter l d = some { m with pending := some (.drain, at') }) ∧
          (m.usage = false → t.drop l d = DropEntry.vacant s.now ∧ t.meter l d = none)) ∧
        (t.leg l).strangers = (s.leg l).strangers ∧ t.blocks.time = s.blocks.time ∧
        ∀ k : Leg, k ≠ l → t.leg k = s.leg k) ∧
    ((s.leg l).control.state = .off ∨ (s.leg l).control.state = .draining →
      exec (.legOff tag leg) s = .next (s.reply 0x11 tag .none))

/-- LEG_SET replaces the five settings at once, each clamped to its range, and its OK reply carries them as stored; a trim band
with low ≥ high, or a leg number above 3, is refused RANGE and changes no setting (R6, R7). ANNOUNCE_SET stores the 40 host bytes
for the next block and answers with the stamp of the next announcement-block boundary; the block in force and all else stay; a leg
number above 3 is refused RANGE (R160). -/
def Obligations.LegSettingRequestsStoreTheirValues : Prop :=
  (∀ (tag leg : Byte) (x : WireLegSet) (l : Leg) (s : State), toLeg? leg = some l → s.takes tag = true →
    (x.trimLow.toNat < x.trimHigh.toNat → ∃ v : LegSettings,
      exec (.legSet tag leg x) s =
        .next ((s.mapLeg l fun r => { r with control := { r.control with settings := v } }).reply 0x12 tag (.legSet v)) ∧
      v.reach = (s.leg l).control.settings.reach ∧ v.trimLow = x.trimLow.toNat ∧ v.trimHigh = x.trimHigh.toNat ∧
      v.downThrottle = x.downThrottle.toNat ∧
      (x.discovery.toNat = 0 → v.discovery = 0) ∧
      (0 < x.discovery.toNat → x.discovery.toNat < 16 → v.discovery = 16) ∧
      (16 ≤ x.discovery.toNat → x.discovery.toNat ≤ 4096 → v.discovery = x.discovery.toNat) ∧
      (4096 < x.discovery.toNat → v.discovery = 4096) ∧
      (x.upThrottle.toNat ≤ 2000 → v.upThrottle = x.upThrottle.toNat) ∧ (2000 < x.upThrottle.toNat → v.upThrottle = 2000) ∧
      (x.lostHold.toNat = 0 → v.lostHold = 1) ∧
      (1 ≤ x.lostHold.toNat → x.lostHold.toNat ≤ 64 → v.lostHold = x.lostHold.toNat) ∧
      (64 < x.lostHold.toNat → v.lostHold = 64)) ∧
    (x.trimHigh.toNat ≤ x.trimLow.toNat → exec (.legSet tag leg x) s = .next (s.refuse 0x12 tag .range))) ∧
  (∀ (tag leg : Byte) (x : WireLegSet) (host : Vector Byte 40) (s : State), s.takes tag = true → 3 < leg.toNat →
    exec (.legSet tag leg x) s = .next (s.refuse 0x12 tag .range) ∧
    exec (.announceSet tag leg host) s = .next (s.refuse 0x15 tag .range)) ∧
  (∀ (tag leg : Byte) (host : Vector Byte 40) (l : Leg) (s : State), toLeg? leg = some l → s.takes tag = true →
    ∃ b : Stamp,
      exec (.announceSet tag leg host) s = .next ((s.mapLeg l fun r => { r with hostBytes := host }).reply 0x15 tag (.stamp b)) ∧
      (s.blocks.time.Ok → b.round % 64 = 0 ∧ s.now.index < b.index + (if b = ⟨0, 0⟩ then 17592186044416 else 0) ∧
        b.index + (if b = ⟨0, 0⟩ then 17592186044416 else 0) ≤ s.now.index + 64))

/-- SET_REACH accepted in ON: the new span is stored, the leg enters RETIMING with 4 rounds, a SHIFT_DELAY with the shift and the
round number is queued behind the other orders, owed SET_DELAY orders leave, the span in progress is abandoned, and the maps in
flight are marked. An entry in TRIMMING, AWAITING, SERVING or DORMANT keeps its state with its EqD shifted, or is LOST
OUT_OF_REACH where its rtt exceeds the new leg delay, with the effects of a loss; the reply counts these. A FOUND entry stays as
it is and loses its SET_DELAY; a QUARANTINED one loses rtt and EqD; any other stays as it is; every other leg stays (R32, R66, R76
to R78). The refusals come in the order RANGE, BUSY, CEILING, QUEUE_FULL; the present span, tested behind BUSY, is answered OK and
changes nothing (R76; the figures 0 of that reply: log 21, the model's choice). -/
def Obligations.SetReachStartsRetiming : Prop :=
  (∀ (tag leg : Byte) (reach : BitVec 16) (l : Leg) (s : State), toLeg? leg = some l → s.takes tag = true →
    625 ≤ reach.toNat → reach.toNat ≤ 6250 → (s.leg l).control.state = .on → (s.leg l).monitor.state.searching = false →
    reach.toNat ≠ (s.leg l).control.settings.reach → fixedLimitsHold (s.leg l).lanes reach.toNat = true →
    (s.leg l).orders.length < 48 →
    let delta : Int := 8 * ((reach.toNat : Int) - (s.leg l).control.settings.reach)
    ∃ (t : State) (lost : List Drop), exec (.setReach tag leg reach) s = .next t ∧ lost.Nodup ∧
      (∀ d : Drop, d ∈ lost ↔
        ((s.drop l d).state = .trimming ∨ (s.drop l d).state = .awaiting ∨ (s.drop l d).state = .serving ∨
          (s.drop l d).state = .dormant) ∧ ∃ rtt, (s.drop l d).rtt = some rtt ∧ 8 * reach.toNat < rtt) ∧
      t.port.outbound[s.port.outbound.length]? = some ⟨.reply ⟨0x94, tag, .ok, .setReach delta lost.length⟩, false⟩ ∧
      (t.leg l).control =
        { (s.leg l).control with
          state := .retiming, cause := none, roundsLeft := 4
          settings := { (s.leg l).control.settings with reach := reach.toNat } } ∧
      (t.leg l).orders =
        ((s.leg l).orders.filter fun e =>
          !(e.target.any fun d => lost.contains d || (s.drop l d).state == .found && e.order.kind == .setDelay)) ++
        [OrderEntry.queued (.shiftDelay delta s.blocks.time.round) none] ∧
      (∀ i ∈ (t.leg l).owed, i.kind ≠ .setDelay) ∧ (t.leg l).monitor.span = none ∧
      (t.leg l).inFlight = (s.leg l).inFlight.map (fun m => { m with reachChanged := true }) ∧
      (∀ d ∈ lost,
        (t.drop l d).state = .lost ∧ (t.drop l d).reason = some (.lost .outOfReach) ∧ (t.drop l d).since = s.now ∧
        (t.drop l d).hold = some ((s.leg l).control.settings.lostHold * 4096) ∧ (t.drop l d).rtt = (s.drop l d).rtt ∧
        (t.drop l d).eqd = (s.drop l d).eqd ∧
        (∀ n x, (t.leg l).lanes[(n : Fin 256)] = some x → x.owner = d → x.state = .suspended ∧ ∀ c, x.credit = some c → c = 0) ∧
        (∀ m, s.meter l d = some m → t.meter l d = some { m with flags := { m.flags with outage := true } })) ∧
      (∀ d : Drop, (s.drop l d).state.heard = true → d ∉ lost →
        t.drop l d =
          { s.drop l d with eqd := (s.drop l d).eqd.map fun eqd => ((eqd : Int) + delta).toNat }) ∧
      (∀ d : Drop, (s.drop l d).state = .quarantined → t.drop l d = { s.drop l d with rtt := none, eqd := none }) ∧
      (∀ d : Drop, (s.drop l d).state.heard = false → (s.drop l d).state ≠ .quarantined → t.drop l d = s.drop l d) ∧
      ∀ k : Leg, k ≠ l → t.leg k = s.leg k) ∧
  (∀ (tag leg : Byte) (reach : BitVec 16) (s : State), s.takes tag = true →
    (3 < leg.toNat ∨ reach.toNat < 625 ∨ 6250 < reach.toNat →
      exec (.setReach tag leg reach) s = .next (s.refuse 0x14 tag .range)) ∧
    (∀ l : Leg, toLeg? leg = some l → 625 ≤ reach.toNat → reach.toNat ≤ 6250 →
      ((s.leg l).control.state ≠ .on ∨ (s.leg l).monitor.state.searching = true →
        exec (.setReach tag leg reach) s = .next (s.refuse 0x14 tag .busy)) ∧
      ((s.leg l).control.state = .on → (s.leg l).monitor.state.searching = false →
        (reach.toNat = (s.leg l).control.settings.reach →
          exec (.setReach tag leg reach) s = .next (s.reply 0x14 tag (.setReach 0 0))) ∧
        (reach.toNat ≠ (s.leg l).control.settings.reach →
          (fixedLimitsHold (s.leg l).lanes reach.toNat = false →
            exec (.setReach tag leg reach) s = .next (s.refuse 0x14 tag .ceiling)) ∧
          (fixedLimitsHold (s.leg l).lanes reach.toNat = true → 48 ≤ (s.leg l).orders.length →
            exec (.setReach tag leg reach) s = .next (s.refuse 0x14 tag .queueFull))))))

/-! ### Requests in general, and the port -/

/-- A request that is refused leaves the blocks, the port and the notices as they were: the refusal is its only effect (11.3).
With the latch set every request but STATUS and CLEAR_LATCH is refused LATCHED; with no latch, while the part is LOCKING, every
request but IDENTIFY and STATUS is refused NOT_READY; neither does anything else (R195, R199). -/
def Obligations.RefusalsChangeNothing : Prop :=
  (∀ (q : Request) (p : Port) (w : Work), (runRequest q p w).status ≠ .ok →
    (runRequest q p w).port = p ∧ (runRequest q p w).work = w ∧ (runRequest q p w).body = .none) ∧
  (∀ (c : Instr) (q : Request) (tag : Byte) (s : State), c.request? = some (tag, q) → tag ≠ 0 →
    s.port.outbound.length < 32 →
    (s.port.latch = true → q ≠ .status → q ≠ .clearLatch → exec c s = .next (s.refuse (kindOf q) tag .latched)) ∧
    (s.port.latch = false → s.blocks.time.part = .locking → q ≠ .identify → q ≠ .status →
      exec c s = .next (s.refuse (kindOf q) tag .notReady)))

/-- Each reading request answers OK with what it reads and changes nothing else: IDENTIFY, PULSE_READ, LEG_STATUS, ENROL_READ,
DROP_READ, LANE_READ, MAP_READ, ROGUE_READ, BAND_READ and METER_READ; IDENTIFY does so while the part is LOCKING too, and says so.
A leg number above 3 and a drop index above 127 are refused RANGE, a serial that no entry holds, a lane number without a lane and
a drop without a meter ABSENT (R4, R8, R23, R39, R88, R102, R153, R175, R190, R202, R204). -/
def Obligations.ReadingRequestsChangeNothing : Prop :=
  (∀ (tag : Byte) (s : State), tag ≠ 0 → s.port.latch = false → s.port.outbound.length < 32 →
    exec (.identify tag) s = .next (s.reply 0x01 tag (.identify 0x5D04 1 1 4 128 512 256 48 1024 s.blocks.time.part))) ∧
  (∀ (tag leg drop lane : Byte) (s : State), s.takes tag = true →
    (3 < leg.toNat →
      exec (.legStatus tag leg) s = .next (s.refuse 0x13 tag .range) ∧
      exec (.laneRead tag leg lane) s = .next (s.refuse 0x23 tag .range) ∧
      exec (.mapRead tag leg) s = .next (s.refuse 0x24 tag .range) ∧
      exec (.rogueRead tag leg) s = .next (s.refuse 0x33 tag .range)) ∧
    (3 < leg.toNat ∨ 127 < drop.toNat →
      exec (.dropRead tag leg drop) s = .next (s.refuse 0x1E tag .range) ∧
      exec (.meterRead tag leg drop) s = .next (s.refuse 0x43 tag .range)) ∧
    (∀ serial : Serial, (∀ i e, s.blocks.enrol[(i : Fin 512)] = some e → e.serial ≠ serial) →
      exec (.enrolRead tag serial) s = .next (s.refuse 0x1A tag .absent)) ∧
    ∀ l : Leg, toLeg? leg = some l →
      ((s.leg l).lanes[lane.toFin] = none → exec (.laneRead tag leg lane) s = .next (s.refuse 0x23 tag .absent)) ∧
      ∀ d : Drop, toDrop? drop = some d → s.meter l d = none →
        exec (.meterRead tag leg drop) s = .next (s.refuse 0x43 tag .absent)) ∧
  ∀ (tag leg : Byte) (l : Leg) (s : State), toLeg? leg = some l → s.takes tag = true →
    exec (.pulseRead tag) s = .next (s.reply 0x08 tag (.pulseRead s.blocks.time.captures s.blocks.time.ring)) ∧
    exec (.legStatus tag leg) s =
      .next (s.reply 0x13 tag (.legStatus
        { state := (s.leg l).control.state
          roundsLeft :=
            if (s.leg l).control.state = .preparing ∨ (s.leg l).control.state = .retiming then some (s.leg l).control.roundsLeft
            else none
          cause := if (s.leg l).control.state = .fault then (s.leg l).control.cause else none
          settings := (s.leg l).control.settings
          delay := 8 * (s.leg l).control.settings.reach
          txen := (s.leg l).control.txen
          laserFault := (s.leg l).control.laserFault
          nonVacant := (allDrops.filter fun d => (s.drop l d).state != .vacant).length
          retiring := (allDrops.filter fun d => (s.drop l d).state == .retiring).length })) ∧
    (∀ (i : Fin 512) (e : EnrolEntry), s.blocks.enrolled e.serial = some (i, e) →
      exec (.enrolRead tag e.serial) s = .next (s.reply 0x1A tag (.enrolRead i e s.blocks.enrolCount))) ∧
    (∀ (drop : Byte) (d : Drop), toDrop? drop = some d →
      exec (.dropRead tag leg drop) s =
        .next (s.reply 0x1E tag
          (.dropRead d (s.drop l d) (s.leg l).histories[d] ((s.leg l).owed.filter fun i => i.drop == d)))) ∧
    (∀ (lane : Byte) (x : Lane), (s.leg l).lanes[lane.toFin] = some x →
      exec (.laneRead tag leg lane) s =
        .next (s.reply 0x23 tag
          (.laneRead lane.toFin x ((s.meter l x.owner).any fun m => m.overQuota)
            ((allLanes.map fun n => ((s.leg l).lanes[n].map Lane.fixedBeats).getD 0).sum)
            (allDrops.filter fun d => allLanes.any fun n => (s.leg l).lanes[n].any fun y => y.isFixed && y.owner == d).length
            (8000 - ((s.leg l).control.settings.reach + 80))))) ∧
    ((s.leg l).keptMap = none → exec (.mapRead tag leg) s = .next (s.reply 0x24 tag (.mapRead l none))) ∧
    (∀ m : GrantMap, (s.leg l).keptMap = some m → ∃ v : MapReply,
      exec (.mapRead tag leg) s = .next (s.reply 0x24 tag (.mapRead l (some v))) ∧
      v.round = m.round.round ∧ v.empty = m.empty ∧ v.window = (m.window.map fun w => (w.kind, 8000 - w.length, w.length)) ∧
      v.ranging = m.ranging.map RangingEntry.drop ∧ v.burstCount = m.bursts.length ∧ v.fixedBeats = m.fixedBeats ∧
      v.assuredBeats = m.assuredBeats ∧ v.surplusBeats = m.surplusBeats ∧ v.overheadBeats = 16 * m.bursts.length ∧
      v.idleBeats = m.idleBeats ∧ v.refused = m.refused ∧ v.pointerBefore = m.pointerBefore ∧
      v.pointerAfter = m.pointerAfter ∧ v.bursts.map BurstSummary.drop = m.bursts.map Burst.drop ∧
      v.bursts.map BurstSummary.start = m.bursts.map Burst.start ∧
      v.bursts.map BurstSummary.length = m.bursts.map Burst.length ∧
      v.bursts.map BurstSummary.hasSegments = m.bursts.map fun b => decide (b.segments ≠ [])) ∧
    exec (.rogueRead tag leg) s =
      .next (s.reply 0x33 tag (.rogueRead
        { state := (s.leg l).monitor.state
          settings := (s.leg l).monitor.settings
          relearn := (s.leg l).monitor.relearn
          span := (s.leg l).monitor.span.map fun sp =>
            (sp.position, sp.learning, sp.counts, sp.tailDrop.map fun d => (d, sp.mixed))
          reference := (s.leg l).monitor.reference
          suspicion := (s.leg l).monitor.suspicion.map fun first => (first, first.roundsTo s.now)
          candidates := (s.leg l).monitor.candidates
          suspectDrop := (s.leg l).monitor.suspectDrop
          step := (s.leg l).monitor.step.map fun st => (st.kind, st.number, st.set, st.elapsed, st.read, st.lit)
          holdOffLeft := (s.leg l).monitor.holdOffLeft
          lastVerdict := (s.leg l).monitor.lastVerdict })) ∧
    exec (.bandRead tag) s =
      .next (s.reply 0x3A tag (.bandRead s.blocks.band s.blocks.quotaBands s.blocks.bandPlan s.now.nextBlock)) ∧
    (∀ (drop : Byte) (d : Drop) (m : Meter), toDrop? drop = some d → s.meter l d = some m →
      exec (.meterRead tag leg drop) s =
        .next (s.reply 0x43 tag
          (.meterRead l d m
            ((s.blocks.enrolWhere fun e => e.account == m.account).bind fun i => (s.blocks.enrol[i]).map EnrolEntry.quota)
            s.blocks.quotaBands[s.blocks.band])))

/-- STATUS, STRANGER_READ, WINDOW_STATS and CLEAR_LATCH answer OK with what they read and clear exactly what their rules say: the
notices-lost flag, whether the part is READY or LOCKING and the port latched or not; the stranger list if asked; the leg's window
statistics; the latch, both counts and the bad-record log. Of STRANGER_READ and WINDOW_STATS a leg number above 3 is refused RANGE
(R26, R117, R200, R203, R204). -/
def Obligations.ClearingRequestsClearWhatTheyRead : Prop :=
  (∀ (tag : Byte) (s : State), tag ≠ 0 → s.port.outbound.length < 32 →
    ∃ r : StatusReply, exec (.status tag) s =
        .next ({ s with port := { s.port with noticesLost := false } }.reply 0x02 tag (.status r)) ∧
      r.part = s.blocks.time.part ∧ r.stamp = s.now ∧ r.latched = s.port.latch ∧ r.persistent = s.port.persistent ∧ r.bad = s.port.bad ∧
      r.overrun = s.port.overrun ∧ r.log = s.port.log ∧ r.noticesLost = s.port.noticesLost ∧
      r.replies = (s.port.outbound.filter fun x => !x.isNotice).length ∧
      r.notices = (s.port.outbound.filter fun x => x.isNotice).length ∧
      r.inbound = s.port.inbound.length ∧ ∀ k : Leg, r.legs[k] = (s.leg k).control.state) ∧
  (∀ (tag leg clear : Byte) (s : State), s.takes tag = true → 3 < leg.toNat →
    exec (.strangerRead tag leg clear) s = .next (s.refuse 0x1B tag .range) ∧
    exec (.windowStats tag leg) s = .next (s.refuse 0x25 tag .range)) ∧
  ∀ (tag leg : Byte) (l : Leg) (s : State), toLeg? leg = some l → s.takes tag = true →
    exec (.strangerRead tag leg 0) s = .next (s.reply 0x1B tag (.strangers (s.leg l).strangers)) ∧
    (∀ clear : Byte, clear ≠ 0 →
      exec (.strangerRead tag leg clear) s =
        .next ((s.mapLeg l fun r => { r with strangers := [] }).reply 0x1B tag (.strangers (s.leg l).strangers))) ∧
    exec (.windowStats tag leg) s =
      .next ((s.mapLeg l fun r => { r with stats := WindowStats.zero s.now }).reply 0x25 tag (.windowStats (s.leg l).stats)) ∧
    (∀ latch : Bool,
      exec (.clearLatch tag) { s with port := { s.port with latch := latch } } =
        .next ({ s with port := { s.port with latch := false, bad := 0, overrun := 0, log := none } }.reply 0x04 tag
          (.clearLatch latch s.port.bad s.port.overrun s.port.log)))

/-- PORT_SET with mode 0 or 1 replaces the persistent mode and the routing mask, whose places above 0xF2 stay clear, and judges
the lines with the new mask; any other mode is refused RANGE, and a latched port answers LATCHED and keeps its settings and its
latch. After a pin reset persistent mode is OFF and the mask holds LEG_STATE, ROGUE_CONFIRMED, JOURNAL_LEVEL, JOURNAL_HELD and
PORT_ERROR; a RESTART keeps both (R198, R201). -/
def Obligations.PortSetReplacesModeAndMask : Prop :=
  (∀ (tag mode : Byte) (mask : BitVec 32) (s : State),
    (s.takes tag = true →
      (mode.toNat ≤ 1 → ∃ stored : BitVec 32,
        exec (.portSet tag mode mask) s =
          .next ({ s with port := { s.port with persistent := mode == 1, mask := stored } }.reply 0x03 tag
            (.portSet (mode == 1) stored)) ∧
        ∀ i : Nat, stored.getLsbD i = (mask.getLsbD i && decide (i < 19))) ∧
      (1 < mode.toNat → exec (.portSet tag mode mask) s = .next (s.refuse 0x03 tag .range))) ∧
    (tag ≠ 0 → s.port.outbound.length < 32 → s.port.latch = true →
      exec (.portSet tag mode mask) s = .next (s.refuse 0x03 tag .latched))) ∧
  (∀ s : State, ∃ t, exec .pinReset s = .next t ∧ t.port.persistent = false ∧
    ∀ i : Nat, t.port.mask.getLsbD i = (i == 1 || i == 10 || i == 15 || i == 16 || i == 18)) ∧
  (∀ (tag : Byte) (s : State), s.takes tag = true → s.blocks.restartRoom = true →
    ∃ t, exec (.restart tag) s = .next t ∧ t.port.persistent = s.port.persistent ∧ t.port.mask = s.port.mask)

/-- RESTART with room in the journal: every leg OFF with laser off, settings, reach, stranger list and monitor settings kept, every entry
VACANT since now, no meter, lane, order or frame left; bindings gone; every last echo heard NONE, the discovery schedules cleared, the
rotation pointers 0, the window histories empty, the window statistics 0 with the request's stamp, the maps and the round in progress gone,
announcement block and pending host bytes kept, and so journal cursor, watermark and the quota-counting flags; the clock runs on with the
ring empty; the port keeps its error state and mode, its inbound buffer is empty and the reply stands at the head of the outbound queue
(R17, R205 to R207). RESTART writes exactly one journal entry with cause RESTART for each meter that holds usage and none for any other, in
leg and then drop order and in sequence behind the entries the journal holds, and the reply counts them and the meters removed without one;
behind the reply stand a JOURNAL_LEVEL notice, if the closes brought the unreleased count to the watermark with the notice armed, and a
LEG_STATE notice reporting OFF for each leg not OFF before, ascending (R207); without room for all of them it is refused ROOM and changes
nothing (R185, R205). -/
def Obligations.RestartEmptiesThePart : Prop :=
  (∀ (tag : Byte) (s : State), s.takes tag = true → s.blocks.restartRoom = true → ∃ t, exec (.restart tag) s = .next t ∧
    (∃ written removed unreleased nextSeq, t.port.outbound.head? =
      some ⟨.reply ⟨0x85, tag, .ok, .restart written removed unreleased nextSeq⟩, false⟩) ∧
    t.port.inbound = [] ∧ t.port.bad = s.port.bad ∧ t.port.overrun = s.port.overrun ∧ t.port.log = s.port.log ∧
    t.port.persistent = s.port.persistent ∧ t.port.mask = s.port.mask ∧
    t.blocks.time = { s.blocks.time with ring := [], captures := 0 } ∧
    t.blocks.band = s.blocks.band ∧ t.blocks.bandPlan = s.blocks.bandPlan ∧ t.blocks.period = s.blocks.period ∧
    t.blocks.quotaBands = s.blocks.quotaBands ∧ t.blocks.journal.cursor = s.blocks.journal.cursor ∧
    t.blocks.journal.watermark = s.blocks.journal.watermark ∧
    (∀ i : Fin 512, t.blocks.enrol[i] = (s.blocks.enrol[i]).map fun e => { e with binding := none }) ∧
    ∀ l : Leg,
      (t.leg l).control.state = .off ∧ (t.leg l).control.txen = false ∧
      (t.leg l).control.settings = (s.leg l).control.settings ∧ (t.leg l).strangers = (s.leg l).strangers ∧
      (t.leg l).monitor = Monitor.disarmed (s.leg l).monitor.settings false none ∧
      (∀ d : Drop, t.drop l d = DropEntry.vacant s.now ∧ t.meter l d = none) ∧
      (∀ n : Fin 256, (t.leg l).lanes[n] = none) ∧
      (t.leg l).orders = [] ∧ (t.leg l).owed = [] ∧ (t.leg l).fifo = [] ∧ (t.leg l).inFlight = [] ∧ (t.leg l).keptMap = none ∧
      (t.leg l).sending = none ∧ (t.leg l).block = (s.leg l).block ∧ (t.leg l).hostBytes = (s.leg l).hostBytes ∧
      (t.leg l).pointer = 0 ∧ (t.leg l).schedule = { roundsSince := 0, neverPlaced := true, quickRetry := false } ∧
      (∀ d : Drop, (t.leg l).lastEcho[d] = none ∧
        (t.leg l).histories[d] = { recent := [], offset := none, level := none, fault := none, cleanRun := 0 }) ∧
      (t.leg l).stats =
        { clean := 0, misfit := 0, garbled := 0, silent := 0, unitFaults := 0, upDiscarded := 0, announces := 0
          garbledWindows := 0, rangingReplies := 0, rangingNoReplies := 0, downDiscarded := 0, cleared := s.now }) ∧
  (∀ (tag : Byte) (s : State), s.takes tag = true →
    (s.blocks.restartRoom = true → ∃ t es, exec (.restart tag) s = .next t ∧
      t.blocks.journal.entries = s.blocks.journal.entries ++ es ∧
      t.blocks.journal.nextSeq = s.blocks.journal.nextSeq + es.length ∧
      (∀ i, (h : i < es.length) → es[i].seq = s.blocks.journal.nextSeq + i) ∧
      es.Pairwise (fun a b => a.leg < b.leg ∨ a.leg = b.leg ∧ a.drop < b.drop) ∧
      (∃ level : List Notice,
        t.port =
          placeAll
            { s.port with
              inbound := []
              outbound :=
                [⟨.reply ⟨0x85, tag, .ok,
                  .restart es.length
                    ((allLegs.map fun l => (allDrops.filter fun d => (s.meter l d).any fun m => !m.usage).length).sum)
                    (s.blocks.journal.entries.length + es.length) (s.blocks.journal.nextSeq + es.length)⟩, false⟩] }
            (level ++ (allLegs.filter fun l => (s.leg l).control.state != .off).map fun l =>
              ⟨some l, none, s.now, .legState .off none⟩) ∧
        (es ≠ [] ∧ s.blocks.journal.watermark ≤ s.blocks.journal.entries.length + es.length ∧
            (s.blocks.journal.armed = true ∨ s.blocks.journal.entries.length + 1 < s.blocks.journal.watermark) →
          ∃ held, level =
            [⟨none, none, s.now,
              .journalLevel (max (s.blocks.journal.entries.length + 1) s.blocks.journal.watermark) s.blocks.journal.watermark
                (some ((s.blocks.journal.entries.head?.map JournalEntry.seq).getD s.blocks.journal.nextSeq)) held⟩]) ∧
        (es = [] ∨ s.blocks.journal.entries.length + es.length < s.blocks.journal.watermark ∨
            s.blocks.journal.armed = false ∧ s.blocks.journal.watermark ≤ s.blocks.journal.entries.length + 1 →
          level = [])) ∧
      t.port.outbound.head? =
        some ⟨.reply ⟨0x85, tag, .ok,
          .restart es.length
            ((allLegs.map fun l => (allDrops.filter fun d => (s.meter l d).any fun m => !m.usage).length).sum)
            (s.blocks.journal.entries.length + es.length) (s.blocks.journal.nextSeq + es.length)⟩, false⟩ ∧
      (∀ e ∈ es, e.cause = .restart ∧ e.stop = s.now ∧
        ∃ m, s.meter e.leg e.drop = some m ∧ m.usage = true ∧ e.account = m.account ∧ e.start = m.start ∧ e.up = m.up ∧
          e.down = m.down ∧ e.shed = m.shed ∧ e.flags = m.flags) ∧
      (∀ (l : Leg) (d : Drop) (m : Meter), s.meter l d = some m → m.usage = true → ∃ e ∈ es, e.leg = l ∧ e.drop = d)) ∧
    (s.blocks.restartRoom = false → exec (.restart tag) s = .next (s.refuse 0x05 tag .room)))

/-- A write transaction that brings a good record puts it at the tail of the inbound buffer with the latched mark of a latched port; at a
full buffer it is discarded, the overrun count rises by one up to 65,535 and a PORT_ERROR notice is raised; the blocks stay (R193, R194). A
record is bad, with the first cause that applies, SHORT with fewer than 2 bytes, LENGTH where its LEN is outside 2 to 1,022, SHORT with
fewer than LEN + 4 bytes, LONG with more, and CRC where the CRC-16 over LEN through BODY differs from the one received; any other is a good
one (R193). A bad record is counted up to 65,535 and logged with its cause, its length and its first 8 bytes, sets the latch in persistent
mode, and raises a PORT_ERROR notice; so does an opcode other than 0xC1 and 0xC2; the inbound buffer and the blocks stay (R191, R193, R199;
the count 0 of an OPCODE log: log 18, the model's choice). A read opcode marks the record at the head in transfer; the end of the
transaction removes the record if it was read whole and leaves it at the head, unmarked, if it was not; the lines are judged, and nothing
else changes (R192, R198). While a record is in transfer, the bytes that SDO carries are 0x00 during the opcode byte, then the record's
bytes in order, then 0x00; they are 0x00 throughout a transaction of another opcode, or with nothing in transfer, be the queue empty or not,
as when a record enters it during a read that found it empty (R191, R192). A RESTART in the midst of a transfer leaves no record in
transfer: SDO carries 0x00 from then on, and the end of the transaction removes nothing (R192, R207). -/
def Obligations.TransactionsFeedAndDrainThePort : Prop :=
  ((∀ (kind tag : Byte) (body : List Byte) (s : State), body.length ≤ 1020 →
    (s.port.inbound.length < 4 →
      exec (.writeTransactionEnd (frameRecord kind tag body)) s =
        .next { s with port := { s.port with inbound := s.port.inbound ++ [⟨kind, tag, body, s.port.latch⟩] } }) ∧
    (4 ≤ s.port.inbound.length →
      exec (.writeTransactionEnd (frameRecord kind tag body)) s =
        .next ({ s with port := { s.port with overrun := min (s.port.overrun + 1) 65535 } }.notify
          [⟨none, none, s.now, .portError .overrun s.port.bad (min (s.port.overrun + 1) 65535) s.port.latch⟩]))) ∧
  (∀ s : State,
    (∀ (bytes : List Byte) (cause : PortCause),
      let len := (bytes.getD 0 0).toNat * 256 + (bytes.getD 1 0).toNat
      cause = .short ∧ bytes.length < 2 ∨
        cause = .length ∧ 2 ≤ bytes.length ∧ (len < 2 ∨ 1022 < len) ∨
        cause = .short ∧ 2 ≤ bytes.length ∧ 2 ≤ len ∧ len ≤ 1022 ∧ bytes.length < len + 4 ∨
        cause = .long ∧ 2 ≤ len ∧ len ≤ 1022 ∧ len + 4 < bytes.length ∨
        cause = .crc ∧ 2 ≤ len ∧ len ≤ 1022 ∧ bytes.length = len + 4 ∧
          bytes.drop (len + 2) ≠ put16 (crc16 (bytes.take (len + 2))) →
      exec (.writeTransactionEnd bytes) s =
        .next ({ s with
            port :=
              { s.port with
                bad := min (s.port.bad + 1) 65535
                log := some ⟨cause, s.now, min bytes.length 65535, bytes.take 8⟩
                latch := s.port.latch || s.port.persistent } }.notify
          [⟨none, none, s.now, .portError cause (min (s.port.bad + 1) 65535) s.port.overrun (s.port.latch || s.port.persistent)⟩])) ∧
    (∀ bytes : List Byte,
      let len := (bytes.getD 0 0).toNat * 256 + (bytes.getD 1 0).toNat
      2 ≤ len → len ≤ 1022 → bytes.length = len + 4 → bytes.drop (len + 2) = put16 (crc16 (bytes.take (len + 2))) →
      ∃ (kind tag : Byte) (body : List Byte), body.length ≤ 1020 ∧ bytes = frameRecord kind tag body) ∧
    (∀ opcode : Byte, opcode ≠ 0xC1 → opcode ≠ 0xC2 →
      exec (.badOpcodeTransaction opcode) s =
        .next ({ s with
            port :=
              { s.port with
                bad := min (s.port.bad + 1) 65535, log := some ⟨.opcode, s.now, 0, [opcode]⟩
                latch := s.port.latch || s.port.persistent } }.notify
          [⟨none, none, s.now, .portError .opcode (min (s.port.bad + 1) 65535) s.port.overrun (s.port.latch || s.port.persistent)⟩])))) ∧
  (∀ (r : OutRecord) (rs : List OutRecord) (s : State), s.port.outbound = r :: rs →
    exec .readOpcode s = .next { s with port := { s.port with outbound := { r with inTransfer := true } :: rs } } ∧
    (r.inTransfer = true →
      exec (.readTransactionEnd true) s = .next ({ s with port := { s.port with outbound := rs } }.notify []) ∧
      exec (.readTransactionEnd false) s =
        .next ({ s with port := { s.port with outbound := { r with inTransfer := false } :: rs } }.notify []))) ∧
  (∀ s : State,
    (∀ (opcode : Byte) (i : Nat), opcode ≠ 0xC2 ∨ i = 0 ∨ s.port.outbound = [] → s.port.sdo opcode i = 0) ∧
    (∀ (r : OutRecord) (rs : List OutRecord) (opcode : Byte) (i : Nat), s.port.outbound = r :: rs → r.inTransfer = false →
      s.port.sdo opcode i = 0 ∧ ∀ whole : Bool, exec (.readTransactionEnd whole) s = .next (s.notify [])) ∧
    (∀ (r : OutRecord) (rs : List OutRecord), s.port.outbound = r :: rs → r.inTransfer = true →
      (∀ i, (h : i < r.bytes.length) → s.port.sdo 0xC2 (i + 1) = r.bytes[i]) ∧
      (∀ i, r.bytes.length ≤ i → s.port.sdo 0xC2 (i + 1) = 0))) ∧
  (∀ (tag : Byte) (s : State), s.takes tag = true → s.blocks.restartRoom = true → ∃ t, exec (.restart tag) s = .next t ∧
    (∀ r ∈ t.port.outbound, r.inTransfer = false) ∧ (∀ (opcode : Byte) (i : Nat), t.port.sdo opcode i = 0) ∧
    ∀ whole : Bool, exec (.readTransactionEnd whole) t = .next t)

/-- A notice placed either takes the place of the notice of its kind, leg and drop nearest the tail that is not in transfer, or is
appended while fewer than 28 notices and 32 records are queued, or is lost with the notices-lost flag set; replies and the order
of the queue stay, and nothing else of the port changes (R197). -/
def Obligations.NoticeIsPlacedOnce : Prop :=
  ∀ (p : Port) (n : Notice),
    (∀ (a b : List OutRecord) (r : OutRecord), p.outbound = a ++ r :: b → r.updatedBy n = true →
      (∀ x ∈ b, x.updatedBy n = false) →
      placeNotice p n = { p with outbound := a ++ { r with content := .notice n } :: b }) ∧
    ((∀ x ∈ p.outbound, x.updatedBy n = false) →
      (noticeCount p.outbound < 28 → p.outbound.length < 32 →
        placeNotice p n = { p with outbound := p.outbound ++ [⟨.notice n, false⟩] }) ∧
      (28 ≤ noticeCount p.outbound ∨ 32 ≤ p.outbound.length → placeNotice p n = { p with noticesLost := true }))

/-! ### What a boundary sends: orders, map, round -/

/-- The orders of a round, of a good order queue: at most 8, no position twice, in the order of R45's five steps and oldest first
within a step. An entry that its step lets go is left out only when 8 are taken: repeated copies and new URGENT ones always,
resends that are due, sent fewer than three times and four rounds waited, which alone of the awaiting entries are taken, on a leg
in ON to a drop not HUSHED, and first sends of NORMAL and LOW entries that R46 does not hold back; an entry left out for want of a
place ranks behind all 8 taken. An echoed order is first sent only when it is the oldest echoed order to its drop in the queue and
no other awaits its echo, so echoed orders to one drop go out in the order in which they were queued. An unechoed entry or a
resend goes out once more with the sequence it has, and leaves the queue with its last copy; a first echoed send takes the drop's
next echo sequence, or the one after it if that was the last echo heard, fixes its arguments and awaits its echo. Every other
entry stays (R45 to R48; that a NORMAL order waits for an older LOW one of its drop: log 40, the model's choice). -/
def Obligations.OrdersAreChosenAndSent : Prop :=
  ∀ (l : Leg) (w : Work), (w.leg l).OrdersOk →
    let q := (w.leg l).orders
    let on := (w.leg l).control.state == .on
    let hushed := fun d : Drop => (w.drop l d).state == .hushed
    let chosen := selectOrders on hushed q
    let rank := fun i : Nat =>
      match (q[i]? : Option OrderEntry) with
      | some e =>
        if e.order.kind.echoed = false ∧ 1 ≤ e.sends then 1
        else if e.priority = Priority.urgent then 2
        else if e.awaiting = true then 3
        else if e.priority = Priority.normal then 4
        else 5
      | none => 6
    chosen.length ≤ 8 ∧ chosen.Pairwise (fun i j => rank i < rank j ∨ rank i = rank j ∧ i < j) ∧
    (∀ i ∈ chosen, ∃ e, q[i]? = some e ∧
      (e.order.kind.echoed = true → on = true ∧ ∀ d, e.target = some d → (w.drop l d).state ≠ .hushed) ∧
      (e.awaiting = true → e.waited = 4 ∧ e.sends < 3) ∧
      (e.order.kind.echoed = true → e.awaiting = false →
        e.sends = 0 ∧ (∀ x ∈ q, x.awaiting = true → x.target ≠ e.target) ∧
        ∀ j x, j < i → q[j]? = some x → x.order.kind.echoed = true → x.target ≠ e.target)) ∧
    (∀ i e, q[i]? = some e → i ∉ chosen →
      e.order.kind.echoed = false ∨
        e.awaiting = true ∧ e.waited = 4 ∧ e.sends < 3 ∧ e.mayEcho on hushed = true ∨
        e.order.kind.echoed = true ∧ e.awaiting = false ∧ e.sends = 0 ∧ e.mayEcho on hushed = true ∧
          (∀ x ∈ q, x.awaiting = true → x.target ≠ e.target) ∧
          (∀ j x, j < i → q[j]? = some x → x.order.kind.echoed = true → x.target ≠ e.target) →
      chosen.length = 8 ∧ ∀ j ∈ chosen, rank j < rank i ∨ rank j = rank i ∧ j < i) ∧
    ∃ (w' : Work) (q' : List OrderEntry) (places : List OrderPlace), w.sendOrders l = (w', places) ∧ places.length = chosen.length ∧
      (w'.leg l).orders = q'.filter (fun e => !(e.order.kind.echoed == false && decide (e.order.kind.copies ≤ e.sends))) ∧
      q'.length = q.length ∧
      (∀ i e, q[i]? = some e → i ∉ chosen → q'[i]? = some e) ∧
      (∀ i e, q[i]? = some e → i ∈ chosen → e.order.kind.echoed = false ∨ e.awaiting = true →
        q'[i]? = some { e with sends := e.sends + 1, waited := 0, lastSent := some w.stamp.round } ∧
        (⟨e.order, e.target, e.seq⟩ : OrderPlace) ∈ places) ∧
      (∀ i e d, q[i]? = some e → i ∈ chosen → e.order.kind.echoed = true → e.awaiting = false → e.target = some d →
        ∃ (seq : Fin 16) (e' : OrderEntry), q'[i]? = some e' ∧ (⟨e'.order, some d, some seq⟩ : OrderPlace) ∈ places ∧
          ((w.leg l).lastEcho[d] ≠ some (w.drop l d).nextEcho → seq = (w.drop l d).nextEcho) ∧
          ((w.leg l).lastEcho[d] = some (w.drop l d).nextEcho → seq = (w.drop l d).nextEcho + 1) ∧
          e'.seq = some seq ∧ e'.sends = 1 ∧ e'.waited = 0 ∧ e'.lastSent = some w.stamp.round ∧ e'.awaiting = true ∧
          e'.target = some d ∧ e'.priority = e.priority ∧ e'.retry = e.retry ∧
          (e.order.kind = .setDelay → e'.order = .setDelay (some ((w.drop l d).eqd.getD 0))) ∧
          (e.order.kind = .bindLanes → e'.order = .bindLanes (some ((w.leg l).bindList d)) ∧
            e'.binds = ((w.leg l).bindList d).map Prod.snd) ∧
          (e.order.kind ≠ .setDelay → e.order.kind ≠ .bindLanes → e'.order = e.order) ∧
          (w'.drop l d).nextEcho = seq + 1) ∧
      (∀ d, (∀ i ∈ chosen, ∀ e, q[i]? = some e → e.order.kind.echoed = true → e.awaiting = false → e.target ≠ some d) →
        w'.drop l d = w.drop l d) ∧
      (w'.leg l).lanes = (w.leg l).lanes ∧ (w'.leg l).owed = (w.leg l).owed ∧ w'.raised = w.raised

/-- At a round boundary a leg that then is in ON holds the map built in full for the round. Its tail window is the earliest request of R90's
table, with that request's length: a ranging window names a drop that is now RANGING and carries grant beat 7,968, a discovery window an
invitation at beat 7,920 and a schedule begun anew. A probe window is asked for exactly in HUNTING and VERIFYING at a boundary that begins
one of the step's observation rounds, as many from its first one as the probe span says (the rounds between two stamps through a wrap of the
counters: log 20, the model's choice), and a watch gap exactly in rounds that are a multiple of 8, of an armed monitor that asks for no
probe window. The ranging request of a leg that makes no search names, of the entries that were FOUND before the boundary with no SET_DELAY
in the queue or owed, the one with the lowest index. Its bursts lie end to end from beat 0, one at most for a drop, each 16 beats and its
segments' beats long, and all within the beats the window leaves where the FIXED limits hold; a burst's segments rise in lane number and
each is of an ACTIVE lane of its drop, on the lane's port, with the beats that the lane holds as its last grant, and only a drop eligible
for lane grants has segments. The bursts of drops with an ACTIVE FIXED lane come first, in ascending drop index, then the others in rotation
order from the pointer before the build. The no-burst run of a drop is 0 with a burst in the map, and else one higher, up to 8. The refused
drops stand in rotation order from the pointer before the build, the leg's own. The pointer goes to the first drop marked refused in stage 3
or 4 in rotation order, or, with none, to the next non-VACANT drop, if there is another; a mark of R98 behind the second pass moves it not
(R58, R60, R62, R63, R89, R90, R93, R98 to R101, R132; the first of stage 3 and 4 where both marks stand: log 43, the model's choice). -/
def Obligations.FullMapFollowsItsStages : Prop :=
  ∀ s : State, s.blocks.time.part = .ready → ∃ t, exec .roundBoundary s = .next t ∧ ∀ l : Leg, (t.leg l).control.state = .on →
    ∃ m : GrantMap, (t.leg l).keptMap = some m ∧ m.empty = false ∧
      ((t.leg l).requests.watch = true ↔ (t.leg l).monitor.state ≠ .disarmed ∧ (t.leg l).requests.probe = false ∧
        t.blocks.time.round % 8 = 0) ∧
      ((t.leg l).requests.probe = true ↔
        ((t.leg l).monitor.state = .hunting ∨ (t.leg l).monitor.state = .verifying) ∧
          ∃ st first, (t.leg l).monitor.step = some st ∧ st.firstObs = some first ∧
            first.roundsTo t.now < (t.leg l).monitor.settings.probeSpan) ∧
      ((t.leg l).monitor.state = .hunting ∨ (t.leg l).monitor.state = .verifying →
        (t.leg l).requests.ranging = none ∧ (t.leg l).requests.discovery = false) ∧
      (∀ d : Drop, (t.leg l).requests.ranging = some d →
        (s.drop l d).state = .found ∧ (∀ e ∈ (t.leg l).orders, ¬(e.target = some d ∧ e.order.kind = .setDelay)) ∧
          ∀ i ∈ (t.leg l).owed, ¬(i.drop = d ∧ i.kind = .setDelay)) ∧
      (∀ c : Drop, (t.leg l).monitor.state.searching = false → (t.drop l c).state = .found → (t.drop l c).since ≠ t.now →
        (∀ e ∈ (t.leg l).orders, ¬(e.target = some c ∧ e.order.kind = .setDelay)) →
        (∀ i ∈ (t.leg l).owed, ¬(i.drop = c ∧ i.kind = .setDelay)) →
        ∃ d : Drop, (t.leg l).requests.ranging = some d ∧ d < c) ∧
      m.window =
        (if (t.leg l).requests.probe then some ⟨.probe, 256⟩
         else if (t.leg l).requests.ranging.isSome then some ⟨.ranging, (t.leg l).control.settings.reach + 32⟩
         else if (t.leg l).requests.discovery then some ⟨.discovery, (t.leg l).control.settings.reach + 80⟩
         else if (t.leg l).requests.watch then some ⟨.watch, 64⟩
         else none) ∧
      (∀ n, m.window = some ⟨.ranging, n⟩ → ∃ g, m.ranging = some g ∧ (t.leg l).requests.ranging = some g.drop ∧ g.beat = 7968 ∧
        (t.drop l g.drop).state = .ranging ∧ (t.drop l g.drop).since = t.now) ∧
      (∀ n, m.window = some ⟨.discovery, n⟩ →
        m.invitation = some 7920 ∧ (t.leg l).schedule.roundsSince = 0 ∧ (t.leg l).schedule.neverPlaced = false) ∧
      ((∀ n, m.window ≠ some ⟨.ranging, n⟩) → m.ranging = none) ∧ ((∀ n, m.window ≠ some ⟨.discovery, n⟩) → m.invitation = none) ∧
      (m.bursts.map Burst.drop).Nodup ∧
      (∀ b ∈ m.bursts, b.length = 16 + (b.segments.map Segment.beats).sum ∧
        b.segments.Pairwise (fun x y => x.lane < y.lane) ∧
        (b.segments ≠ [] → (t.drop l b.drop).state = .serving ∧ (t.drop l b.drop).sleepCancelled = false ∧
          ∀ e ∈ (t.leg l).orders, ¬(e.target = some b.drop ∧ e.order.kind = .sleep ∧ e.awaiting = true)) ∧
        ∀ g ∈ b.segments, 0 < g.beats ∧ ∃ x, (t.leg l).lanes[g.lane] = some x ∧ x.owner = b.drop ∧ x.port = g.port ∧
          x.state = .active ∧ x.lastGrant = some (t.blocks.time.round, g.beats)) ∧
      (∀ b, m.bursts.head? = some b → b.start = 0) ∧
      (∀ i b c, m.bursts[i]? = some b → m.bursts[i + 1]? = some c → c.start = b.start + b.length) ∧
      m.idleBeats = 8000 - (m.window.map TailWindow.length).getD 0 - (m.bursts.map Burst.length).sum ∧
      (s.MapsOk → (m.bursts.map Burst.length).sum + (m.window.map TailWindow.length).getD 0 ≤ 8000) ∧
      (∃ first others : List Burst,
        let holdsFixed := fun d : Drop =>
          ∃ n x beats, (t.leg l).lanes[(n : Fin 256)] = some x ∧ x.owner = d ∧ x.state = .active ∧ x.figures = .fixed beats
        m.bursts = first ++ others ∧ (∀ b ∈ first, holdsFixed b.drop) ∧ (∀ b ∈ others, ¬holdsFixed b.drop) ∧
        first.Pairwise (fun b c => b.drop < c.drop) ∧
        others.Pairwise (fun b c => b.drop - m.pointerBefore < c.drop - m.pointerBefore)) ∧
      (∀ d : Drop, (s.drop l d).state ≠ .vacant → (t.drop l d).state ≠ .vacant →
        (t.drop l d).noBurst = if d ∈ m.bursts.map Burst.drop then 0 else min ((s.drop l d).noBurst + 1) 8) ∧
      m.pointerBefore = (s.leg l).pointer ∧
      m.refused.Pairwise (fun c d => c - m.pointerBefore < d - m.pointerBefore) ∧
      (t.leg l).pointer = m.pointerAfter ∧
      (∀ d ds, m.refused = d :: ds → (∀ b ∈ m.bursts, b.drop = d → b.segments ≠ []) → m.pointerAfter = d) ∧
      (∃ r : LegRecord, r.pointer = (s.leg l).pointer ∧ r.control.settings = (t.leg l).control.settings ∧ r.orders = (t.leg l).orders ∧
        (∀ d : Drop, r.drops[d].state = (t.drop l d).state) ∧
        (∀ n : Fin 256, (r.lanes[n]).map (fun x => (x.owner, x.port, x.figures, x.state, x.backlog)) =
          ((t.leg l).lanes[n]).map fun x => (x.owner, x.port, x.figures, x.state, x.backlog)) ∧
        m = (fullMap r (fun d => (r.meters[d]).any Meter.overQuota) t.now m.window m.ranging).1 ∧
        let room := 8000 - (m.window.map TailWindow.length).getD 0
        let marked :=
          (((((⟨r.lanes, room, [], [], []⟩ : Build).stage1 r).stage2 r t.now.round).stage3 r).stage4 r).refused
        (∀ d ∈ marked, d ∈ m.refused) ∧
        (∀ i : Fin 128, r.pointer + i ∈ marked → (∀ j : Fin 128, j < i → r.pointer + j ∉ marked) → m.pointerAfter = r.pointer + i) ∧
        (marked = [] →
          (∀ k : Fin 128, 0 < k → (t.drop l (r.pointer + k)).state ≠ .vacant →
            (∀ j : Fin 128, 0 < j → j < k → (t.drop l (r.pointer + j)).state = .vacant) → m.pointerAfter = r.pointer + k) ∧
          ((∀ d : Drop, d ≠ r.pointer → (t.drop l d).state = .vacant) → m.pointerAfter = r.pointer))) ∧
      (m.refused = [] →
        (∀ k : Fin 128, 0 < k → (t.drop l (m.pointerBefore + k)).state ≠ .vacant →
          (∀ j : Fin 128, 0 < j → j < k → (t.drop l (m.pointerBefore + j)).state = .vacant) →
          m.pointerAfter = m.pointerBefore + k) ∧
        ((∀ d : Drop, d ≠ m.pointerBefore → (t.drop l d).state = .vacant) → m.pointerAfter = m.pointerBefore))

/-- The grants of a full build for A beats. A lane that is not ACTIVE, or whose drop is not eligible for lane grants, is granted nothing
(R99, R100); eligible is a SERVING drop that is not sleep-cancelled and has no SLEEP awaiting its echo. An ACTIVE FIXED lane of an eligible
drop is granted its fixed beats whatever else is asked (R91). A drop wants a keepalive in TRIMMING, in AWAITING and SERVING with a no-burst
run of 8, in DORMANT with its wake check due, and, in FOUND, TRIMMING, AWAITING, SERVING and DORMANT, where an echoed order to it that was
first sent before the round being built awaits its echo (R55, R92, R93). It then holds a burst, unless the 64 bursts or the room ran out:
behind the drops with FIXED lanes, ascending, those that want a keepalive take theirs in ascending drop index, 16 beats each, as long as 16
beats and one of the 64 places are left (R91, R92). An ACTIVE ASSURED lane of an eligible drop accrues its rate, to at most twice the rate;
it is granted no more than its credit, its backlog and its peak cap, exactly the least of them if its drop is not refused, and its credit
falls by the grant; the lanes are taken in rotation order, and one that does not fit has the rest of the room, its drop refused (R94, R95).
A drop with an ACTIVE SURPLUS lane with backlog holds a burst or is refused: of those without a burst as many are admitted in rotation order
as the 64 bursts and 32 beats of room for each allow (R96). A SURPLUS lane is granted no more than its backlog and its peak cap, and, for an
owner not over quota that holds a burst, no less than its share of the first pass cut to those; an over-quota owner's SURPLUS grants come to
at most the up-throttle. A SURPLUS grant is the share of the first pass, cut to headroom and allowance, and, where nothing cut it, the share
of what is left over by the second (R97, R98). The bursts of a map lie end to end from its first beat in placement order, each 16 beats and
its segments' beats long (R99). -/
def Obligations.GrantStagesShareTheRoom : Prop :=
  (∀ (r : LegRecord) (isOver : Drop → Bool) (k A : Nat),
    let b := buildGrants r isOver k A
    let fixedOf := fun d : Drop => allLanes.filterMap fun n =>
      match r.lanes[n] with
      | some x => if x.owner = d ∧ x.state = .active then (match x.figures with | .fixed beats => some beats | _ => none) else none
      | none => none
    let fixed := allDrops.filter fun d => r.eligible d && !(fixedOf d).isEmpty
    let left := A - (fixed.map fun d => 16 + (fixedOf d).sum).sum
    let kept := (allDrops.filter fun d => r.wantsKeepalive k d && !(fixed.contains d)).take (min (64 - fixed.length) (left / 16))
    let second := ((⟨r.lanes, A, [], [], []⟩ : Build).stage1 r).stage2 r k
    let third := second.stage3 r
    let admitted := third.stage4 r
    let sharing := r.surplusLanes.filter fun x => admitted.holders.contains x.2.owner
    let weight := fun x : Lane => (x.surplus?.getD (0, 0)).1
    let weights := (sharing.map fun x => weight x.2).sum
    let order := allDrops.map fun i => r.pointer + i
    let asking := order.filter fun d => (r.surplusLanes.any fun x => x.2.owner == d) && !(third.holders.contains d)
    let places := min (64 - third.holders.length) ((third.room - 16) / 16)
    (∀ n : Fin 256, (∀ x, r.lanes[n] = some x → ¬(x.state = .active ∧ r.eligible x.owner = true)) → b.beats n = 0) ∧
    (∀ d : Drop, r.eligible d = true ↔ r.drops[d].state = .serving ∧ r.drops[d].sleepCancelled = false ∧
      ∀ e ∈ r.orders, ¬(e.target = some d ∧ e.order.kind = .sleep ∧ e.awaiting = true)) ∧
    (∀ d : Drop, r.wantsKeepalive k d = true ↔
      r.drops[d].state = .trimming ∨
        (r.drops[d].state = .awaiting ∨ r.drops[d].state = .serving) ∧ 8 ≤ r.drops[d].noBurst ∨
        r.drops[d].state = .dormant ∧ r.drops[d].wakeCount = some 0 ∨
        (r.drops[d].state = .found ∨ r.drops[d].state = .trimming ∨ r.drops[d].state = .awaiting ∨
            r.drops[d].state = .serving ∨ r.drops[d].state = .dormant) ∧
          ∃ e ∈ r.orders, e.target = some d ∧ e.awaiting = true ∧ (2 ≤ e.sends ∨ e.lastSent ≠ some k)) ∧
    second.holders = fixed ++ kept ∧ second.room = left - 16 * kept.length ∧
    (∀ d : Drop, r.wantsKeepalive k d = true → d ∈ b.holders ∨ 64 ≤ b.holders.length ∨ b.room < 16) ∧
    (∀ (n : Fin 256) (x : Lane), r.lanes[n] = some x → x.state = .active → r.eligible x.owner = true →
      (∀ beats, x.figures = .fixed beats → x.owner ∈ b.holders ∧ b.beats n = beats) ∧
      (∀ rate peak credit, x.figures = .assured rate peak → x.credit = some credit →
        b.beats n ≤ min (min (credit + rate) (2 * rate)) (min ((x.backlog + 3) / 4) peak) ∧
        (x.owner ∉ b.refused → b.beats n = min (min (credit + rate) (2 * rate)) (min ((x.backlog + 3) / 4) peak)) ∧
        (0 < b.beats n → x.owner ∈ b.holders) ∧
        b.lanes[n] = some { x with credit := some (min (credit + rate) (2 * rate) - b.beats n) }) ∧
      (∀ weight peak, x.figures = .surplus weight peak →
        b.beats n ≤ min ((x.backlog + 3) / 4) peak ∧
        (0 < x.backlog → x.owner ∈ b.holders ∨ x.owner ∈ b.refused) ∧
        (0 < x.backlog → x.owner ∈ b.holders → isOver x.owner = false →
          min (admitted.room * weight / weights) (min ((x.backlog + 3) / 4) peak) ≤ b.beats n))) ∧
    (∀ d : Drop, isOver d = true →
      ((allLanes.filter fun n => (r.lanes[n]).any fun x => x.owner == d && x.surplus?.isSome).map b.beats).sum ≤
        r.control.settings.upThrottle) ∧
    third =
      (order.flatMap fun d =>
        if r.eligible d then
          allLanes.filter fun n => r.lanes[n].any fun x => decide (x.owner = d ∧ x.state = .active)
        else []).foldl Build.assured
        { second with
          lanes := second.lanes.map fun o => o.map fun x =>
            match x.figures with
            | .assured rate _ =>
              if x.state = .active ∧ r.eligible x.owner = true then
                { x with credit := x.credit.map fun c => min (c + rate) (2 * rate) }
              else x
            | _ => x } ∧
    b.holders = third.holders ++ asking.take places ∧ admitted.room = third.room - 16 * (asking.take places).length ∧
    (∀ d : Drop, d ∈ b.refused ↔
      d ∈ third.refused ∨ d ∈ asking.drop places ∨
        d ∈ asking.take places ∧ ∀ n x, r.lanes[(n : Fin 256)] = some x → x.owner = d → b.beats n = 0) ∧
    ∃ first : Fin 256 → Nat, ∀ (n : Fin 256) (x : Lane), (n, x) ∈ sharing →
      let share := fun y : Lane => admitted.room * weight y / weights
      let headroom := min ((x.backlog + 3) / 4) (x.surplus?.getD (0, 0)).2
      let leftover := admitted.room - (sharing.map fun y => first y.1).sum
      let uncapped := sharing.filter fun y => decide (share y.2 ≤ first y.1)
      let extra := min (leftover * weight x / (uncapped.map fun y => weight y.2).sum) (headroom - first n)
      let mine := sharing.filter fun y => y.2.owner == x.owner
      let before := mine.filter fun y => decide (y.1 < n)
      let rest := mine.filter fun y => decide (n ≤ y.1)
      first n =
        (if isOver x.owner then
          min (min (share x) headroom) (r.control.settings.upThrottle - (before.map fun y => first y.1).sum)
        else min (share x) headroom) ∧
      b.beats n = first n +
        if first n < share x then 0
        else if isOver x.owner then
          min extra (r.control.settings.upThrottle - ((before.map fun y => b.beats y.1).sum + (rest.map fun y => first y.1).sum))
        else extra) ∧
  (∀ (b : Build) (n : Fin 256) (x : Lane) (rate peak : Nat), b.lanes[n] = some x → x.figures = .assured rate peak →
    let want := min (x.credit.getD 0) (min ((x.backlog + 3) / 4) peak)
    let opening := if x.owner ∈ b.holders then 0 else 16
    let mark := if x.owner ∈ b.refused then b.refused else b.refused ++ [x.owner]
    let granted := fun beats : Nat => ({
      lanes := b.lanes.set n.val (some { x with credit := x.credit.map fun c => c - beats })
      room := b.room - (beats + opening)
      holders := if x.owner ∈ b.holders then b.holders else b.holders ++ [x.owner]
      grants := b.grants ++ [(n, beats)], refused := b.refused } : Build)
    (want = 0 → b.assured n = b) ∧
    (want ≠ 0 → x.owner ∉ b.holders → 64 ≤ b.holders.length → b.assured n = { b with refused := mark }) ∧
    (want ≠ 0 → x.owner ∈ b.holders ∨ b.holders.length < 64 →
      (want + opening ≤ b.room → b.assured n = granted want) ∧
      (b.room < want + opening → opening < b.room →
        b.assured n = { granted (b.room - opening) with room := 0, refused := mark }) ∧
      (b.room < want + opening → b.room ≤ opening → b.assured n = { b with refused := mark }))) ∧
  (∀ (segs : Drop → List Segment) (start : Nat) (ds : List Drop),
    (layBursts segs start ds).map Burst.drop = ds ∧
    (∀ b ∈ layBursts segs start ds, b.length = 16 + (b.segments.map Segment.beats).sum ∧ b.segments = segs b.drop) ∧
    (∀ b, (layBursts segs start ds).head? = some b → b.start = start) ∧
    (∀ i b c, (layBursts segs start ds)[i]? = some b → (layBursts segs start ds)[i + 1]? = some c →
      c.start = b.start + b.length))

/-- At a round boundary each leg that then is in PREPARING, ON or RETIMING begins a downstream round: its header carries the round's number,
the band in force, the byte of the announcement block for the round, at most 8 orders, and the invitation, the ranging entry and the bursts
of the map just built; header and frames fit the 128,000 byte times, and PREPARING sends no frame. Behind the header the frames lie end to
end, each 4 byte times of head and its data bytes, and every byte time behind the last frame carries fill of value 0 to the end of the round
(R157). The map goes to the receiver with the reach span of its round, nothing of it judged, and its receive frame starts that span and 128
beats into the round. A leg in another state assembles nothing (R5, R10, R45, R89, R155, R156, R157, R161). -/
def Obligations.RoundIsAssembled : Prop :=
  ∀ s : State, s.blocks.time.part = .ready → ∃ t, exec .roundBoundary s = .next t ∧ ∀ l : Leg,
    ((t.leg l).control.state.live = true → ∃ (m : GrantMap) (round : DownstreamRound),
      (t.leg l).keptMap = some m ∧ (t.leg l).sending = some round ∧
      (∃ x, (t.leg l).inFlight.getLast? = some x ∧ x.map = m ∧ x.reach = (t.leg l).control.settings.reach ∧ x.judged = 0 ∧
        x.windowDone = false ∧ x.reachChanged = false ∧
        (s.blocks.time.Ok → x.reach ≤ 6250 → x.moment 0 = (t.now, x.reach + 128))) ∧
      m.round = t.now ∧ round.header.round = t.blocks.time.round ∧ round.header.band = t.blocks.band ∧
      (t.leg l).block[t.blocks.time.round % 64]? = some round.header.announce ∧
      round.header.invitation = m.invitation ∧ round.header.ranging = m.ranging ∧ round.header.bursts = m.bursts ∧
      round.header.orders.length ≤ 8 ∧
      16 + (if round.header.invitation.isSome then 4 else 0) + (if round.header.ranging.isSome then 12 else 0) +
          24 * round.header.orders.length + (m.bursts.map fun b => 4 + 3 * b.segments.length).sum + 4 +
          (round.frames.map fun f => f.data.length + 4).sum ≤ 128000 ∧
      round.header.length =
        16 + (if round.header.invitation.isSome then 4 else 0) + (if round.header.ranging.isSome then 12 else 0) +
          24 * round.header.orders.length + (m.bursts.map fun b => 4 + 3 * b.segments.length).sum + 4 ∧
      (∀ (before after : List Frame) (f : Frame), round.frames = before ++ f :: after →
        let start := (before.map fun x => x.data.length + 4).sum
        (∀ i, i < 4 → round.payloadAt (start + i) = some (.head f.drop f.surplus f.data.length i)) ∧
        ∀ i, (h : i < f.data.length) → round.payloadAt (start + 4 + i) = some (.data f.data[i])) ∧
      (∀ i, (round.frames.map fun x => x.data.length + 4).sum ≤ i → round.header.length + i < 128000 →
        round.payloadAt i = some (.fill 0)) ∧
      (∀ i, 128000 ≤ round.header.length + i → round.payloadAt i = none) ∧
      ((t.leg l).control.state = .preparing → round.frames = []) ∧
      ((t.leg l).control.state ≠ .on → m = emptyMap (t.leg l).pointer t.now)) ∧
    ((t.leg l).control.state.live = false → (t.leg l).sending = (s.leg l).sending ∧ (t.leg l).inFlight = (s.leg l).inFlight)

/-- A downstream frame that holds data, whose tag and length agree, is appended to the FIFO of its leg while the leg sends headers
and the FIFO has room; one of no data and any other is discarded and counted, and nothing else changes (R162, R163, R209). A round
is filled from the FIFO's head with every allowance at the leg's down-throttle (R164, R165): the frames sent keep the FIFO's order
and fit the room, each with 4 byte times beside its data, and a tail of the FIFO stays queued (R157). Of the frame at the head:
one whose drop takes no frames or has no meter is discarded and counted; a SURPLUS frame of an over-quota drop that exceeds what
is left of its allowance is shed into the meter's shed counter; one that does not fit ends the fill; any other is sent and charged
downstream in the band in force, and a SURPLUS one of an over-quota drop draws on its allowance (R164 to R166). -/
def Obligations.DownstreamFramesQueueAndFillRounds : Prop :=
  (∀ (tag : BitVec 32) (data : List Byte) (l : Leg) (s : State), tagLeg tag = l →
    (tagDown tag = true → data ≠ [] → data.length = tagLength tag → (s.leg l).control.state.live = true →
      ((s.leg l).fifo.map fun f => f.data.length + 4).sum + data.length + 4 ≤ 262144 →
      exec (.downstreamFrameArrival tag data) s =
        .next ((s.mapLeg l fun r => { r with fifo := r.fifo ++ [⟨tagDrop tag, tagSurplus tag, data⟩] }).notify [])) ∧
    ((s.leg l).control.state.live = false ∨ data = [] ∨ data.length ≠ tagLength tag ∨ tagDown tag = false ∨
        262144 < ((s.leg l).fifo.map fun f => f.data.length + 4).sum + data.length + 4 →
      exec (.downstreamFrameArrival tag data) s =
        .next ((s.mapLeg l fun r =>
          { r with stats := { r.stats with downDiscarded := min (r.stats.downDiscarded + 1) 4294967295 } }).notify []))) ∧
  (∀ (l : Leg) (fs : List Frame) (room : Nat) (w : Work),
    let out := fillFrames l fs room [] w
    (out.2.1.map fun f => f.data.length + 4).sum ≤ room ∧ out.2.1.Sublist fs ∧ out.2.2 <:+ fs) ∧
  (∀ (l : Leg) (room : Nat) (w : Work),
    let out := fillFrames l (w.leg l).fifo room []
      (w.mapLeg l fun r => { r with allowance := Vector.replicate 128 r.control.settings.downThrottle })
    (w.fill l room).2 = out.2.1 ∧ (w.fill l room).1 = out.1.mapLeg l fun r => { r with fifo := out.2.2 }) ∧
  (∀ (l : Leg) (f : Frame) (fs sent : List Frame) (room : Nat) (w : Work),
    let takes := (w.drop l f.drop).state = .serving ∨ (w.drop l f.drop).state = .dormant ∨ (w.drop l f.drop).state = .hushed ∨
      (w.drop l f.drop).state = .quarantined
    (¬takes ∨ w.meter l f.drop = none →
      fillFrames l (f :: fs) room sent w =
        fillFrames l fs room sent
          (w.mapStats l fun x => { x with downDiscarded := min (x.downDiscarded + 1) 4294967295 })) ∧
    (∀ m : Meter, takes → w.meter l f.drop = some m →
      (f.surplus = true → m.overQuota = true → (w.leg l).allowance[f.drop] < f.data.length →
        ∃ w', fillFrames l (f :: fs) room sent w = fillFrames l fs room sent w' ∧
          (w'.leg l).allowance = (w.leg l).allowance ∧ w'.raised = w.raised ∧
          ∃ m', w'.meter l f.drop = some m' ∧ m'.shed = min (m.shed + f.data.length) 1099511627775 ∧ m'.up = m.up ∧
            m'.down = m.down ∧ m'.quotaUsed = m.quotaUsed) ∧
      (¬(f.surplus = true ∧ m.overQuota = true ∧ (w.leg l).allowance[f.drop] < f.data.length) →
        (room < f.data.length + 4 → fillFrames l (f :: fs) room sent w = (w, sent, f :: fs)) ∧
        (f.data.length + 4 ≤ room →
          ∃ w', fillFrames l (f :: fs) room sent w = fillFrames l fs (room - (f.data.length + 4)) (sent ++ [f]) w' ∧
            (f.surplus = true → m.overQuota = true →
              (w'.leg l).allowance = (w.leg l).allowance.set f.drop.val ((w.leg l).allowance[f.drop] - f.data.length)) ∧
            (¬(f.surplus = true ∧ m.overQuota = true) → (w'.leg l).allowance = (w.leg l).allowance) ∧
            ∃ m', w'.meter l f.drop = some m' ∧
              m'.down[w.blocks.band] = min (m.down[w.blocks.band] + f.data.length) 1099511627775 ∧ m'.up = m.up ∧
              m'.shed = m.shed))))

/-! ### What a boundary brings one record -/

/-- A LOST entry whose hold has one round left, or a HUSHED one whose resume state LOST keeps such a hold, retires at the
boundary. Without a meter, or with one that holds no usage, it becomes VACANT at once; with usage and room in the journal the
close is written with cause RETIRE and it becomes VACANT; with usage and no room it stays RETIRING with reason HOLD_EXPIRED and
its meter HELD for a RETIRE close, and a meter HELD for a continuing close is HELD for the ending one from then on, at its own
stamp. Its lanes and orders are gone, it leaves the search its leg may make, and the other legs stay (R33 to R35, R145, R147,
R179, R182; a step in progress counted as taken: log 54, the model's choice). The command, given before the boundary, does what
that boundary would do to the entry, with the stamp of the round that begins (log 2, the model's choice). The round boundary
itself lowers such a hold by 1 while more than 1 is left, the entry LOST or HUSHED still unless a HUSH_SET or an UNHUSH_ALL of
that boundary turns it, and with 1 left retires the entry (R33). -/
def Obligations.LostHoldExpires : Prop :=
  (∀ (l : Leg) (d : Drop) (n : Nat) (s : State), s.blocks.time.part = .ready → n ≤ 1 →
    ((s.drop l d).state = .lost ∧ (s.drop l d).hold = some n ∨
      (s.drop l d).state = .hushed ∧ ∃ back, (s.drop l d).resume = some back ∧ back.state = .lost ∧ back.hold = some n) →
    ∃ t, exec (.lostHoldExpiry l d) s = .next t ∧
      (∀ k x, (t.leg l).lanes[(k : Fin 256)] = some x → x.owner ≠ d) ∧
      (∀ e ∈ (t.leg l).orders, e.target ≠ some d) ∧ (∀ i ∈ (t.leg l).owed, i.drop ≠ d) ∧
      (∀ k : Leg, k ≠ l → t.leg k = s.leg k) ∧ SearchLeft s t l d s.boundary ∧
      ((s.leg l).monitor.state.searching = false → ∀ c : Drop, c ≠ d → t.drop l c = s.drop l c) ∧
      (s.meter l d = none ∨ (∃ m, s.meter l d = some m ∧ m.usage = false ∧
          (m.pending = none ∨ ∃ was at', m.pending = some (was, at') ∧ (was = .period ∨ was = .host))) →
        t.drop l d = DropEntry.vacant s.boundary ∧ t.meter l d = none ∧ t.blocks.journal = s.blocks.journal) ∧
      (∀ m, s.meter l d = some m → m.pending = none → m.usage = true →
        (s.blocks.journal.room = true →
          t.drop l d = DropEntry.vacant s.boundary ∧ t.meter l d = none ∧
          t.blocks.journal.entries = s.blocks.journal.entries ++
            [{ seq := s.blocks.journal.nextSeq, account := m.account, leg := l, drop := d, start := m.start, stop := s.boundary
               up := m.up, down := m.down, shed := m.shed, cause := .retire, flags := m.flags }]) ∧
        (s.blocks.journal.room = false →
          (t.drop l d).state = .retiring ∧ (t.drop l d).reason = some (.retire .holdExpired) ∧ (t.drop l d).hold = none ∧
          (t.drop l d).since = s.boundary ∧ t.blocks.journal = s.blocks.journal ∧
          t.meter l d = some { m with pending := some (.retire, s.boundary), flags := { m.flags with extended := true } })) ∧
      (∀ m was at', s.meter l d = some m → m.pending = some (was, at') → was = .period ∨ was = .host → m.usage = true →
        (t.drop l d).state = .retiring ∧ (t.drop l d).reason = some (.retire .holdExpired) ∧
        t.blocks.journal = s.blocks.journal ∧ t.meter l d = some { m with pending := some (.retire, at') })) ∧
  (∀ (l : Leg) (d : Drop) (n : Nat) (s : State), s.blocks.time.part = .ready → s.blocks.time.Ok → (s.drop l d).lostHold = some n →
    ∃ t, exec .roundBoundary s = .next t ∧
      (2 ≤ n → (t.drop l d).lostHold = some (n - 1) ∧
        ((s.drop l d).state = .lost → (∀ set span, MonitorAsk.stepHush set span ∈ (s.leg l).monitor.asks → d ∉ set) →
          (t.drop l d).state = .lost ∧ (t.drop l d).hold = some (n - 1) ∧ (t.drop l d).reason = (s.drop l d).reason ∧
          (t.drop l d).since = (s.drop l d).since) ∧
        ((s.drop l d).state = .hushed → (s.leg l).monitor.asks = [] → (s.leg l).monitor.state.searching = false →
          (t.drop l d).state = .hushed ∧ (t.drop l d).since = (s.drop l d).since ∧
          (t.drop l d).resume = (s.drop l d).resume.map fun back => { back with hold := some (n - 1) })) ∧
      (n ≤ 1 →
        ((t.drop l d).state = .vacant ∨
          (t.drop l d).state = .retiring ∧ (t.drop l d).reason = some (.retire .holdExpired) ∧ (t.drop l d).since = s.boundary) ∧
        (∀ k x, (t.leg l).lanes[(k : Fin 256)] = some x → x.owner ≠ d) ∧
        (∀ e ∈ (t.leg l).orders, e.target ≠ some d) ∧ (∀ i ∈ (t.leg l).owed, i.drop ≠ d) ∧
        (∀ cs, (t.leg l).monitor.state = .hunting → (t.leg l).monitor.candidates = some cs → d ∉ cs) ∧
        ((t.leg l).monitor.state = .verifying → (t.leg l).monitor.suspectDrop ≠ some d) ∧
        (s.meter l d = none → t.drop l d = DropEntry.vacant s.boundary ∧ t.meter l d = none) ∧
        (∀ m, s.meter l d = some m → m.pending = none →
          (m.usage = false ∨
              s.blocks.journal.entries.length + 512 ≤ 1024 ∧ s.blocks.journal.nextSeq + 512 ≤ 4294967296 →
            t.drop l d = DropEntry.vacant s.boundary ∧ t.meter l d = none) ∧
          (m.usage = true → s.blocks.journal.room = false →
            (t.drop l d).state = .retiring ∧ ∃ at', (t.meter l d).bind Meter.pending = some (.retire, at')))))

/-- A boundary at which R59's conditions hold asks for a discovery window, and one at which a DORMANT entry's countdown reaches 0
leaves it at 0 for the wake check; each changes that alone (R59, R123; log 2). A SUSPECT monitor whose confirm window has passed
returns to WATCHING with its span going on, and a hold-off with one round left ends in WATCHING with a fresh span, a learning one
if the relearn flag is set or there is no reference; nothing else changes (R135, R140, R149). A round boundary itself counts
these: the rounds since the last discovery window rise by 1 to 4,096, or start from 0 where the round of a leg in ON carries one,
which is asked for exactly under R59's conditions (R58, R59); at a full build a DORMANT entry's countdown falls by 1 and starts
again where the drop holds a burst, and at 0 the drop has that burst unless the 64 bursts or the room ran out (R92, R123; stated
of a drop none of whose orders awaits its echo, with no order asked for by the monitor); a hold-off falls by 1 and ends at the
boundary as above, a step's rounds elapsed rise by 1, and a SUSPECT monitor turns WATCHING once its confirm window has passed and
not before (R130, R140, R142, R149). -/
def Obligations.BoundaryChecksFallDue : Prop :=
  (∀ (l : Leg) (s : State), s.blocks.time.part = .ready → (s.leg l).control.state = .on →
    ((s.leg l).control.settings.discovery ≠ 0 → (s.leg l).monitor.state.searching = false →
      (∃ d : Drop, (s.drop l d).state = .vacant ∨ (s.drop l d).state = .lost) →
      ((s.leg l).schedule.neverPlaced = true ∨
        (s.leg l).control.settings.discovery ≤ min ((s.leg l).schedule.roundsSince + 1) 4096 ∨
        ((s.leg l).schedule.quickRetry = true ∧ 7 ≤ (s.leg l).schedule.roundsSince)) →
      exec (.discoveryDue l) s =
        .next ((s.mapLeg l fun r => { r with requests := { r.requests with discovery := true } }).notify [])) ∧
    (∀ d : Drop, (s.drop l d).state = .dormant → (s.drop l d).wakeCount = some 1 →
      exec (.wakeCheckDue l d) s =
        .next ((s.mapLeg l fun r => { r with drops := r.drops.set d.val { s.drop l d with wakeCount := some 0 } }).notify []))) ∧
  (∀ (l : Leg) (s : State), s.blocks.time.part = .ready →
    (∀ first, (s.leg l).monitor.state = .suspect → (s.leg l).monitor.suspicion = some first →
      (s.leg l).monitor.settings.confirmWindow < first.roundsTo s.boundary →
      exec (.suspectTimeout l) s =
        .next ((s.mapLeg l fun r => { r with monitor := { r.monitor with state := .watching, suspicion := none } }).notify [])) ∧
    (∀ n, (s.leg l).monitor.state = .holdoff → (s.leg l).monitor.holdOffLeft = some n → n ≤ 1 →
      (s.leg l).control.state ≠ .retiming →
      exec (.holdoffExpiry l) s =
        .next
          ((s.mapLeg l fun r =>
            { r with
              monitor :=
                { r.monitor with
                  state := .watching, relearn := false, suspicion := none, suspectDrop := none, candidates := none, step := none
                  keptCounts := none, holdOffLeft := none
                  span := some
                    { position := 0, learning := r.monitor.relearn || r.monitor.reference.isNone, counts := ⟨0, 0, 0, 0⟩
                      sampleSum := 0, sampleCount := 0, tailDrop := none, mixed := false
                      countFrom := s.boundary.next } } }).notify []))) ∧
  (∀ (l : Leg) (s : State), s.blocks.time.part = .ready → s.blocks.time.Ok → ∃ t, exec .roundBoundary s = .next t ∧
    (let placed := (t.leg l).control.state = .on ∧ ∃ m n, (t.leg l).keptMap = some m ∧ m.window = some ⟨.discovery, n⟩
     let since := min ((s.leg l).schedule.roundsSince + 1) 4096
     (t.leg l).schedule.quickRetry = (s.leg l).schedule.quickRetry ∧
     (placed → (t.leg l).schedule.roundsSince = 0 ∧ (t.leg l).schedule.neverPlaced = false) ∧
     (¬placed → (t.leg l).schedule.roundsSince = since ∧ (t.leg l).schedule.neverPlaced = (s.leg l).schedule.neverPlaced) ∧
     ((t.leg l).control.state = .on →
       ((t.leg l).requests.discovery = true ↔
         (t.leg l).control.settings.discovery ≠ 0 ∧ (t.leg l).monitor.state.searching = false ∧
         (∃ d : Drop, (t.drop l d).state = .vacant ∨ (t.drop l d).state = .lost) ∧
         ((s.leg l).schedule.neverPlaced = true ∨ (s.leg l).control.settings.discovery ≤ since ∨
           (s.leg l).schedule.quickRetry = true ∧ 8 ≤ since)))) ∧
    (∀ d : Drop, (s.drop l d).state = .dormant → (∀ e ∈ (s.leg l).orders, e.target = some d → e.awaiting = false) →
      (s.leg l).monitor.asks = [] →
      (t.drop l d).state = .dormant ∧ (t.drop l d).wakeInterval = (s.drop l d).wakeInterval ∧
      ((t.leg l).control.state ≠ .on → (t.drop l d).wakeCount = (s.drop l d).wakeCount) ∧
      ((t.leg l).control.state = .on → ∃ m, (t.leg l).keptMap = some m ∧
        ((∃ b ∈ m.bursts, b.drop = d) → (t.drop l d).wakeCount = (s.drop l d).wakeInterval) ∧
        ((∀ b ∈ m.bursts, b.drop ≠ d) → (t.drop l d).wakeCount = (s.drop l d).wakeCount.map fun n => n - 1) ∧
        (∀ n, (s.drop l d).wakeCount = some n → n ≤ 1 →
          (∃ b ∈ m.bursts, b.drop = d) ∨ 64 ≤ m.bursts.length ∨ m.idleBeats < 16))) ∧
    (∀ n, (s.leg l).monitor.state = .holdoff → (s.leg l).monitor.holdOffLeft = some n →
      (2 ≤ n → (t.leg l).monitor.state = .holdoff ∧ (t.leg l).monitor.holdOffLeft = some (n - 1)) ∧
      (n ≤ 1 → (s.leg l).control.state ≠ .retiming →
        (t.leg l).monitor.state = .watching ∧ (t.leg l).monitor.holdOffLeft = none ∧ (t.leg l).monitor.relearn = false ∧
        (t.leg l).monitor.span = some
          { position := 0, learning := (s.leg l).monitor.relearn || (s.leg l).monitor.reference.isNone, counts := ⟨0, 0, 0, 0⟩
            sampleSum := 0, sampleCount := 0, tailDrop := none, mixed := false, countFrom := s.boundary.next })) ∧
    (∀ st, (s.leg l).monitor.state.searching = true → (s.leg l).monitor.step = some st →
      (t.leg l).monitor.state = (s.leg l).monitor.state →
      ∃ first, (t.leg l).monitor.step = some { st with elapsed := st.elapsed + 1, firstObs := first } ∧
        (first = st.firstObs ∨ first = some s.boundary.next)) ∧
    (∀ first, (s.leg l).monitor.state = .suspect → (s.leg l).monitor.suspicion = some first →
      (s.leg l).control.state ≠ .retiming → (t.leg l).monitor.span = (s.leg l).monitor.span ∧
      ((s.leg l).monitor.settings.confirmWindow < first.roundsTo s.boundary →
        (t.leg l).monitor.state = .watching ∧ (t.leg l).monitor.suspicion = none) ∧
      (first.roundsTo s.boundary ≤ (s.leg l).monitor.settings.confirmWindow →
        (t.leg l).monitor.state = .suspect ∧ (t.leg l).monitor.suspicion = some first)))

/-- On a leg in ON, an order sent fewer than three times that has waited three rounds for the echo of a drop not HUSHED, and was last sent
before the round that begins, has waited four at the boundary; every other order and all else stay (R50 case 1; log 2). An order sent three
times whose echo has not come in four rounds fails: ORDER_FAILED is raised with its outcome; a STEP_POWER to a SERVING drop leaves the queue
and makes the drop marginal, one to a TRIMMING drop ends its trim as marginal; a first BIND_LANES to a SERVING, AWAITING or DORMANT drop is
replaced in its place by its retry at LOW priority, beside another BIND_LANES of the drop that is QUEUED, and a retried one makes the drop
LOST, SILENT, as a WAKE does one in DORMANT or SERVING; a SET_DELAY makes a FOUND drop LOST, with the hold and the reason it saved, or
NO_RANGING; a SLEEP leaves the drop SERVING and takes the WAKE of a cancelled sleep with it; in any other state the order leaves and the
drop stays, and a HUSHED drop's orders do not fail (R50 to R52, R122; the retry beside a QUEUED one: log 41, the model's choice). The round
boundary itself counts the waits and carries out both limits (R50, R51). What found no room asks again, the monitor's orders before the
owed-order list, each list oldest first: what has room is queued, a step's HUSH_SET with R144's effect on the drops, its UNHUSH_ALL with the
return of the HUSHED ones, a BIND_LANES is absorbed by one QUEUED, and what finds no room stays in its place (R43, R44, R67, R142, R144; a
trim step held while HUSHED is counted at the return: log 38, the model's choice). That an order that is not urgent needs a place among the
40 and one of the 48 as well, so that an owed order stays at 48 orders though fewer than 40 plain ones stand there, is the model's choice
(log 28), and so is it that an UNHUSH_ALL of a verdict or a disarming that found no place is asked for alone, its HUSHED entries having
returned before (log 51). -/
def Obligations.OrdersAreRetriedResentOrFail : Prop :=
  (∀ (l : Leg) (d : Drop) (s : State), s.blocks.time.part = .ready → (s.leg l).control.state = .on →
    (s.drop l d).state ≠ .hushed → ∃ q : List OrderEntry,
      exec (.echoWaitResendDue l d) s = .next ((s.mapLeg l fun r => { r with orders := q }).notify []) ∧
      q.length = (s.leg l).orders.length ∧
      ∀ (i : Nat) (e : OrderEntry), (s.leg l).orders[i]? = some e →
        (e.target = some d ∧ e.awaiting = true ∧ e.lastSent ≠ some s.boundary.round ∧ 3 ≤ e.waited ∧ e.sends < 3 →
          q[i]? = some { e with waited := 4 }) ∧
        (¬(e.target = some d ∧ e.awaiting = true ∧ e.lastSent ≠ some s.boundary.round ∧ 3 ≤ e.waited ∧ e.sends < 3) →
          q[i]? = some e)) ∧
  (∀ (l : Leg) (d : Drop) (a b : List OrderEntry) (e : OrderEntry) (s : State), s.blocks.time.part = .ready →
    (s.leg l).control.state = .on → (s.leg l).orders = a ++ e :: b →
    e.target = some d → e.awaiting = true → e.lastSent ≠ some s.boundary.round → 3 ≤ e.waited → 3 ≤ e.sends →
    (∀ x ∈ a ++ b, x.target = some d → x.awaiting = false) →
    (∀ step, (s.drop l d).state = .serving → e.order = .stepPower step →
      exec (.orderFailed l d) s =
        .next
          ((s.mapLeg l fun r =>
            { r with orders := a ++ b, drops := r.drops.set d.val { s.drop l d with marginal := true, outOfBand := 0 } }).notify
            [⟨some l, some d, s.boundary, .orderFailed .stepPower e.seq .marginal⟩])) ∧
    (∀ step, (s.drop l d).state = .trimming → e.order = .stepPower step →
      ∃ t, exec (.orderFailed l d) s = .next t ∧ (t.drop l d).marginal = true ∧ (t.drop l d).power = (s.drop l d).power ∧
        ((t.drop l d).state = .serving ∨ (t.drop l d).state = .awaiting) ∧
        (∀ c : Drop, c ≠ d → t.drop l c = s.drop l c) ∧ ∀ k : Leg, k ≠ l → t.leg k = s.leg k) ∧
    (∀ (why : LostReason) (hold : Nat),
      (s.drop l d).state = .found ∧ e.order.kind = .setDelay ∧
          ((s.drop l d).origin = some (.reused hold why) ∨
            (∀ h w, (s.drop l d).origin ≠ some (.reused h w)) ∧ why = .noRanging ∧
              hold = (s.leg l).control.settings.lostHold * 4096) ∨
        ((s.drop l d).state = .dormant ∨ (s.drop l d).state = .serving) ∧ e.order.kind = .wake ∧ why = .silent ∧
          hold = (s.leg l).control.settings.lostHold * 4096 ∨
        ((s.drop l d).state = .awaiting ∨ (s.drop l d).state = .serving ∨ (s.drop l d).state = .dormant) ∧
          e.order.kind = .bindLanes ∧ e.retry = true ∧ why = .silent ∧
          hold = (s.leg l).control.settings.lostHold * 4096 →
      (s.leg l).monitor.state.searching = false →
      ∃ t, exec (.orderFailed l d) s = .next t ∧ EntersLost s t l d why hold ∧ (t.drop l d).since = s.boundary ∧
        (t.leg l).orders = (a ++ b).filter (fun o => o.target != some d) ∧
        t.port = placeAll s.port
          [⟨some l, some d, s.boundary, .orderFailed e.order.kind e.seq (.lost why)⟩,
            ⟨some l, some d, s.boundary, .dropState .lost s.boundary (some (.lost why)) none none⟩] ∧
        (∀ c : Drop, c ≠ d → t.drop l c = s.drop l c) ∧ ∀ k : Leg, k ≠ l → t.leg k = s.leg k) ∧
    ((s.drop l d).state = .serving → e.order.kind = .sleep →
      exec (.orderFailed l d) s =
        .next
          ((s.mapLeg l fun r =>
            { r with
              orders :=
                if (s.drop l d).sleepCancelled then
                  (a ++ b).filter fun o => !(o.target == some d && o.order.kind == .wake)
                else a ++ b
              drops := r.drops.set d.val { s.drop l d with sleepCancelled := false } }).notify
            [⟨some l, some d, s.boundary, .orderFailed .sleep e.seq .serving⟩])) ∧
    (e.order.kind = .setDelay ∧ (s.drop l d).state ≠ .found ∨
        e.order.kind = .stepPower ∧ (s.drop l d).state ≠ .trimming ∧ (s.drop l d).state ≠ .serving ∨
        e.order.kind = .bindLanes ∧ (s.drop l d).state ≠ .awaiting ∧ (s.drop l d).state ≠ .serving ∧
          (s.drop l d).state ≠ .dormant ∨
        e.order.kind = .sleep ∧ (s.drop l d).state ≠ .serving ∨
        e.order.kind = .wake ∧ (s.drop l d).state ≠ .dormant ∧ (s.drop l d).state ≠ .serving →
      ((s.drop l d).state ≠ .hushed →
        exec (.orderFailed l d) s =
          .next ((s.mapLeg l fun r => { r with orders := a ++ b }).notify
            [⟨some l, some d, s.boundary, .orderFailed e.order.kind e.seq .unchanged⟩])) ∧
      ((s.drop l d).state = .hushed → exec (.orderFailed l d) s = .next (s.notify []))) ∧
    (∀ lanes, (s.drop l d).state = .awaiting ∨ (s.drop l d).state = .serving ∨ (s.drop l d).state = .dormant →
      e.order = .bindLanes lanes → e.retry = false →
      exec (.orderFailed l d) s =
        .next
          ((s.mapLeg l fun r =>
            { r with
              orders :=
                a ++ { order := .bindLanes none, target := some d, priority := .low, seq := none, sends := 0, lastSent := none
                       waited := 0, retry := true, awaiting := false, binds := [], forStep := false } :: b }).notify
            [⟨some l, some d, s.boundary, .orderFailed .bindLanes e.seq .retried⟩]))) ∧
  (∀ (l : Leg) (d c : Drop) (s : State), s.blocks.time.part = .ready → plainCount (s.leg l).orders < 40 →
    (s.leg l).orders.length < 47 → (s.leg l).monitor.asks = [.mute c] → (s.leg l).owed = [⟨d, .setDelay⟩] →
    exec (.orderRetry l) s =
      .next
        ((s.mapLeg l fun r =>
          { r with
            orders := r.orders ++ [OrderEntry.queued .mute (some c), OrderEntry.queued (.setDelay none) (some d)]
            owed := [], monitor := { r.monitor with asks := [] } }).notify [])) ∧
  (∀ (l : Leg) (s : State), s.blocks.time.part = .ready →
    (∀ entry : MonitorAsk → OrderEntry, (∀ c, entry (.mute c) = OrderEntry.queued .mute (some c)) →
      entry .unhush = OrderEntry.queued .unhushAll none → (s.leg l).owed = [] →
      (∀ a ∈ (s.leg l).monitor.asks, a = .unhush ∨ ∃ c, a = .mute c) →
      let n := 48 - (s.leg l).orders.length
      exec (.orderRetry l) s =
        .next
          ((s.mapLeg l fun r =>
            { r with
              orders := r.orders ++ (r.monitor.asks.take n).map entry
              monitor := { r.monitor with asks := r.monitor.asks.drop n } }).notify [])) ∧
    ((s.leg l).monitor.asks = [] → (s.leg l).owed.Pairwise (fun i j => i.sameKind j.drop j.kind = false) →
      (∀ i ∈ (s.leg l).owed, i.kind = .bindLanes → ∀ e ∈ (s.leg l).orders,
        ¬(e.target = some i.drop ∧ e.order.kind = .bindLanes ∧ e.awaiting = false)) →
      let n := min (40 - plainCount (s.leg l).orders) (48 - (s.leg l).orders.length)
      exec (.orderRetry l) s =
        .next
          ((s.mapLeg l fun r =>
            { r with
              orders := r.orders ++ (r.owed.take n).map fun i =>
                OrderEntry.queued
                  (match i.kind with
                  | .setDelay => .setDelay none
                  | .stepPower step => .stepPower step
                  | .bindLanes => .bindLanes none) (some i.drop)
              owed := r.owed.drop n }).notify [])) ∧
    (∀ d e, (s.leg l).monitor.asks = [] → (s.leg l).owed = [⟨d, .bindLanes⟩] → e ∈ (s.leg l).orders → e.target = some d →
      e.order.kind = .bindLanes → e.awaiting = false →
      exec (.orderRetry l) s = .next ((s.mapLeg l fun r => { r with owed := [] }).notify [])) ∧
    (48 ≤ (s.leg l).orders.length → (s.leg l).owed.Pairwise (fun i j => i.sameKind j.drop j.kind = false) →
      (∀ i ∈ (s.leg l).owed, i.kind = .bindLanes → ∀ e ∈ (s.leg l).orders,
        ¬(e.target = some i.drop ∧ e.order.kind = .bindLanes ∧ e.awaiting = false)) →
      exec (.orderRetry l) s = .next (s.notify [])) ∧
    (∀ c i, 40 ≤ plainCount (s.leg l).orders → (s.leg l).orders.length < 48 → (s.leg l).monitor.asks = [.mute c] →
      (s.leg l).owed = [i] → i.kind ≠ .bindLanes →
      exec (.orderRetry l) s =
        .next
          ((s.mapLeg l fun r =>
            { r with
              orders := r.orders ++ [OrderEntry.queued .mute (some c)], monitor := { r.monitor with asks := [] } }).notify [])) ∧
    (∀ (ask : MonitorAsk) (order : Order) (set : List Drop) (stays : Drop → Bool), (s.leg l).monitor.asks = [ask] →
      (s.leg l).owed = [] → (s.leg l).orders.length < 48 →
      (∃ span, ask = .stepHush set span ∧ order = .hushSet set span ∧ stays = fun c => set.contains c) ∨
        (∃ keep, ask = .stepUnhush keep ∧ order = .unhushAll ∧ set = [] ∧ stays = fun c => some c == keep) →
      ∃ t, exec (.orderRetry l) s = .next t ∧ (t.leg l).monitor = { (s.leg l).monitor with asks := [] } ∧
        (t.leg l).orders = (s.leg l).ordersBehindReturn (fun c => !(stays c)) ++
          [{ OrderEntry.queued order none with forStep := true }] ∧
        (∀ c ∈ set, (s.drop l c).state.hushable = true →
          t.drop l c =
            { s.drop l c with
              state := .hushed, since := s.boundary, hold := none, reason := none
              resume := some
                { state := if (s.drop l c).state = .ranging then .found else (s.drop l c).state
                  hold := (s.drop l c).hold, reason := (s.drop l c).reason, changed := false, stepHeld := false } }) ∧
        (∀ n x, (s.leg l).lanes[(n : Fin 256)] = some x → x.owner ∈ set → (s.drop l x.owner).state = .serving →
          x.state = .active → (t.leg l).lanes[n] = some { x with state := .suspended, backlog := 0 }) ∧
        (∀ c back, stays c = false → (s.drop l c).state = .hushed → (s.drop l c).resume = some back →
          (t.drop l c).state = back.state ∧
          (back.state ≠ .serving → (t.drop l c).hold = back.hold ∧ (t.drop l c).reason = back.reason ∧
            (t.drop l c).trimCount =
              if back.stepHeld then min ((s.drop l c).trimCount + 1) 6 else (s.drop l c).trimCount)) ∧
        (∀ c, ¬((s.drop l c).state = .hushed ∧ stays c = false) → ¬(c ∈ set ∧ (s.drop l c).state.hushable = true) →
          t.drop l c = s.drop l c) ∧ ∀ k : Leg, k ≠ l → t.leg k = s.leg k)) ∧
  (∀ (l : Leg) (d : Drop) (e : OrderEntry) (s : State), s.blocks.time.part = .ready → s.blocks.time.Ok →
    (s.leg l).control.state = .on → (s.leg l).OrdersOk → e ∈ (s.leg l).orders → e.target = some d → e.awaiting = true →
    e.lastSent ≠ some s.boundary.round → (s.drop l d).state ≠ .hushed → (s.drop l d).state ≠ .lost →
    ∃ (t : State) (ns : List Notice), exec .roundBoundary s = .next t ∧ t.port = placeAll s.port ns ∧
      (e.waited < 3 → ∃ e' ∈ (t.leg l).orders, { e' with binds := e.binds } = { e with waited := e.waited + 1 }) ∧
      (3 ≤ e.waited → e.sends < 3 →
        (∃ e' ∈ (t.leg l).orders,
          { e' with binds := e.binds } = { e with waited := 4 } ∨
            { e' with binds := e.binds } = { e with sends := e.sends + 1, waited := 0, lastSent := some s.boundary.round }) ∧
        ((s.leg l).orders = [e] → (s.leg l).monitor.asks = [] → (s.leg l).owed = [] →
          (s.leg l).monitor.state.searching = false →
          (t.leg l).orders = [{ e with sends := e.sends + 1, waited := 0, lastSent := some s.boundary.round }])) ∧
      (3 ≤ e.waited → 3 ≤ e.sends → ∃ o : FailOutcome,
        ⟨some l, some d, s.boundary, .orderFailed e.order.kind e.seq o⟩ ∈ ns ∧
        (∀ x ∈ (t.leg l).orders, x.target = some d → x.awaiting = true → x.lastSent = some s.boundary.round) ∧
        (o = .marginal ↔ e.order.kind = .stepPower ∧ ((s.drop l d).state = .trimming ∨ (s.drop l d).state = .serving)) ∧
        (o = .retried ↔ e.order.kind = .bindLanes ∧ e.retry = false ∧
          ((s.drop l d).state = .awaiting ∨ (s.drop l d).state = .serving ∨ (s.drop l d).state = .dormant)) ∧
        (o = .serving ↔ e.order.kind = .sleep ∧ (s.drop l d).state = .serving) ∧
        (∀ why, o = .lost why ↔
          e.order.kind = .setDelay ∧ (s.drop l d).state = .found ∧
              ((∃ hold, (s.drop l d).origin = some (.reused hold why)) ∨
                (∀ h w, (s.drop l d).origin ≠ some (.reused h w)) ∧ why = .noRanging) ∨
            e.order.kind = .wake ∧ ((s.drop l d).state = .dormant ∨ (s.drop l d).state = .serving) ∧ why = .silent ∨
            e.order.kind = .bindLanes ∧ e.retry = true ∧ why = .silent ∧
              ((s.drop l d).state = .awaiting ∨ (s.drop l d).state = .serving ∨ (s.drop l d).state = .dormant)) ∧
        (o = .marginal → (t.drop l d).marginal = true) ∧
        (o = .retried → ∃ x ∈ (t.leg l).orders, x.target = some d ∧ x.order.kind = .bindLanes ∧ x.retry = true) ∧
        (∀ why, o = .lost why → (∀ x ∈ (t.leg l).orders, x.target ≠ some d) ∧
          ((s.leg l).monitor.asks = [] → (t.drop l d).state = .lost ∧ (t.drop l d).reason = some (.lost why)))))

/-! ### Reception -/

/-- A granted burst window is CLEAN exactly when a burst was found whose delimiter lies within 16 eighths of its place, with a
good header CRC and the drop index the window belongs to; MISFIT exactly when such a header names another drop; GARBLED exactly
when neither holds and a beat was lit, and SILENT exactly when neither holds and none was (R104). A window that is not CLEAN
counts under its outcome in the statistics and the history, a MISFIT and, of a drop with a CLEAN window among its recent outcomes,
a GARBLED also for the round report, and it counts one missed burst of a drop whose unit should be heard; short of the eighth miss
nothing else of the leg's tables, queues and meters changes, nor any other leg. The eighth miss makes the drop LOST with reason
SILENT and the leg's lost hold inside the window's end, its orders gone, its lanes SUSPENDED without credit and its meter marked
with an outage, and it leaves the search its leg may make (R30, R32, R104, R106, R116, R117, R145, R147; a step in progress
counted as taken: log 54, the model's choice). -/
def Obligations.WindowOutcomesAndMissesAreCounted : Prop :=
  (∀ (b : Burst) (x : WindowLight),
    (classify b x = .clean ↔ ∃ f, x.found = some f ∧ ((f.delimiter : Int) - 8 * (b.start + 10)).natAbs ≤ 16 ∧
      f.crcGood = true ∧ f.header.drop = b.drop) ∧
    (classify b x = .misfit ↔ ∃ f, x.found = some f ∧ ((f.delimiter : Int) - 8 * (b.start + 10)).natAbs ≤ 16 ∧
      f.crcGood = true ∧ f.header.drop ≠ b.drop) ∧
    (classify b x = .garbled ↔ x.lit = true ∧
      ∀ f, x.found = some f → ((f.delimiter : Int) - 8 * (b.start + 10)).natAbs ≤ 16 → f.crcGood = false) ∧
    (classify b x = .silent ↔ x.lit = false ∧
      ∀ f, x.found = some f → ((f.delimiter : Int) - 8 * (b.start + 10)).natAbs ≤ 16 → f.crcGood = false)) ∧
  (∀ (l : Leg) (m : InFlight) (ms : List InFlight) (b : Burst) (x : WindowLight) (s : State),
    (s.leg l).inFlight = m :: ms → m.map.bursts[m.judged]? = some b → classify b x ≠ .clean →
    (s.drop l b.drop).state.heard = true →
    ∃ t, exec (.grantedWindowEnd l x) s = .next t ∧
      ((s.drop l b.drop).missed < 7 →
        t.drop l b.drop = { s.drop l b.drop with missed := (s.drop l b.drop).missed + 1 } ∧
        (∀ d : Drop, d ≠ b.drop → t.drop l d = s.drop l d) ∧
        (t.leg l).lanes = (s.leg l).lanes ∧ (t.leg l).orders = (s.leg l).orders ∧ (t.leg l).meters = (s.leg l).meters ∧
        (t.leg l).monitor = (s.leg l).monitor ∧ t.port.outbound = s.port.outbound) ∧
      (7 ≤ (s.drop l b.drop).missed →
        EntersLost s t l b.drop .silent ((s.leg l).control.settings.lostHold * 4096) ∧
        (t.drop l b.drop).missed = 8 ∧ (t.drop l b.drop).since = s.now ∧
        (t.drop l b.drop).serial = (s.drop l b.drop).serial ∧ (t.drop l b.drop).enrolRef = (s.drop l b.drop).enrolRef ∧
        (∀ e ∈ (t.leg l).orders, e.target ≠ some b.drop) ∧ (∀ i ∈ (t.leg l).owed, i.drop ≠ b.drop) ∧
        SearchLeft s t l b.drop s.now) ∧
      (∀ d : Drop, d ≠ b.drop → (t.leg l).histories[d] = (s.leg l).histories[d]) ∧
      (t.leg l).histories[b.drop].cleanRun = 0 ∧ (t.leg l).histories[b.drop].recent.getLast? = some (classify b x) ∧
      (∃ misfit garbled, (t.leg l).inFlight = { m with judged := m.judged + 1, misfit := misfit, garbled := garbled } :: ms ∧
        (classify b x = .silent →
          (t.leg l).stats = { (s.leg l).stats with silent := min ((s.leg l).stats.silent + 1) 4294967295 } ∧
          misfit = m.misfit ∧ garbled = m.garbled) ∧
        (classify b x = .misfit →
          (t.leg l).stats = { (s.leg l).stats with misfit := min ((s.leg l).stats.misfit + 1) 4294967295 } ∧
          misfit = m.misfit + 1 ∧ garbled = m.garbled) ∧
        (classify b x = .garbled →
          (t.leg l).stats = { (s.leg l).stats with garbled := min ((s.leg l).stats.garbled + 1) 4294967295 } ∧
          misfit = m.misfit ∧
          garbled = m.garbled + if .clean ∈ (s.leg l).histories[b.drop].recent then 1 else 0)) ∧
      (t.leg l).uplink = [] ∧ t.blocks.time = s.blocks.time ∧ ∀ k : Leg, k ≠ l → t.leg k = s.leg k)

/-- A CLEAN window of a SERVING drop whose level is in band, with no echo and no dying gasp: the missed count and the out-of-band run return
to 0, the level is the mean over the preamble, which the history keeps with the delimiter's offset (log 34), the drop's lanes take the
backlog their ports report, other lanes, drops, orders and legs stay, the frames of the segments whose lane the drop still holds on the
segment's port go to the uplink in order, each with its tag, and their bytes are charged upstream in the band in force (R30, R72, R82, R105
to R107, R110 to R112, R209). A unit fault is counted, and kept in the history with the round whose window carried it, while a burst without
one keeps the stamp it was last set (R106, R109; that stamp: log 27, the model's choice). The discarded frames are counted: the truncated or
malformed one of a segment, and every frame of a segment whose lane the drop no longer holds on the segment's port (R110, R111). A segment
is read as frames, each a length of 1 to 8,191, most significant byte first, and so many bytes: reading ends with nothing discarded where
fewer than 2 bytes are left or the length is 0, and with one frame discarded where the length is above 8,191 or fewer bytes than it says are
left (R110). -/
def Obligations.CleanWindowDelivers : Prop :=
  (∀ (fs : List (List Byte)) (rest seg : List Byte), (∀ f ∈ fs, 1 ≤ f.length ∧ f.length ≤ 8191) →
    seg = (fs.flatMap fun f => [BitVec.ofNat 8 (f.length / 256), BitVec.ofNat 8 f.length] ++ f) ++ rest →
    (rest.length < 2 → readFrames seg.length seg = (fs, 0)) ∧
    (∀ (a b : Byte) (tail : List Byte), rest = a :: b :: tail →
      let n := a.toNat * 256 + b.toNat
      (n = 0 → readFrames seg.length seg = (fs, 0)) ∧
      (8191 < n ∨ tail.length < n → readFrames seg.length seg = (fs, 1)))) ∧
  (∀ (l : Leg) (m : InFlight) (ms : List InFlight) (b : Burst) (f : FoundBurst) (lit : Bool) (s : State),
    (s.leg l).inFlight = m :: ms → m.map.bursts[m.judged]? = some b → classify b ⟨lit, some f⟩ = .clean →
    (s.drop l b.drop).state = .serving → f.header.echo = none → f.header.dyingGasp = false →
    (s.leg l).control.settings.trimLow ≤ (f.preamble.map BitVec.toNat).sum / f.preamble.length →
    (f.preamble.map BitVec.toNat).sum / f.preamble.length ≤ (s.leg l).control.settings.trimHigh →
    ∃ t, exec (.grantedWindowEnd l ⟨lit, some f⟩) s = .next t ∧
      t.drop l b.drop =
        { s.drop l b.drop with
          missed := 0, outOfBand := 0, cleanSinceWake := true
          level := some ((f.preamble.map BitVec.toNat).sum / f.preamble.length) } ∧
      (∃ h, (t.leg l).histories[b.drop] = h ∧ h.recent.getLast? = some .clean ∧
        h.offset = some ((f.delimiter : Int) - 8 * (b.start + 10)) ∧
        h.level = some ((f.preamble.map BitVec.toNat).sum / f.preamble.length) ∧
        (f.header.unitFault = true → h.fault = some ⟨true, some m.map.round⟩) ∧
        (f.header.unitFault = false →
          h.fault = some ⟨false, ((s.leg l).histories[b.drop]).fault.bind UnitFault.lastSet⟩)) ∧
      (t.leg l).stats.unitFaults =
        (if f.header.unitFault then min ((s.leg l).stats.unitFaults + 1) 4294967295 else (s.leg l).stats.unitFaults) ∧
      (t.leg l).stats.upDiscarded =
        min ((s.leg l).stats.upDiscarded + ((segmentBytes b.segments f.payload).map fun x =>
          let read := readFrames x.2.length x.2
          if (s.leg l).lanes[x.1.lane].any fun y => decide (y.owner = b.drop ∧ y.port = x.1.port) then read.2
          else read.2 + read.1.length).sum) 4294967295 ∧
      (∀ d : Drop, d ≠ b.drop → t.drop l d = s.drop l d ∧ t.meter l d = s.meter l d) ∧
      (∀ n x, (s.leg l).lanes[(n : Fin 256)] = some x →
        (x.owner = b.drop → (t.leg l).lanes[n] = some { x with backlog := (f.header.backlog[x.port]).toNat }) ∧
        (x.owner ≠ b.drop → (t.leg l).lanes[n] = some x)) ∧
      (t.leg l).orders = (s.leg l).orders ∧ (t.leg l).monitor = (s.leg l).monitor ∧
      (t.leg l).stats.clean = min ((s.leg l).stats.clean + 1) 4294967295 ∧
      (t.leg l).uplink =
        ((segmentBytes b.segments f.payload).flatMap fun x =>
          match (s.leg l).lanes[x.1.lane] with
          | some y =>
            if y.owner = b.drop ∧ y.port = x.1.port then
              (readFrames x.2.length x.2).1.map fun data =>
                ⟨uplinkTag l b.drop x.1.lane y.surplus?.isSome false data.length, data⟩
            else []
          | none => []) ∧
      (∀ u ∈ (t.leg l).uplink, tagLeg u.tag = l ∧ tagDrop u.tag = b.drop ∧ tagDown u.tag = false) ∧
      (∀ y, s.meter l b.drop = some y → ((t.leg l).uplink = [] → t.meter l b.drop = some y) ∧
        ((t.leg l).uplink ≠ [] → ∃ y', t.meter l b.drop = some y' ∧ y'.down = y.down ∧
          y'.up[s.blocks.band] =
            min (y.up[s.blocks.band] + ((t.leg l).uplink.map fun u => u.data.length).sum) 1099511627775)) ∧
      t.blocks.time = s.blocks.time ∧ ∀ k : Leg, k ≠ l → t.leg k = s.leg k)

/-- A CLEAN keepalive whose echo is the sequence its drop awaits: the order leaves the queue, the sequence is the drop's last echo heard,
and the order takes its effect before the level is judged and before the backlog report is taken (R49, R53, R82, R107). STEP_POWER to a
SERVING drop moves the power setting within 0 to 31 and the trim count to at most 6 (R71). BIND_LANES to a SERVING drop makes the lanes it
named ACTIVE that were BINDING (R80). SLEEP to a SERVING drop that is not sleep-cancelled makes it DORMANT with its interval and countdown,
its lanes SUSPENDED without credit (R121). WAKE to a DORMANT drop makes it SERVING with its clean-since-wake flag clear and no WAKE left
(R125, R127). SET_DELAY to a FOUND drop makes it TRIMMING, and its level, out of band, asks for its first trim step (R68, R70). STEP_POWER
to a HUSHED drop leaves the queue and moves the power setting too, and its missed count stays as it stood, and so does its level, which R70
holds where R30 would set it (log 11, the model's choice); its trim count rises, but for a drop hushed in trim, whose trim count and
outstanding step R70 holds: it counts the step when it returns to TRIMMING (R36, R49, R53, R70, R71; log 38, the model's choice). -/
def Obligations.EchoesCompleteOrders : Prop :=
  ∀ (l : Leg) (d : Drop) (m : InFlight) (ms : List InFlight) (b : Burst) (f : FoundBurst) (lit : Bool) (q : Fin 16)
    (x : List OrderEntry) (e : OrderEntry) (y : List OrderEntry) (s : State),
    (s.leg l).inFlight = m :: ms → m.map.bursts[m.judged]? = some b → classify b ⟨lit, some f⟩ = .clean → b.drop = d →
    b.segments = [] → f.header.echo = some q → f.header.dyingGasp = false → f.header.wakeRequest = false →
    (s.leg l).orders = x ++ e :: y → e.target = some d → e.awaiting = true → e.seq = some q →
    (∀ o ∈ x ++ y, o.target = some d → o.awaiting = false) →
    let level := (f.preamble.map BitVec.toNat).sum / f.preamble.length
    let inBand := (s.leg l).control.settings.trimLow ≤ level ∧ level ≤ (s.leg l).control.settings.trimHigh
    (∀ step, (s.drop l d).state = .serving → inBand → e.order = .stepPower step →
      ∃ t, exec (.grantedWindowEnd l ⟨lit, some f⟩) s = .next t ∧ (t.leg l).orders = x ++ y ∧ (t.leg l).lastEcho[d] = some q ∧
        t.drop l d =
          { s.drop l d with
            power := (max 0 (min 31 (((s.drop l d).power : Int) + step))).toNat, trimCount := min ((s.drop l d).trimCount + 1) 6
            missed := 0, outOfBand := 0, cleanSinceWake := true, level := some level } ∧
        (t.leg l).meters = (s.leg l).meters ∧ (∀ c : Drop, c ≠ d → t.drop l c = s.drop l c) ∧ ∀ k : Leg, k ≠ l → t.leg k = s.leg k) ∧
    (∀ lanes, (s.drop l d).state = .serving → inBand → e.order = .bindLanes lanes →
      ∃ t, exec (.grantedWindowEnd l ⟨lit, some f⟩) s = .next t ∧ (t.leg l).orders = x ++ y ∧ (t.leg l).lastEcho[d] = some q ∧
        (∀ n v, (s.leg l).lanes[(n : Fin 256)] = some v →
          (v.owner = d → v.state = .binding → n ∈ e.binds →
            (t.leg l).lanes[n] = some { v with state := .active, backlog := (f.header.backlog[v.port]).toNat }) ∧
          (v.owner = d → ¬(v.state = .binding ∧ n ∈ e.binds) →
            (t.leg l).lanes[n] = some { v with backlog := (f.header.backlog[v.port]).toNat }) ∧
          (v.owner ≠ d → (t.leg l).lanes[n] = some v)) ∧
        (t.drop l d).state = .serving ∧ (∀ c : Drop, c ≠ d → t.drop l c = s.drop l c) ∧ ∀ k : Leg, k ≠ l → t.leg k = s.leg k) ∧
    (∀ interval, (s.drop l d).state = .serving → (s.drop l d).sleepCancelled = false → e.order = .sleep interval →
      ∃ t, exec (.grantedWindowEnd l ⟨lit, some f⟩) s = .next t ∧ (t.leg l).orders = x ++ y ∧
        t.drop l d =
          { s.drop l d with
            state := .dormant, since := s.now, wakeInterval := some interval, wakeCount := some interval, missed := 0
            cleanSinceWake := true, level := some level } ∧
        (∀ n v, (t.leg l).lanes[(n : Fin 256)] = some v → v.owner = d → v.state ≠ .active ∧ ∀ c, v.credit = some c → c = 0) ∧
        t.port = placeAll s.port
          [⟨some l, some d, s.now, .dropState .dormant s.now (s.drop l d).reason (s.drop l d).awaitingCause none⟩] ∧
        (t.leg l).meters = (s.leg l).meters ∧ (∀ c : Drop, c ≠ d → t.drop l c = s.drop l c) ∧ ∀ k : Leg, k ≠ l → t.leg k = s.leg k) ∧
    ((s.drop l d).state = .dormant → inBand → e.order = .wake →
      ∃ t, exec (.grantedWindowEnd l ⟨lit, some f⟩) s = .next t ∧
        (t.leg l).orders = (x ++ y).filter (fun o => !(o.target == some d && o.order.kind == .wake)) ∧
        t.drop l d =
          { s.drop l d with
            state := .serving, since := s.now, outOfBand := 0, awaitingCause := none, origin := none, resume := none
            wakeInterval := none, wakeCount := none, cleanSinceWake := false, missed := 0, level := some level } ∧
        (∀ n v, (s.leg l).lanes[(n : Fin 256)] = some v → v.owner = d → v.state = .suspended →
          (t.leg l).lanes[n] = some { v with state := .active, backlog := (f.header.backlog[v.port]).toNat }) ∧
        (∀ c : Drop, c ≠ d → t.drop l c = s.drop l c) ∧ ∀ k : Leg, k ≠ l → t.leg k = s.leg k) ∧
    (∀ delay step, (s.drop l d).state = .found → e.order = .setDelay delay → ¬inBand → plainRoom (x ++ y) = true →
      (∀ o ∈ x ++ y, o.target = some d → o.order.kind ≠ .stepPower) → (∀ i ∈ (s.leg l).owed, i.drop ≠ d) →
      step = appliedStep (s.leg l).control.settings.trimLow (s.leg l).control.settings.trimHigh level (s.drop l d).power →
      step ≠ 0 →
      ∃ t, exec (.grantedWindowEnd l ⟨lit, some f⟩) s = .next t ∧
        (t.leg l).orders = x ++ y ++ [OrderEntry.queued (.stepPower step) (some d)] ∧
        t.drop l d =
          { s.drop l d with
            state := .trimming, since := s.now, trimCount := 0, missed := 0, cleanSinceWake := true, level := some level } ∧
        (∀ c : Drop, c ≠ d → t.drop l c = s.drop l c) ∧ ∀ k : Leg, k ≠ l → t.leg k = s.leg k) ∧
    (∀ step, (s.drop l d).state = .hushed → e.order = .stepPower step →
      ∃ t, exec (.grantedWindowEnd l ⟨lit, some f⟩) s = .next t ∧ (t.leg l).lastEcho[d] = some q ∧
        (t.leg l).orders = x ++ y ∧ (t.leg l).owed = (s.leg l).owed ∧
        (∀ back, (s.drop l d).resume = some back → back.state = .trimming →
          { t.drop l d with cleanSinceWake := (s.drop l d).cleanSinceWake } =
            { s.drop l d with
              power := (max 0 (min 31 (((s.drop l d).power : Int) + step))).toNat, resume := some { back with stepHeld := true } }) ∧
        ((∀ back, (s.drop l d).resume = some back → back.state ≠ .trimming) →
          { t.drop l d with cleanSinceWake := (s.drop l d).cleanSinceWake } =
            { s.drop l d with
              power := (max 0 (min 31 (((s.drop l d).power : Int) + step))).toNat
              trimCount := min ((s.drop l d).trimCount + 1) 6 }) ∧
        (∀ c : Drop, c ≠ d → t.drop l c = s.drop l c) ∧ ∀ k : Leg, k ≠ l → t.leg k = s.leg k)

/-- A CLEAN keepalive without an echo. A dying gasp of a drop whose unit is heard makes it LOST with reason POWER, its lanes SUSPENDED and
its orders gone (R31, R32). A wake request of a DORMANT drop makes it SERVING with its clean-since-wake flag clear and no WAKE left (R124,
R125). Of a TRIMMING drop with no power step outstanding: a level in band ends trim, and so does one out of band after 6 steps or with no
step to take, marking the drop marginal; else the applied step is queued and it stays TRIMMING (R70). Trim ended, a NEW drop whose templates
fit has each template as a BINDING lane on its local port, and is SERVING with a meter where its approval mode is AUTO, or AWAITING
approval, with a BIND_LANES asked for if there is a template; where they do not fit it waits for lanes without any (R73, R75, R87). The
templates fit where the lane table has a free place for each and, if one of them is FIXED, the FIXED beats with those of the leg's lanes,
and 16 for each drop that then holds a FIXED lane, keep to 8,000 less the reach span and 80, with at most 32 such drops (R83, R87). A drop
that has a meter and is not NEW is SERVING with its lanes BINDING, a BIND_LANES asked for if it holds any; one that is REUSED or RELEASED
without a meter is admitted as a NEW one is where it holds no lane, and else has its lanes BINDING, a BIND_LANES asked for, and is SERVING
with a new meter, or AWAITING approval, by its approval mode (R74, R168). -/
def Obligations.CleanBurstsJudgeTheUnit : Prop :=
  ∀ (l : Leg) (d : Drop) (m : InFlight) (ms : List InFlight) (b : Burst) (f : FoundBurst) (lit : Bool) (s : State),
    (s.leg l).inFlight = m :: ms → m.map.bursts[m.judged]? = some b → classify b ⟨lit, some f⟩ = .clean → b.drop = d →
    b.segments = [] → f.header.echo = none →
    let level := (f.preamble.map BitVec.toNat).sum / f.preamble.length
    let low := (s.leg l).control.settings.trimLow
    let high := (s.leg l).control.settings.trimHigh
    ((s.drop l d).state.heard = true → f.header.dyingGasp = true →
      ∃ t, exec (.grantedWindowEnd l ⟨lit, some f⟩) s = .next t ∧
        (t.drop l d).state = .lost ∧ (t.drop l d).reason = some (.lost .power) ∧ (t.drop l d).since = s.now ∧
        (t.drop l d).hold = some ((s.leg l).control.settings.lostHold * 4096) ∧ (t.drop l d).level = some level ∧
        (∀ n v, (t.leg l).lanes[(n : Fin 256)] = some v → v.owner = d → v.state = .suspended ∧ ∀ c, v.credit = some c → c = 0) ∧
        (∀ o ∈ (t.leg l).orders, o.target ≠ some d) ∧ (∀ i ∈ (t.leg l).owed, i.drop ≠ d) ∧
        (∀ v, s.meter l d = some v → t.meter l d = some { v with flags := { v.flags with outage := true } }) ∧
        ∀ k : Leg, k ≠ l → t.leg k = s.leg k) ∧
    ((s.drop l d).state = .dormant → f.header.dyingGasp = false → f.header.wakeRequest = true → low ≤ level → level ≤ high →
      ∃ t, exec (.grantedWindowEnd l ⟨lit, some f⟩) s = .next t ∧
        t.drop l d =
          { s.drop l d with
            state := .serving, since := s.now, outOfBand := 0, awaitingCause := none, origin := none, resume := none
            wakeInterval := none, wakeCount := none, cleanSinceWake := false, missed := 0, level := some level } ∧
        (t.leg l).orders = (s.leg l).orders.filter (fun o => !(o.target == some d && o.order.kind == .wake)) ∧
        (∀ c : Drop, c ≠ d → t.drop l c = s.drop l c) ∧ ∀ k : Leg, k ≠ l → t.leg k = s.leg k) ∧
    ((s.drop l d).state = .trimming → f.header.dyingGasp = false →
      (∀ o ∈ (s.leg l).orders, o.target = some d → o.order.kind ≠ .stepPower) → (∀ i ∈ (s.leg l).owed, i.drop ≠ d) →
      ∃ t, exec (.grantedWindowEnd l ⟨lit, some f⟩) s = .next t ∧ (∀ c : Drop, c ≠ d → t.drop l c = s.drop l c) ∧
        (∀ k : Leg, k ≠ l → t.leg k = s.leg k) ∧
        (∀ step, ¬(low ≤ level ∧ level ≤ high) → step = appliedStep low high level (s.drop l d).power → step ≠ 0 →
          (s.drop l d).trimCount < 6 → plainRoom (s.leg l).orders = true →
          (t.leg l).orders = (s.leg l).orders ++ [OrderEntry.queued (.stepPower step) (some d)] ∧
          t.drop l d = { s.drop l d with missed := 0, cleanSinceWake := true, level := some level }) ∧
        (∀ marginal : Bool,
          marginal = false ∧ low ≤ level ∧ level ≤ high ∨
            marginal = true ∧ ¬(low ≤ level ∧ level ≤ high) ∧
              (6 ≤ (s.drop l d).trimCount ∨ appliedStep low high level (s.drop l d).power = 0) →
          (t.drop l d).marginal = marginal ∧ (t.drop l d).since = s.now ∧ (t.drop l d).serial = (s.drop l d).serial ∧
          (∀ i v,
            (s.drop l d).origin = some .new ∨
              s.meter l d = none ∧ (∀ n u, (s.leg l).lanes[(n : Fin 256)] = some u → u.owner ≠ d) →
            (s.drop l d).enrolRef = some i → s.blocks.enrol[(i : Fin 512)] = some v → v.templates.length ≤ 4 →
            ((s.leg l).HasRoomFor d v.templates → (v.templates ≠ [] → (t.leg l).AsksBindLanes d) ∧
              (∀ (q : Fin 4) (g : LaneFigures), v.templates[q.val]? = some g →
                ∃ n : Fin 256, (s.leg l).lanes[n] = none ∧
                  (t.leg l).lanes[n] = some { Lane.fresh d q g with backlog := (f.header.backlog[q]).toNat }) ∧
              (v.mode = .auto → (t.drop l d).state = .serving ∧ (t.drop l d).origin = none ∧
                (s.meter l d = none → ∃ u, t.meter l d = some u ∧ u.account = v.account ∧ u.start = s.now ∧ u.usage = false)) ∧
              (v.mode = .hold → (t.drop l d).state = .awaiting ∧ (t.drop l d).awaitingCause = some .approval ∧
                t.meter l d = s.meter l d)) ∧
            (¬(s.leg l).HasRoomFor d v.templates →
              (t.drop l d).state = .awaiting ∧ (t.drop l d).awaitingCause = some .lanes ∧
                ∀ n : Fin 256, (s.leg l).lanes[n] = none → (t.leg l).lanes[n] = none)) ∧
          (∀ v, (s.drop l d).origin ≠ some .new → s.meter l d = some v →
            (t.drop l d).state = .serving ∧ t.meter l d = some v ∧
            ((∃ n u, (s.leg l).lanes[(n : Fin 256)] = some u ∧ u.owner = d) → (t.leg l).AsksBindLanes d) ∧
            ∀ n u, (t.leg l).lanes[(n : Fin 256)] = some u → u.owner = d → u.state = .binding) ∧
          (∀ i v, (s.drop l d).origin ≠ some .new → s.meter l d = none →
            (∃ n u, (s.leg l).lanes[(n : Fin 256)] = some u ∧ u.owner = d) → (s.drop l d).enrolRef = some i →
            s.blocks.enrol[(i : Fin 512)] = some v →
            (t.leg l).AsksBindLanes d ∧
            (∀ n u, (s.leg l).lanes[(n : Fin 256)] = some u → u.owner = d →
              (t.leg l).lanes[n] = some { u with state := .binding, backlog := (f.header.backlog[u.port]).toNat }) ∧
            (v.mode = .auto → (t.drop l d).state = .serving ∧ (t.drop l d).origin = none ∧
              ∃ u, t.meter l d = some u ∧ u.account = v.account ∧ u.start = s.now ∧ u.usage = false) ∧
            (v.mode = .hold → (t.drop l d).state = .awaiting ∧ (t.drop l d).awaitingCause = some .approval ∧
              t.meter l d = none))))

/-- The eighth missed burst of a drop whose unit should be heard makes it LOST with reason SILENT and the leg's lost hold in rounds; its
lanes are SUSPENDED without credit, its orders gone and its meter marked with an outage, it leaves the search its leg may make, and the
other legs stay (R30, R32, R145, R147; a step in progress counted as taken: log 54, the model's choice). The sixteenth out-of-band burst in
a row of a SERVING drop with no power step outstanding: its run returns to 0, and a STEP_POWER with the applied trim step is queued if there
is room, or, where that step is 0, the drop is marked marginal; nothing else changes (R69, R72); without room the STEP_POWER is owed, at 40
plain orders, and at 48 orders with fewer plain ones (R43, R67; the latter: log 28, the model's choice). That these limits are commands of
their own, which act at seven misses and at a run of 15, is the model's choice (log 2). A CLEAN keepalive out of band that is the sixteenth
in the run does the same inside its window's end (R72). -/
def Obligations.MissAndDriftLimitsAct : Prop :=
  (∀ (l : Leg) (d : Drop) (s : State), (s.drop l d).state.heard = true → 7 ≤ (s.drop l d).missed →
    ∃ t, exec (.missedCountLimit l d) s = .next t ∧
      (t.drop l d).state = .lost ∧ (t.drop l d).reason = some (.lost .silent) ∧
      (t.drop l d).hold = some ((s.leg l).control.settings.lostHold * 4096) ∧ (t.drop l d).since = s.now ∧
      (t.drop l d).serial = (s.drop l d).serial ∧ (t.drop l d).enrolRef = (s.drop l d).enrolRef ∧
      (∀ n x, (t.leg l).lanes[(n : Fin 256)] = some x → x.owner = d → x.state = .suspended ∧ ∀ c, x.credit = some c → c = 0) ∧
      (∀ e ∈ (t.leg l).orders, e.target ≠ some d) ∧
      (∀ m, s.meter l d = some m → t.meter l d = some { m with flags := { m.flags with outage := true } }) ∧ SearchLeft s t l d s.now ∧
      ∀ k : Leg, k ≠ l → t.leg k = s.leg k) ∧
  (∀ (l : Leg) (d : Drop) (level : Byte) (step : Int) (s : State), (s.drop l d).state = .serving → 15 ≤ (s.drop l d).outOfBand →
    ¬((s.leg l).control.settings.trimLow ≤ level.toNat ∧ level.toNat ≤ (s.leg l).control.settings.trimHigh) →
    (∀ e ∈ (s.leg l).orders, e.target = some d → e.order.kind ≠ .stepPower) → (∀ i ∈ (s.leg l).owed, i.drop ≠ d) →
    step = appliedStep (s.leg l).control.settings.trimLow (s.leg l).control.settings.trimHigh level.toNat (s.drop l d).power →
    (step ≠ 0 → plainRoom (s.leg l).orders = true →
      exec (.outOfBandRunLimit l d level) s =
        .next ((s.mapLeg l fun r =>
          { r with
            drops := r.drops.set d.val { s.drop l d with outOfBand := 0 }
            orders := r.orders ++ [OrderEntry.queued (.stepPower step) (some d)] }).notify [])) ∧
    (step = 0 →
      exec (.outOfBandRunLimit l d level) s =
        .next ((s.mapLeg l fun r =>
          { r with drops := r.drops.set d.val { s.drop l d with outOfBand := 0, marginal := true } }).notify []))) ∧
  (∀ (l : Leg) (d : Drop) (m : InFlight) (ms : List InFlight) (b : Burst) (f : FoundBurst) (lit : Bool) (step : Int) (s : State),
    (s.leg l).inFlight = m :: ms → m.map.bursts[m.judged]? = some b → classify b ⟨lit, some f⟩ = .clean → b.drop = d →
    b.segments = [] → f.header.echo = none → f.header.dyingGasp = false →
    let level := (f.preamble.map BitVec.toNat).sum / f.preamble.length
    let settings := (s.leg l).control.settings
    (s.drop l d).state = .serving → 15 ≤ (s.drop l d).outOfBand → ¬(settings.trimLow ≤ level ∧ level ≤ settings.trimHigh) →
    (∀ e ∈ (s.leg l).orders, e.target = some d → e.order.kind ≠ .stepPower) → (∀ i ∈ (s.leg l).owed, i.drop ≠ d) →
    step = appliedStep settings.trimLow settings.trimHigh level (s.drop l d).power →
    ∃ t, exec (.grantedWindowEnd l ⟨lit, some f⟩) s = .next t ∧
      t.drop l d =
        { s.drop l d with
          outOfBand := 0, marginal := (s.drop l d).marginal || decide (step = 0), missed := 0, cleanSinceWake := true
          level := some level } ∧
      (step = 0 → (t.leg l).orders = (s.leg l).orders ∧ (t.leg l).owed = (s.leg l).owed) ∧
      (step ≠ 0 → plainRoom (s.leg l).orders = true →
        (t.leg l).orders = (s.leg l).orders ++ [OrderEntry.queued (.stepPower step) (some d)] ∧
        (t.leg l).owed = (s.leg l).owed) ∧
      (step ≠ 0 → plainRoom (s.leg l).orders = false →
        (t.leg l).orders = (s.leg l).orders ∧ (t.leg l).owed = (s.leg l).owed ++ [⟨d, .stepPower step⟩]) ∧
      (t.leg l).meters = (s.leg l).meters ∧ (t.leg l).monitor = (s.leg l).monitor ∧
      (∀ c : Drop, c ≠ d → t.drop l c = s.drop l c) ∧ ∀ k : Leg, k ≠ l → t.leg k = s.leg k)

/-- The trim step of a level outside the band: the raw step is the quarter of the distance to the band's centre, rounded to the
nearest with halves away from zero, or one step toward the band where that is 0, clamped to 8 steps; the applied step is what of
it the power setting can move within 0 to 31, so it points toward the band, and is 0 only at the limit it points to (R69). -/
def Obligations.TrimStepMovesTowardTheBand : Prop :=
  ∀ low high level power : Nat, low < high → power ≤ 31 → ¬(low ≤ level ∧ level ≤ high) →
    (∃ q : Int,
      2 * (4 * q - (((low + high) / 2 : Nat) - (level : Int))).natAbs ≤ 4 ∧
      (2 * (4 * q - (((low + high) / 2 : Nat) - (level : Int))).natAbs = 4 →
        (((low + high) / 2 : Nat) - (level : Int)).natAbs < (4 * q).natAbs) ∧
      (q ≠ 0 → -8 ≤ q → q ≤ 8 → rawStep low high level = q) ∧
      (q = 0 → rawStep low high level = if level < low then 1 else -1) ∧
      (q < -8 → rawStep low high level = -8) ∧ (8 < q → rawStep low high level = 8)) ∧
    (0 ≤ (power : Int) + rawStep low high level → (power : Int) + rawStep low high level ≤ 31 →
      appliedStep low high level power = rawStep low high level) ∧
    ((power : Int) + rawStep low high level < 0 → appliedStep low high level power = -(power : Int)) ∧
    (31 < (power : Int) + rawStep low high level → appliedStep low high level power = 31 - power) ∧
    (level < low → 1 ≤ rawStep low high level) ∧ (high < level → rawStep low high level ≤ -1) ∧
    (appliedStep low high level power = 0 ↔ level < low ∧ power = 31 ∨ high < level ∧ power = 0)

/-- GARBLED light of a discovery window: a lit beat outside the beats of every decoded announce, one covered in part being covered
(log 25, the model's choice), or an announce found in it with a bad header CRC, another generation, or beats behind the window's
end (R113). A window with one decoded announce: a serial that is not enrolled, or is unbound and allowed on another leg alone, is
noted in the leg's stranger list as UNKNOWN or WRONG_LEG, in place of the one heard longest ago where 8 are held, with a STRANGER
notice; one in the list is counted up to 255 with its last-heard stamp and its class, without a notice (R25). An enrolled, unbound
serial allowed on the leg claims the VACANT entry with the lowest index, which becomes FOUND with origin NEW and is bound; with no
VACANT entry TABLE_FULL is raised. One bound to a LOST entry of the leg makes it FOUND with origin REUSED and its hold and reason
saved; to a RETIRING entry it changes nothing; to any other, a LOST entry of another leg included, it raises CLASH (R27 to R29).
In each case the window counts one announce, sets or clears the quick-retry flag, and leaves every other leg (R61). -/
def Obligations.AnnounceIsMatched : Prop :=
  (∀ (start : Nat) (light : FrameLight) (xs : List FoundAnnounce), garbledLight start light xs = true ↔
    (∃ beat, start ≤ beat ∧ beat < 8000 ∧ litAt light beat = true ∧
      ∀ a ∈ xs, announceDecoded a start = true → beat < (a.delimiter - 80) / 8 ∨ (a.delimiter + 55) / 8 ≤ beat) ∨
    ∃ a ∈ xs, 8 * start ≤ a.delimiter ∧ (a.crcGood = false ∨ a.capability ≠ 1 ∨ 64000 < a.delimiter + 48)) ∧
  (∀ (start : Nat) (a : FoundAnnounce), announceDecoded a start = true ↔
    8 * start + 80 ≤ a.delimiter ∧ a.delimiter + 48 ≤ 64000 ∧ a.crcGood = true ∧ a.capability = 1) ∧
  ∀ (l : Leg) (m : InFlight) (ms : List InFlight) (n : Nat) (light : FrameLight) (a : FoundAnnounce) (s : State),
    (s.leg l).inFlight = m :: ms → m.map.window = some ⟨.discovery, n⟩ → m.windowDone = false →
    announceDecoded a (8000 - n) = true →
    ((s.blocks.enrolWhere fun e => e.serial == a.serial) = none → (s.leg l).strangers.length < 8 →
      (∀ x ∈ (s.leg l).strangers, x.serial ≠ a.serial) →
      ∃ t, exec (.discoveryWindowEnd l light [a]) s = .next t ∧
        (t.leg l).strangers = (s.leg l).strangers ++ [⟨a.serial, .unknown, m.map.round, m.map.round, 1⟩] ∧
        (t.leg l).drops = (s.leg l).drops ∧ t.blocks.enrol = s.blocks.enrol ∧
        t.port = placeAll s.port [⟨some l, none, s.now, .stranger a.serial .unknown⟩] ∧
        (t.leg l).stats.announces = min ((s.leg l).stats.announces + 1) 4294967295 ∧
        (t.leg l).schedule.quickRetry = garbledLight (8000 - n) light [a] ∧ ∀ k : Leg, k ≠ l → t.leg k = s.leg k) ∧
    (∀ why : StrangerWhy,
      why = .unknown ∧ (s.blocks.enrolWhere fun e => e.serial == a.serial) = none ∨
        why = .wrongLeg ∧ (∃ i e k, (s.blocks.enrolWhere fun e => e.serial == a.serial) = some i ∧
          s.blocks.enrol[(i : Fin 512)] = some e ∧ e.binding = none ∧ e.allowed = some k ∧ k ≠ l) →
      ∃ t, exec (.discoveryWindowEnd l light [a]) s = .next t ∧ (t.leg l).drops = (s.leg l).drops ∧
        t.blocks.enrol = s.blocks.enrol ∧ (t.leg l).stats.announces = min ((s.leg l).stats.announces + 1) 4294967295 ∧
        (t.leg l).schedule.quickRetry = garbledLight (8000 - n) light [a] ∧ (∀ k : Leg, k ≠ l → t.leg k = s.leg k) ∧
        ((∃ x ∈ (s.leg l).strangers, x.serial = a.serial) →
          (t.leg l).strangers = ((s.leg l).strangers.map fun x =>
            if x.serial = a.serial then { x with why := why, lastHeard := m.map.round, times := min (x.times + 1) 255 } else x) ∧
          t.port = placeAll s.port []) ∧
        ((∀ x ∈ (s.leg l).strangers, x.serial ≠ a.serial) →
          t.port = placeAll s.port [⟨some l, none, s.now, .stranger a.serial why⟩] ∧
          ((s.leg l).strangers.length < 8 →
            (t.leg l).strangers = (s.leg l).strangers ++ [⟨a.serial, why, m.map.round, m.map.round, 1⟩]) ∧
          (∀ (j : Nat) (y : Stranger), 8 ≤ (s.leg l).strangers.length → (s.leg l).strangers[j]? = some y →
            (∀ i z, (s.leg l).strangers[i]? = some z →
              y.lastHeard.le z.lastHeard = true ∧ (i < j → z.lastHeard.le y.lastHeard = false)) →
            (t.leg l).strangers =
              (s.leg l).strangers.eraseIdx j ++ [⟨a.serial, why, m.map.round, m.map.round, 1⟩]))) ∧
    (∀ (i : Fin 512) (e : EnrolEntry), (s.blocks.enrolWhere fun e => e.serial == a.serial) = some i →
      s.blocks.enrol[i] = some e → e.binding = none → e.allowed = none ∨ e.allowed = some l →
      (∀ d : Drop, (s.drop l d).state ≠ .vacant) →
      ∃ t, exec (.discoveryWindowEnd l light [a]) s = .next t ∧
        t.port = placeAll s.port [⟨some l, none, s.now, .tableFull a.serial⟩] ∧ (t.leg l).drops = (s.leg l).drops ∧
        t.blocks.enrol = s.blocks.enrol ∧ (t.leg l).strangers = (s.leg l).strangers ∧
        (t.leg l).stats.announces = min ((s.leg l).stats.announces + 1) 4294967295 ∧
        (t.leg l).schedule.quickRetry = garbledLight (8000 - n) light [a] ∧ ∀ k : Leg, k ≠ l → t.leg k = s.leg k) ∧
    (∀ (i : Fin 512) (e : EnrolEntry) (k : Leg) (d : Drop), (s.blocks.enrolWhere fun e => e.serial == a.serial) = some i →
      s.blocks.enrol[i] = some e → e.binding = some (k, d) → k ≠ l →
      ∃ t, exec (.discoveryWindowEnd l light [a]) s = .next t ∧
        ((s.drop k d).state = .retiring → t.port = placeAll s.port []) ∧
        ((s.drop k d).state ≠ .retiring → t.port = placeAll s.port [⟨some l, some d, s.now, .clash a.serial k d⟩]) ∧
        (t.leg l).drops = (s.leg l).drops ∧ t.blocks.enrol = s.blocks.enrol ∧ (t.leg l).strangers = (s.leg l).strangers ∧
        (t.leg l).stats.announces = min ((s.leg l).stats.announces + 1) 4294967295 ∧
        (t.leg l).schedule.quickRetry = garbledLight (8000 - n) light [a] ∧ ∀ j : Leg, j ≠ l → t.leg j = s.leg j) ∧
    (∀ (i : Fin 512) (e : EnrolEntry) (d : Drop), (s.blocks.enrolWhere fun e => e.serial == a.serial) = some i →
      s.blocks.enrol[i] = some e → e.binding = none → e.allowed = none ∨ e.allowed = some l →
      (s.drop l d).state = .vacant → (∀ c : Drop, c < d → (s.drop l c).state ≠ .vacant) →
      ∃ t, exec (.discoveryWindowEnd l light [a]) s = .next t ∧
        t.drop l d =
          { DropEntry.vacant s.now with
            state := .found, serial := some a.serial, enrolRef := some i, origin := some .new, power := min a.power.toNat 31 } ∧
        t.blocks.enrol[i] = some { e with binding := some (l, d) } ∧
        (∀ c : Drop, c ≠ d → t.drop l c = s.drop l c) ∧ (t.leg l).strangers = (s.leg l).strangers ∧
        (t.leg l).stats.announces = min ((s.leg l).stats.announces + 1) 4294967295 ∧
        (t.leg l).schedule.quickRetry = garbledLight (8000 - n) light [a] ∧
        t.port = placeAll s.port [⟨some l, some d, s.now, .dropState .found s.now none none none⟩] ∧
        (t.leg l).lastEcho[d] = none ∧ (t.leg l).histories[d] = History.empty ∧ ∀ k : Leg, k ≠ l → t.leg k = s.leg k) ∧
    (∀ (i : Fin 512) (e : EnrolEntry) (d : Drop), (s.blocks.enrolWhere fun e => e.serial == a.serial) = some i →
      s.blocks.enrol[i] = some e → e.binding = some (l, d) →
      ∃ t, exec (.discoveryWindowEnd l light [a]) s = .next t ∧
        (t.leg l).stats.announces = min ((s.leg l).stats.announces + 1) 4294967295 ∧
        (t.leg l).schedule.quickRetry = garbledLight (8000 - n) light [a] ∧ t.blocks.enrol = s.blocks.enrol ∧
        (∀ c : Drop, c ≠ d → t.drop l c = s.drop l c) ∧ (∀ k : Leg, k ≠ l → t.leg k = s.leg k) ∧
        (∀ hold why, (s.drop l d).state = .lost → (s.drop l d).hold = some hold → (s.drop l d).reason = some (.lost why) →
          (t.drop l d).state = .found ∧ (t.drop l d).since = s.now ∧ (t.drop l d).origin = some (.reused hold why) ∧
          (t.drop l d).hold = none ∧ (t.drop l d).reason = none ∧ (t.drop l d).power = min a.power.toNat 31 ∧
          (t.drop l d).level = none ∧ (t.drop l d).missed = 0 ∧ (t.drop l d).nextEcho = 0 ∧ (t.drop l d).rangingAttempts = 0 ∧
          (t.leg l).lastEcho[d] = none ∧ (t.leg l).histories[d] = History.empty) ∧
        ((s.drop l d).state = .retiring → t.drop l d = s.drop l d ∧ t.port = placeAll s.port []) ∧
        ((s.drop l d).state ≠ .lost → (s.drop l d).state ≠ .retiring → t.drop l d = s.drop l d ∧
          t.port = placeAll s.port [⟨some l, some d, s.now, .clash a.serial l d⟩]))

/-- The reply of a ranging window is its one burst whose delimiter is found in the window, whose end lies inside it, whose header CRC is
good and whose drop index is the assigned one, with its start 10 beats before the delimiter measured from the window's and the mean level of
its preamble; two such bursts are no reply (that the burst's first beat may precede the window: log 31, the model's choice). A ranging
window for a RANGING entry, with no hunt and no change of reach since its map: a reply within the leg delay sets rtt, EqD and level, returns
the entry to FOUND and queues a SET_DELAY. A reply beyond the leg delay, which sets the level, and no reply are failed attempts. One short
of the third returns the entry to FOUND; the third, of either cause, raises a RANGING_FAILED notice with it and makes a NEW entry VACANT, a
REUSED one LOST with the hold and the reason it saved, and a RELEASED one LOST with reason NO_RANGING and the leg's hold (R63 to R65, R114).
That RANGING_FAILED is raised before DROP_STATE is the model's choice (log 19). A SET_DELAY that finds no room in the queue goes to the
owed-order list (R64, R67; no room at 40 plain orders, and at 48 orders with fewer plain ones: log 28, the model's choice). An attempt is
abandoned without being counted: the report leaves an entry that is no longer RANGING as it is, and returns a RANGING entry to FOUND with
its figures unchanged and no order generated, while the monitor is HUNTING or VERIFYING or where a SET_REACH was accepted since the map was
built; no notice is raised (R19, R66). That the report applies to an entry that is RANGING, be it anew for a later map, is the model's
choice (log 53). That an entry returned to FOUND keeps its other counts and flags, so that the return is no entry to FOUND, is the model's
choice (log 56). -/
def Obligations.RangingWindowMeasures : Prop :=
  (∀ (from' : Nat) (d : Drop) (bs : List FoundBurst) (a : Int) (level : Nat),
    let valid := fun b : FoundBurst =>
      8 * from' ≤ b.delimiter ∧ b.delimiter + 48 ≤ 64000 ∧ b.crcGood = true ∧ b.header.drop = d
    rangingReply from' d bs = some (a, level) ↔
      ∃ (x : List FoundBurst) (b : FoundBurst) (y : List FoundBurst), bs = x ++ b :: y ∧ valid b ∧ (∀ c ∈ x ++ y, ¬valid c) ∧
        a = (b.delimiter : Int) - 8 * (from' + 10) ∧ level = (b.preamble.map BitVec.toNat).sum / b.preamble.length) ∧
  (∀ (l : Leg) (m : InFlight) (ms : List InFlight) (n : Nat) (g : RangingEntry) (bs : List FoundBurst) (s : State),
    (s.leg l).inFlight = m :: ms → m.map.window = some ⟨.ranging, n⟩ → m.windowDone = false → m.map.ranging = some g →
    m.reachChanged = false → (s.leg l).monitor.state.searching = false → (s.drop l g.drop).state = .ranging →
    (∀ (a : Int) (level : Nat), rangingReply (8000 - n) g.drop bs = some (a, level) →
      a.toNat ≤ 8 * (s.leg l).control.settings.reach → plainRoom (s.leg l).orders = true →
      ∃ t, exec (.rangingWindowEnd l bs) s = .next t ∧
        t.drop l g.drop =
          { s.drop l g.drop with
            state := .found, since := s.now, level := some level, rtt := some a.toNat
            eqd := some (8 * (s.leg l).control.settings.reach - a.toNat) } ∧
        (t.leg l).orders = (s.leg l).orders ++ [OrderEntry.queued (.setDelay none) (some g.drop)] ∧
        (t.leg l).stats.rangingReplies = min ((s.leg l).stats.rangingReplies + 1) 4294967295 ∧
        (∀ c : Drop, c ≠ g.drop → t.drop l c = s.drop l c) ∧ ∀ k : Leg, k ≠ l → t.leg k = s.leg k) ∧
    (∀ (cause : RangingCause) (heard : Option Nat),
      cause = .noReply ∧ rangingReply (8000 - n) g.drop bs = none ∧ heard = (s.drop l g.drop).level ∨
        cause = .outOfReach ∧ (∃ (a : Int) (level : Nat), rangingReply (8000 - n) g.drop bs = some (a, level) ∧
          8 * (s.leg l).control.settings.reach < a.toNat ∧ heard = some level) →
      ∃ t, exec (.rangingWindowEnd l bs) s = .next t ∧
        ((s.drop l g.drop).rangingAttempts < 2 →
          t.drop l g.drop =
            { s.drop l g.drop with
              state := .found, since := s.now, level := heard
              rangingAttempts := (s.drop l g.drop).rangingAttempts + 1 } ∧
          (t.leg l).orders = (s.leg l).orders) ∧
        ((s.drop l g.drop).rangingAttempts = 2 →
          ((s.drop l g.drop).origin = some .new → (s.leg l).control.state = .on →
            t.drop l g.drop = DropEntry.vacant s.now ∧
            t.port = placeAll s.port
              [⟨some l, some g.drop, s.now, .rangingFailed (s.drop l g.drop).serial (some .new) .vacant cause⟩,
                ⟨some l, some g.drop, s.now, .dropState .vacant s.now none none none⟩]) ∧
          (∀ hold why, (s.drop l g.drop).origin = some (.reused hold why) →
            EntersLost s t l g.drop why hold ∧ (t.drop l g.drop).since = s.now ∧ (t.drop l g.drop).level = heard ∧
            t.port = placeAll s.port
              [⟨some l, some g.drop, s.now, .rangingFailed (s.drop l g.drop).serial (some (.reused hold why)) .lost cause⟩,
                ⟨some l, some g.drop, s.now, .dropState .lost s.now (some (.lost why)) none none⟩]) ∧
          ((s.drop l g.drop).origin = some .released →
            EntersLost s t l g.drop .noRanging ((s.leg l).control.settings.lostHold * 4096) ∧
            (t.drop l g.drop).level = heard ∧
            t.port = placeAll s.port
              [⟨some l, some g.drop, s.now, .rangingFailed (s.drop l g.drop).serial (some .released) .lost cause⟩,
                ⟨some l, some g.drop, s.now, .dropState .lost s.now (some (.lost .noRanging)) none none⟩])) ∧
        (cause = .noReply →
          (t.leg l).stats.rangingNoReplies = min ((s.leg l).stats.rangingNoReplies + 1) 4294967295 ∧
          (t.leg l).stats.rangingReplies = (s.leg l).stats.rangingReplies) ∧
        (cause = .outOfReach →
          (t.leg l).stats.rangingReplies = min ((s.leg l).stats.rangingReplies + 1) 4294967295 ∧
          (t.leg l).stats.rangingNoReplies = (s.leg l).stats.rangingNoReplies) ∧
        (∀ c : Drop, c ≠ g.drop → t.drop l c = s.drop l c) ∧ ∀ k : Leg, k ≠ l → t.leg k = s.leg k)) ∧
  (∀ (l : Leg) (m : InFlight) (ms : List InFlight) (n : Nat) (g : RangingEntry) (bs : List FoundBurst) (s : State),
    (s.leg l).inFlight = m :: ms → m.map.window = some ⟨.ranging, n⟩ → m.windowDone = false → m.map.ranging = some g →
    (m.reachChanged = false → (s.leg l).monitor.state.searching = false → (s.drop l g.drop).state = .ranging →
      ∀ (a : Int) (level : Nat), rangingReply (8000 - n) g.drop bs = some (a, level) →
      a.toNat ≤ 8 * (s.leg l).control.settings.reach → plainRoom (s.leg l).orders = false →
      ∃ t, exec (.rangingWindowEnd l bs) s = .next t ∧
        t.drop l g.drop =
          { s.drop l g.drop with
            state := .found, since := s.now, level := some level, rtt := some a.toNat
            eqd := some (8 * (s.leg l).control.settings.reach - a.toNat) } ∧
        (t.leg l).orders = (s.leg l).orders ∧
        (t.leg l).owed =
          (if (⟨g.drop, .setDelay⟩ : OwedItem) ∈ (s.leg l).owed then (s.leg l).owed
          else (s.leg l).owed ++ [⟨g.drop, .setDelay⟩]) ∧
        (∀ c : Drop, c ≠ g.drop → t.drop l c = s.drop l c) ∧ ∀ k : Leg, k ≠ l → t.leg k = s.leg k) ∧
    (∀ e : DropEntry,
      (s.drop l g.drop).state ≠ .ranging ∧ e = s.drop l g.drop ∨
        (s.drop l g.drop).state = .ranging ∧ ((s.leg l).monitor.state.searching = true ∨ m.reachChanged = true) ∧
          e = { s.drop l g.drop with state := .found, since := s.now } →
      ∃ t, exec (.rangingWindowEnd l bs) s = .next t ∧ t.drop l g.drop = e ∧ t.port = placeAll s.port [] ∧
        (t.leg l).inFlight = { m with windowDone := true } :: ms ∧
        (t.leg l).orders = (s.leg l).orders ∧ (t.leg l).owed = (s.leg l).owed ∧ (t.leg l).lanes = (s.leg l).lanes ∧
        (t.leg l).meters = (s.leg l).meters ∧ (t.leg l).monitor = (s.leg l).monitor ∧
        (t.leg l).stats =
          (if (rangingReply (8000 - n) g.drop bs).isSome then
            { (s.leg l).stats with rangingReplies := min ((s.leg l).stats.rangingReplies + 1) 4294967295 }
          else { (s.leg l).stats with rangingNoReplies := min ((s.leg l).stats.rangingNoReplies + 1) 4294967295 }) ∧
        (∀ c : Drop, c ≠ g.drop → t.drop l c = s.drop l c) ∧ ∀ k : Leg, k ≠ l → t.leg k = s.leg k))

/-! ### The Rogue Monitor -/

/-- The round report of a map held to its end: of each burst the run of lit beats right behind its window, up to 64 beats, the end
of the next burst's guard, or, behind the last burst, the start of a discovery or ranging window or the frame's end, reported as a
tail of its drop if it is not 0 (R115); the lit beats behind the last tail run, idle or in a watch gap or probe window, as stray
light, those of a probe window also as the probe count, so that beats of a tail run count in neither (log 26, the model's choice);
the mean LEVEL over each dark region of 64 beats or more; the MISFIT and qualifying GARBLED windows (R116). The end of a receive
round lets its map go, its windows judged or not (log 23, the model's choice). With the monitor DISARMED or in HOLDOFF nothing
else changes, nor where the span does not count the round; with it WATCHING or SUSPECT within a span that does, the span's
position is one higher, STRAY, CLASH, TAIL and GLOW count what the report shows, each to 65,535, the dark samples are added up,
and the tail drop and the mixed flag follow the long tails; a report that fills the span does what SPAN_END does with that report
(R103, R133, R134). In HUNTING and VERIFYING a round that is no observation round is set aside, an observation round is read and
counted, and the last one does what STEP_READING does with its report (R142, R143). -/
def Obligations.RoundReportFeedsTheSpan : Prop :=
  (∀ (m : InFlight) (light : FrameLight), ∃ runs : List Nat, runs.length = m.map.bursts.length ∧
    (∀ (i : Nat) (b : Burst) (run : Nat), m.map.bursts[i]? = some b → runs[i]? = some run → ∃ last : Nat,
      (∀ c, m.map.bursts[i + 1]? = some c → last = c.start + 4) ∧
      (m.map.bursts[i + 1]? = none →
        (∀ w, m.map.window = some w → w.kind = .discovery ∨ w.kind = .ranging → last = 8000 - w.length) ∧
        ((∀ w, m.map.window = some w → w.kind ≠ .discovery ∧ w.kind ≠ .ranging) → last = 8000)) ∧
      run ≤ 64 ∧ run ≤ last - (b.start + b.length) ∧ (∀ j, j < run → litAt light (b.start + b.length + j) = true) ∧
      (run < 64 → run < last - (b.start + b.length) → litAt light (b.start + b.length + run) = false)) ∧
    let dark := ((m.map.bursts.getLast?.map fun b => b.start + b.length).getD 0) + runs.getLast?.getD 0
    let quiet := 8000 - (m.map.window.map TailWindow.length).getD 0
    (m.report light).round = m.map.round ∧ (m.report light).misfit = m.misfit ∧ (m.report light).garbled = m.garbled ∧
    (m.report light).tails = (((m.map.bursts.map Burst.drop).zip runs).filter fun x => decide (0 < x.2)) ∧
    (∀ seen : Option Region,
      (seen = some .watch ∧ ∃ w, m.map.window = some w ∧ w.kind = .watch) ∨
        (seen = some .probe ∧ ∃ w, m.map.window = some w ∧ w.kind = .probe) ∨
        (seen = none ∧ ∀ w, m.map.window = some w → w.kind ≠ .watch ∧ w.kind ≠ .probe) →
      (m.report light).stray =
        litCount light dark quiet + (if seen = none then 0 else litCount light (max quiet dark) 8000) ∧
      (m.report light).probeCount = (if seen = some .probe then some (litCount light (max quiet dark) 8000) else none) ∧
      (m.report light).samples =
        (if dark + 64 ≤ quiet then [(.idle, levelMean light dark quiet)] else []) ++
        (match seen with
        | some k => if max quiet dark + 64 ≤ 8000 then [(k, levelMean light (max quiet dark) 8000)] else []
        | none => []))) ∧
  ∀ (l : Leg) (m : InFlight) (ms : List InFlight) (light : FrameLight) (s : State), (s.leg l).inFlight = m :: ms →
    ((s.leg l).monitor.state = .disarmed ∨ (s.leg l).monitor.state = .holdoff ∨
        ((s.leg l).monitor.state = .watching ∨ (s.leg l).monitor.state = .suspect) ∧
          (∀ sp, (s.leg l).monitor.span = some sp → sp.countFrom.notAfter m.map.round = false) ∨
        ((s.leg l).monitor.state = .hunting ∨ (s.leg l).monitor.state = .verifying) ∧
          (∀ st first, (s.leg l).monitor.step = some st → st.firstObs = some first →
            (s.leg l).monitor.settings.probeSpan ≤ first.roundsTo m.map.round) →
      exec (.receiveRoundEnd l light) s = .next ((s.mapLeg l fun r => { r with inFlight := ms }).notify [])) ∧
    (∀ sp, (s.leg l).monitor.state = .watching ∨ (s.leg l).monitor.state = .suspect → (s.leg l).monitor.span = some sp →
      sp.countFrom.notAfter m.map.round = true → (s.leg l).monitor.settings.watchSpan ≤ sp.position + 1 →
      ∃ t, exec (.receiveRoundEnd l light) s = .next t ∧
        exec (.spanEnd l (m.report light)) (s.mapLeg l fun r => { r with inFlight := ms }) = .next t) ∧
    (∀ st first, (s.leg l).monitor.state = .hunting ∨ (s.leg l).monitor.state = .verifying → (s.leg l).monitor.step = some st →
      st.firstObs = some first →
      (first.roundsTo m.map.round + 1 < (s.leg l).monitor.settings.probeSpan →
        exec (.receiveRoundEnd l light) s =
          .next ((s.mapLeg l fun r =>
            { r with
              inFlight := ms, monitor := { r.monitor with step := some (st.observe r.monitor (m.report light)) } }).notify [])) ∧
      (first.roundsTo m.map.round + 1 = (s.leg l).monitor.settings.probeSpan →
        ∃ t, exec (.receiveRoundEnd l light) s = .next t ∧
          exec (.stepReading l (m.report light)) (s.mapLeg l fun r => { r with inFlight := ms }) = .next t)) ∧
    (∀ sp, (s.leg l).monitor.state = .watching ∨ (s.leg l).monitor.state = .suspect → (s.leg l).monitor.span = some sp → sp.countFrom.notAfter m.map.round = true →
      sp.position + 1 < (s.leg l).monitor.settings.watchSpan → ∃ sp' : Span,
        exec (.receiveRoundEnd l light) s =
          .next ((s.mapLeg l fun r =>
            { r with inFlight := ms, monitor := { r.monitor with span := some sp' } }).notify []) ∧
        sp'.position = sp.position + 1 ∧ sp'.learning = sp.learning ∧ sp'.countFrom = sp.countFrom ∧
        sp'.counts.stray =
          min (sp.counts.stray + if (s.leg l).monitor.settings.strayBeatMin ≤ (m.report light).stray then 1 else 0) 65535 ∧
        sp'.counts.clash = min (sp.counts.clash + (m.misfit + m.garbled)) 65535 ∧
        sp'.counts.tail =
          min (sp.counts.tail +
            ((m.report light).tails.filter fun x => x.2 > (s.leg l).monitor.settings.tailLimit).length) 65535 ∧
        sp'.counts.glow =
          min (sp.counts.glow +
            match (s.leg l).monitor.reference with
            | some ref =>
              if sp.learning then 0
              else ((m.report light).samples.filter fun x => x.2 > ref + (s.leg l).monitor.settings.glowMargin).length
            | none => 0) 65535 ∧
        sp'.sampleSum = sp.sampleSum + ((m.report light).samples.map Prod.snd).sum ∧
        sp'.sampleCount = sp.sampleCount + (m.report light).samples.length ∧
        (∀ long, long = ((m.report light).tails.filter fun x => x.2 > (s.leg l).monitor.settings.tailLimit).map Prod.fst →
          (long = [] → sp'.tailDrop = sp.tailDrop ∧ sp'.mixed = sp.mixed) ∧
          (∀ d ds, sp.tailDrop = none → long = d :: ds →
            sp'.tailDrop = some d ∧ sp'.mixed = (sp.mixed || ds.any fun c => c != d)) ∧
          (∀ d, sp.tailDrop = some d → sp'.tailDrop = some d ∧ sp'.mixed = (sp.mixed || long.any fun c => c != d))))

/-- A span is suspicious in mode ANY when an enabled signature, one with a threshold above 0, has a count of at least its threshold, and in
mode ALL when one is enabled and every enabled one has (R136). The report that ends a span. A learning span with samples gives the reference
its mean and an ordinary span follows with the next round; one without samples sets no reference, and the span that follows learns again.
Neither raises a suspicion. An ordinary span leaves the reference, or, in TRACKING mode with samples, gives it its mean; the span that
follows counts from the next round (log 10, the model's choice). Of a WATCHING monitor, one that is suspicious leads to SUSPECT with its
counts in the notice and one that is not leaves it WATCHING. Of a SUSPECT monitor, one that is not suspicious, or that ends before the
confirm gap or after the confirm window, leaves it SUSPECT with its first-suspicion stamp (R133, R135, R136, R139, R140, R154). -/
def Obligations.SpanEndIsEvaluated : Prop :=
  (∀ (g : MonitorSettings) (c : Signatures),
    let pairs := [(g.thresholds.stray, c.stray), (g.thresholds.clash, c.clash), (g.thresholds.tail, c.tail),
      (g.thresholds.glow, c.glow)]
    suspicious g c = true ↔
      g.combination = .any ∧ (∃ x ∈ pairs, 0 < x.1 ∧ x.1 ≤ x.2) ∨
        g.combination = .all ∧ (∃ x ∈ pairs, 0 < x.1) ∧ ∀ x ∈ pairs, 0 < x.1 → x.1 ≤ x.2) ∧
  ∀ (l : Leg) (r : RoundReport) (sp : Span) (s : State),
    (s.leg l).monitor.span = some sp → sp.countFrom.notAfter r.round = true →
    (s.leg l).monitor.settings.watchSpan ≤ sp.position + 1 →
    let counts := (sp.count (s.leg l).monitor r).counts
    let mean := (sp.sampleSum + (r.samples.map Prod.snd).sum) / (sp.sampleCount + r.samples.length)
    ((s.leg l).monitor.state = .watching ∨ (s.leg l).monitor.state = .suspect → sp.learning = true →
      ∃ t, exec (.spanEnd l r) s = .next t ∧
        (t.leg l).monitor =
          { (s.leg l).monitor with
            reference := if sp.sampleCount + r.samples.length = 0 then (s.leg l).monitor.reference else some mean
            span := some
              { position := 0, learning := decide (sp.sampleCount + r.samples.length = 0), counts := ⟨0, 0, 0, 0⟩
                sampleSum := 0, sampleCount := 0, tailDrop := none, mixed := false, countFrom := r.round.next } } ∧
        (t.leg l).drops = (s.leg l).drops ∧ (t.leg l).orders = (s.leg l).orders ∧
        t.port = placeAll s.port [] ∧ ∀ k : Leg, k ≠ l → t.leg k = s.leg k) ∧
    (sp.learning = false → (s.leg l).monitor.state = .watching ∨ (s.leg l).monitor.state = .suspect →
      ∃ t, exec (.spanEnd l r) s = .next t ∧
        ((s.leg l).monitor.settings.referenceMode = .tracking → sp.sampleCount + r.samples.length ≠ 0 →
          (t.leg l).monitor.reference = some mean) ∧
        ((s.leg l).monitor.settings.referenceMode = .fixed ∨ sp.sampleCount + r.samples.length = 0 →
          (t.leg l).monitor.reference = (s.leg l).monitor.reference) ∧
        (((s.leg l).monitor.state = .watching ∨ suspicious (s.leg l).monitor.settings counts = false) →
          (t.leg l).drops = (s.leg l).drops ∧ (t.leg l).orders = (s.leg l).orders ∧
          (t.leg l).monitor.span = some
            { position := 0, learning := (t.leg l).monitor.reference.isNone, counts := ⟨0, 0, 0, 0⟩, sampleSum := 0
              sampleCount := 0, tailDrop := none, mixed := false, countFrom := r.round.next }) ∧
        ((s.leg l).monitor.state = .watching → suspicious (s.leg l).monitor.settings counts = true →
          (t.leg l).monitor.state = .suspect ∧ (t.leg l).monitor.suspicion = some r.round ∧
          t.port = placeAll s.port [⟨some l, none, s.now, .rogueSuspect .suspect counts none⟩]) ∧
        ((s.leg l).monitor.state = .watching → suspicious (s.leg l).monitor.settings counts = false →
          (t.leg l).monitor.state = .watching ∧ t.port = placeAll s.port []) ∧
        (∀ first, (s.leg l).monitor.state = .suspect → (s.leg l).monitor.suspicion = some first →
          (suspicious (s.leg l).monitor.settings counts = false ∨
              first.roundsTo r.round < (s.leg l).monitor.settings.confirmGap ∨
              (s.leg l).monitor.settings.confirmWindow < first.roundsTo r.round) →
          (t.leg l).monitor.state = .suspect ∧ (t.leg l).monitor.suspicion = some first ∧ t.port = placeAll s.port [] ∧
          (t.leg l).drops = (s.leg l).drops) ∧
        ∀ k : Leg, k ≠ l → t.leg k = s.leg k)

/-- An observation round is lit by a probe count of the stray minimum or a probe sample above reference and glow margin, in VERIFYING's
control step also by a long tail of the suspect; a step reads lit with half its rounds lit, rounded up, or in that control step with as many
such tails as the TAIL threshold (R143, R147). A suspicious span of a SUSPECT monitor that ends from the confirm gap to the confirm window
behind the first suspicion confirms it: with its tails of one drop alone, tripped, and the drop none of VACANT, QUARANTINED and RETIRING,
the monitor is VERIFYING that drop and keeps the counts; without counted tails, with tails of several drops, with TAIL disabled or not
tripped, or with a tail drop that is VACANT, QUARANTINED or RETIRING, it is HUNTING among every drop that is none of these; a ROGUE_SUSPECT
notice reports it and the control step begins, with two settle rounds (R141, R142, R145, R154). A reading leads to the next step as R146 and
R147 give it: with the control step lit, to the full hush of the candidates; full hush dark, to a split or, of a single one, a verify step;
a split, to the candidates it leaves, halved again or verified; VERIFYING's control step lit, to the verify step, and its verify step lit,
to HUNTING among every candidate, the suspect with them, and the full hush, reported by a ROGUE_SUSPECT notice with the counts kept and
numbered on from the check (log 49, the model's choice). The step that begins is numbered on, its HUSH_SET for 4 rounds more than the
observation rounds is queued, the drops named in it are HUSHED with FOUND for RANGING as resume state, and HUSHED ones not named return
(R142 to R144, R146, R147). Verify dark leads to the final control: an UNHUSH_ALL, with the last candidate alone left HUSHED (R146). A
step's elapsed figure 0 in the round it begins, and the first observation round of a step without a broadcast, are the model's choice (log
22). -/
def Obligations.SuspicionIsConfirmedAndNarrowed : Prop :=
  (∀ (m : Monitor) (st : ProbeStep) (r : RoundReport),
    (litRound m st r = true ↔
      (∃ n, r.probeCount = some n ∧ m.settings.strayBeatMin ≤ n) ∨
        (∃ ref v, m.reference = some ref ∧ (Region.probe, v) ∈ r.samples ∧ ref + m.settings.glowMargin < v) ∨
        m.state = .verifying ∧ st.kind = .control ∧
          ∃ d n, m.suspectDrop = some d ∧ (d, n) ∈ r.tails ∧ m.settings.tailLimit < n) ∧
    (st.readsLit m = true ↔
      m.settings.probeSpan ≤ 2 * st.lit ∨
        m.state = .verifying ∧ st.kind = .control ∧ 0 < m.settings.thresholds.tail ∧
          m.settings.thresholds.tail ≤ st.suspectTails) ∧
    st.observe m r =
      { st with
        read := st.read + 1, lit := if litRound m st r = true then st.lit + 1 else st.lit
        suspectTails :=
          st.suspectTails +
            (r.tails.filter fun x => decide (m.suspectDrop = some x.1 ∧ m.settings.tailLimit < x.2)).length }) ∧
  (∀ (l : Leg) (r : RoundReport) (sp : Span) (first : Stamp) (s : State), (s.leg l).monitor.state = .suspect →
    (s.leg l).monitor.span = some sp → (s.leg l).monitor.suspicion = some first → sp.countFrom.notAfter r.round = true →
    (s.leg l).monitor.settings.watchSpan ≤ sp.position + 1 → sp.learning = false →
    suspicious (s.leg l).monitor.settings (sp.count (s.leg l).monitor r).counts = true →
    (s.leg l).monitor.settings.confirmGap ≤ first.roundsTo r.round →
    first.roundsTo r.round ≤ (s.leg l).monitor.settings.confirmWindow →
    let full := sp.count (s.leg l).monitor r
    ∃ t, exec (.spanEnd l r) s = .next t ∧ (t.leg l).monitor.suspicion = none ∧ (t.leg l).monitor.span = none ∧
      (t.leg l).monitor.step = some
        { kind := .control, number := 1, set := [], elapsed := 0, read := 0, lit := 0, suspectTails := 0
          firstObs := some (s.now.plus 2) } ∧
      ((∀ d, full.tailDrop = some d → full.mixed = true ∨ (s.leg l).monitor.settings.thresholds.tail = 0 ∨
          full.counts.tail < (s.leg l).monitor.settings.thresholds.tail ∨ (s.drop l d).state = .vacant ∨
          (s.drop l d).state = .quarantined ∨ (s.drop l d).state = .retiring) →
        (t.leg l).monitor.state = .hunting ∧ (t.leg l).monitor.suspectDrop = none ∧
        (∃ cs, (t.leg l).monitor.candidates = some cs ∧ cs.Pairwise (· < ·) ∧
          ∀ d : Drop, d ∈ cs ↔
            (s.drop l d).state ≠ .vacant ∧ (s.drop l d).state ≠ .quarantined ∧ (s.drop l d).state ≠ .retiring) ∧
        t.port = placeAll s.port [⟨some l, none, s.now, .rogueSuspect .hunting full.counts none⟩]) ∧
      (∀ d, full.tailDrop = some d → full.mixed = false → 0 < (s.leg l).monitor.settings.thresholds.tail →
        (s.leg l).monitor.settings.thresholds.tail ≤ full.counts.tail → (s.drop l d).state ≠ .vacant →
        (s.drop l d).state ≠ .quarantined → (s.drop l d).state ≠ .retiring →
        (t.leg l).monitor.state = .verifying ∧ (t.leg l).monitor.suspectDrop = some d ∧
        (t.leg l).monitor.candidates = none ∧ (t.leg l).monitor.keptCounts = some full.counts ∧
        t.port = placeAll s.port [⟨some l, none, s.now, .rogueSuspect .verifying full.counts (some d)⟩]) ∧
      (t.leg l).drops = (s.leg l).drops ∧ (t.leg l).orders = (s.leg l).orders ∧ ∀ k : Leg, k ≠ l → t.leg k = s.leg k) ∧
  (∀ (l : Leg) (r : RoundReport) (st : ProbeStep) (cs set : List Drop) (next : StepKind) (s : State),
    (s.leg l).monitor.step = some st → (s.leg l).monitor.lastObserves r.round = true → (s.leg l).orders.length < 48 →
    let lit := (st.observe (s.leg l).monitor r).readsLit (s.leg l).monitor
    let kept := if lit then cs.filter fun d => !(st.set.contains d) else cs.filter fun d => st.set.contains d
    ((s.leg l).monitor.state = .hunting ∧ (s.leg l).monitor.candidates = some cs ∧
        (st.kind = .control ∧ lit = true ∧ cs ≠ [] ∧ next = .fullHush ∧ set = cs ∨
          st.kind = .fullHush ∧ lit = false ∧ 2 ≤ cs.length ∧ next = .split ∧ set = cs.take ((cs.length + 1) / 2) ∨
          st.kind = .fullHush ∧ lit = false ∧ cs.length = 1 ∧ next = .verify ∧ set = cs ∨
          st.kind = .split ∧ 2 ≤ kept.length ∧ next = .split ∧ set = kept.take ((kept.length + 1) / 2) ∨
          st.kind = .split ∧ kept.length = 1 ∧ next = .verify ∧ set = kept) ∨
      (s.leg l).monitor.state = .verifying ∧ (s.leg l).monitor.candidates = none ∧ cs = [] ∧
        (∃ d, (s.leg l).monitor.suspectDrop = some d ∧ set = [d]) ∧ st.kind = .control ∧ lit = true ∧ next = .verify) →
    ∃ t, exec (.stepReading l r) s = .next t ∧ (t.leg l).monitor.state = (s.leg l).monitor.state ∧
      (t.leg l).monitor.step = some
        { kind := next, number := st.number + 1, set := set, elapsed := 0, read := 0, lit := 0, suspectTails := 0
          firstObs := none } ∧
      (st.kind = .split → (t.leg l).monitor.candidates = some kept) ∧
      (st.kind ≠ .split → (t.leg l).monitor.candidates = (s.leg l).monitor.candidates) ∧
      (t.leg l).orders = (s.leg l).ordersBehindReturn (fun d => !(set.contains d)) ++
        [{ OrderEntry.queued (.hushSet set ((s.leg l).monitor.settings.probeSpan + 4)) none with forStep := true }] ∧
      (∀ d ∈ set, (s.drop l d).state.hushable = true →
        (t.drop l d).state = .hushed ∧ (t.drop l d).since = s.now ∧ ∃ back, (t.drop l d).resume = some back ∧
          back.state = (if (s.drop l d).state = .ranging then .found else (s.drop l d).state) ∧
          back.hold = (s.drop l d).hold ∧ back.reason = (s.drop l d).reason) ∧
      (∀ d ∈ set, (s.drop l d).state = .hushed → t.drop l d = s.drop l d) ∧
      (∀ d back, d ∉ set → (s.drop l d).state = .hushed → (s.drop l d).resume = some back →
        (t.drop l d).state = back.state) ∧
      (∀ d, d ∉ set → (s.drop l d).state ≠ .hushed → t.drop l d = s.drop l d) ∧ ∀ k : Leg, k ≠ l → t.leg k = s.leg k) ∧
  (∀ (l : Leg) (r : RoundReport) (st : ProbeStep) (d : Drop) (s : State), (s.leg l).monitor.state = .hunting →
    (s.leg l).monitor.step = some st → st.kind = .verify → (s.leg l).monitor.candidates = some [d] →
    (s.leg l).monitor.lastObserves r.round = true → (s.leg l).orders.length < 48 →
    (st.observe (s.leg l).monitor r).readsLit (s.leg l).monitor = false →
    ∃ t, exec (.stepReading l r) s = .next t ∧
      (t.leg l).monitor.step = some
        { kind := .finalControl, number := st.number + 1, set := [], elapsed := 0, read := 0, lit := 0, suspectTails := 0
          firstObs := none } ∧
      (t.leg l).orders =
        (s.leg l).ordersBehindReturn (fun c => c != d) ++ [{ OrderEntry.queued .unhushAll none with forStep := true }] ∧
      t.drop l d = s.drop l d ∧
      (∀ c back, c ≠ d → (s.drop l c).state = .hushed → (s.drop l c).resume = some back → (t.drop l c).state = back.state) ∧
      ∀ k : Leg, k ≠ l → t.leg k = s.leg k) ∧
  (∀ (l : Leg) (r : RoundReport) (st : ProbeStep) (d : Drop) (counts : Signatures) (s : State),
    (s.leg l).monitor.state = .verifying → (s.leg l).monitor.step = some st → st.kind = .verify →
    (s.leg l).monitor.suspectDrop = some d → (s.leg l).monitor.keptCounts = some counts →
    (s.leg l).monitor.lastObserves r.round = true → (s.leg l).orders.length < 48 →
    (st.observe (s.leg l).monitor r).readsLit (s.leg l).monitor = true →
    ∃ t cs, exec (.stepReading l r) s = .next t ∧ (t.leg l).monitor.state = .hunting ∧ (t.leg l).monitor.suspectDrop = none ∧
      (t.leg l).monitor.candidates = some cs ∧ cs.Pairwise (· < ·) ∧
      (∀ c : Drop, c ∈ cs ↔
        (s.drop l c).state ≠ .vacant ∧ (s.drop l c).state ≠ .quarantined ∧ (s.drop l c).state ≠ .retiring) ∧
      (t.leg l).monitor.step = some
        { kind := .fullHush, number := st.number + 1, set := cs, elapsed := 0, read := 0, lit := 0, suspectTails := 0
          firstObs := none } ∧
      (t.leg l).orders = (s.leg l).orders ++
        [{ OrderEntry.queued (.hushSet cs ((s.leg l).monitor.settings.probeSpan + 4)) none with forStep := true }] ∧
      (∀ c ∈ cs, (s.drop l c).state ≠ .hushed → (t.drop l c).state = .hushed ∧ (t.drop l c).since = s.now ∧
        ∃ back, (t.drop l c).resume = some back ∧
          back.state = (if (s.drop l c).state = .ranging then .found else (s.drop l c).state)) ∧
      (∀ c, (s.drop l c).state = .hushed ∨ c ∉ cs → t.drop l c = s.drop l c) ∧
      t.port = placeAll s.port [⟨some l, none, s.now, .rogueSuspect .hunting counts (some d)⟩] ∧
      ∀ k : Leg, k ≠ l → t.leg k = s.leg k)

/-- A reading ends a hunt or a check in its verdict: a dark control step or final control INCONCLUSIVE, a lit full hush or verify
step of a hunt, or a split that leaves no candidate, UNATTRIBUTED (and a lit control step of a hunt whose list was empty when it
was built: log 47, the model's choice). The verdict with its step count is recorded and raised, an UNHUSH_ALL is queued, every
HUSHED entry returns to its resume state, and the hold-off of so many cycles begins (R143, R146, R147, R149). A lit final control
confirms the hunt's candidate, and a dark verify step the suspect of a check: the drop is QUARANTINED with reason ROGUE, its
orders are purged and a MUTE is queued, its lanes are SUSPENDED without credit and its meter is marked with an outage, DROP_STATE
and ROGUE_CONFIRMED are raised, and the monitor is WATCHING within a new span that counts from the next round (R146 to R148, R154;
the span's beginning: R133). The other legs stay. A drop lost in a search leaves the candidate list; the last candidate's or the
suspect's leaving ends the search UNATTRIBUTED with the number of the step in progress, counted as taken (R145, R147, R149;
through the eighth miss as a command: log 2, that count: log 54, the model's choices). -/
def Obligations.HuntsEndInTheirVerdict : Prop :=
  (∀ (l : Leg) (r : RoundReport) (st : ProbeStep) (s : State), (s.leg l).monitor.step = some st →
    (s.leg l).monitor.lastObserves r.round = true → (s.leg l).orders.length < 48 →
    let lit := (st.observe (s.leg l).monitor r).readsLit (s.leg l).monitor
    (∀ (verdict : VerdictKind) (notice : NoticeBody),
      (verdict = .inconclusive ∧ notice = .rogueInconclusive st.kind st.number ∧ lit = false ∧
          ((s.leg l).monitor.state = .hunting ∧ (st.kind = .control ∨ st.kind = .finalControl) ∨
            (s.leg l).monitor.state = .verifying ∧ st.kind = .control) ∨
        verdict = .unattributed ∧ notice = .rogueUnattributed st.kind st.number ∧ (s.leg l).monitor.state = .hunting ∧
          (lit = true ∧ (st.kind = .fullHush ∨ st.kind = .verify) ∨
            lit = true ∧ st.kind = .control ∧ (s.leg l).monitor.candidates = some [] ∨
            st.kind = .split ∧ ∃ cs, (s.leg l).monitor.candidates = some cs ∧
              ∀ d ∈ cs, lit = decide (d ∈ st.set))) →
      ∃ t, exec (.stepReading l r) s = .next t ∧
        (t.leg l).monitor.state = .holdoff ∧ (t.leg l).monitor.step = none ∧ (t.leg l).monitor.candidates = none ∧
        (t.leg l).monitor.suspectDrop = none ∧ (t.leg l).monitor.span = none ∧
        (t.leg l).monitor.holdOffLeft = some ((s.leg l).monitor.settings.holdOff * 4096) ∧
        (t.leg l).monitor.lastVerdict = some ⟨verdict, s.now, st.number⟩ ∧
        (t.leg l).monitor.reference = (s.leg l).monitor.reference ∧
        (t.leg l).orders = (s.leg l).ordersBehindReturn (fun _ => true) ++ [OrderEntry.queued .unhushAll none] ∧
        (∀ (d : Drop) (back : Resume), (s.drop l d).state = .hushed → (s.drop l d).resume = some back →
          (t.drop l d).state = back.state) ∧
        (∀ d : Drop, (s.drop l d).state ≠ .hushed → t.drop l d = s.drop l d) ∧
        ((∀ d back, (s.drop l d).state = .hushed → (s.drop l d).resume = some back → back.changed = false) →
          t.port = placeAll s.port [⟨some l, none, s.now, notice⟩]) ∧
        ∀ k : Leg, k ≠ l → t.leg k = s.leg k) ∧
    (∀ (d : Drop) (cs : List Drop),
      (s.leg l).monitor.state = .hunting ∧ st.kind = .finalControl ∧ lit = true ∧ (s.leg l).monitor.candidates = some (d :: cs) ∨
        (s.leg l).monitor.state = .verifying ∧ st.kind = .verify ∧ lit = false ∧ (s.leg l).monitor.suspectDrop = some d →
      ∃ t, exec (.stepReading l r) s = .next t ∧
        (t.drop l d).state = .quarantined ∧ (t.drop l d).reason = some .rogue ∧ (t.drop l d).since = s.now ∧
        (t.drop l d).resume = none ∧ (t.drop l d).hold = none ∧ (t.drop l d).serial = (s.drop l d).serial ∧
        (t.drop l d).enrolRef = (s.drop l d).enrolRef ∧ (t.drop l d).rtt = (s.drop l d).rtt ∧
        (t.drop l d).eqd = (s.drop l d).eqd ∧ (t.drop l d).power = (s.drop l d).power ∧
        (t.leg l).orders =
          ((s.leg l).orders.filter fun e => e.target != some d) ++ [OrderEntry.queued .mute (some d)] ∧
        (∀ n x, (t.leg l).lanes[(n : Fin 256)] = some x → x.owner = d → x.state = .suspended ∧ ∀ c, x.credit = some c → c = 0) ∧
        (∀ m, s.meter l d = some m → t.meter l d = some { m with flags := { m.flags with outage := true } }) ∧
        (t.leg l).monitor.state = .watching ∧ (t.leg l).monitor.step = none ∧ (t.leg l).monitor.candidates = none ∧
        (t.leg l).monitor.suspectDrop = none ∧
        (t.leg l).monitor.lastVerdict = some ⟨.confirmed d, s.now, st.number⟩ ∧
        ((s.leg l).control.state ≠ .retiming → (t.leg l).monitor.span = some
          { position := 0, learning := (s.leg l).monitor.reference.isNone, counts := ⟨0, 0, 0, 0⟩, sampleSum := 0
            sampleCount := 0, tailDrop := none, mixed := false, countFrom := s.boundary }) ∧
        (∃ checked : Bool, (checked = true ↔ (s.leg l).monitor.state = .verifying) ∧
          t.port = placeAll s.port
            [⟨some l, some d, s.now,
                .dropState .quarantined s.now (some .rogue) none none⟩,
              ⟨some l, some d, s.now, .rogueConfirmed (s.drop l d).serial checked st.number⟩]) ∧
        (∀ c : Drop, c ≠ d → t.drop l c = s.drop l c) ∧ ∀ k : Leg, k ≠ l → t.leg k = s.leg k)) ∧
  (∀ (l : Leg) (d : Drop) (st : ProbeStep) (s : State), (s.leg l).monitor.state.searching = true →
    (s.leg l).monitor.step = some st → (s.drop l d).state.heard = true → 7 ≤ (s.drop l d).missed → (s.leg l).orders.length < 48 →
    ∃ t, exec (.missedCountLimit l d) s = .next t ∧ (t.drop l d).state = .lost ∧ SearchLeft s t l d s.now ∧
      ((s.leg l).monitor.endsWithout d = false →
        (t.leg l).orders = ((s.leg l).orders.filter fun e => e.target != some d) ∧
        t.port = placeAll s.port [⟨some l, some d, s.now, .dropState .lost s.now (some (.lost .silent)) none none⟩]) ∧
      ((s.leg l).monitor.endsWithout d = true →
        (t.leg l).orders =
          (((s.leg l).ordersBehindReturn fun _ => true).filter fun e => e.target != some d) ++ [OrderEntry.queued .unhushAll none] ∧
        ((∀ c back, (s.drop l c).state = .hushed → (s.drop l c).resume = some back → back.changed = false) →
          t.port = placeAll s.port
            [⟨some l, some d, s.now, .dropState .lost s.now (some (.lost .silent)) none none⟩,
              ⟨some l, none, s.now, .rogueUnattributed st.kind st.number⟩])) ∧
      ∀ k : Leg, k ≠ l → t.leg k = s.leg k)

/-- ROGUE_ARM on a DISARMED monitor of a leg in ON makes it WATCHING with a learning span from the next round; on an armed monitor it is
answered OK and changes nothing; on a leg not in ON it is refused BUSY. ROGUE_SET stores its eleven settings clamped: on a DISARMED monitor
and nothing else; in HOLDOFF with the relearn flag set; in WATCHING and SUSPECT the monitor is WATCHING with a learning span, owed while the
leg is in RETIMING; in a search it is refused BUSY, and a window below the gap RANGE. ROGUE_DISARM keeps settings, relearn flag and last
verdict, leaves the rest of the leg, and changes nothing of a DISARMED monitor; in a search an UNHUSH_ALL is queued and every HUSHED entry
returns to its resume state, where a drop hushed in trim whose power step was echoed meanwhile counts it (R70, R71; log 38, the model's
choice). A leg number above 3 is refused RANGE, and so is a ROGUE_SET with a combination mode or a reference mode that 11.10 does not list
(R131, R133, R137, R138, R150; what the monitor goes on asking for: log 15, the model's choice). -/
def Obligations.MonitorRequestsActOnTheMonitor : Prop :=
  (∀ (tag leg : Byte) (x : WireRogue) (s : State), s.takes tag = true →
    (3 < leg.toNat →
      exec (.rogueArm tag leg) s = .next (s.refuse 0x31 tag .range) ∧
      exec (.rogueDisarm tag leg) s = .next (s.refuse 0x32 tag .range)) ∧
    (3 < leg.toNat ∨ 1 < x.combination.toNat ∨ 1 < x.reference.toNat →
      exec (.rogueSet tag leg x) s = .next (s.refuse 0x30 tag .range))) ∧
  ∀ (tag leg : Byte) (l : Leg) (s : State), toLeg? leg = some l → s.takes tag = true →
    ((s.leg l).monitor.state = .disarmed → (s.leg l).control.state = .on →
      exec (.rogueArm tag leg) s =
        .next ((s.mapLeg l fun r =>
          { r with
            monitor :=
              { r.monitor with
                state := .watching, relearn := false
                span := some
                  { position := 0, learning := true, counts := ⟨0, 0, 0, 0⟩, sampleSum := 0, sampleCount := 0
                    tailDrop := none, mixed := false, countFrom := s.boundary } } }).reply 0x31 tag .none)) ∧
    ((s.leg l).monitor.state ≠ .disarmed → exec (.rogueArm tag leg) s = .next (s.reply 0x31 tag .none)) ∧
    ((s.leg l).monitor.state = .disarmed → (s.leg l).control.state ≠ .on →
      exec (.rogueArm tag leg) s = .next (s.refuse 0x31 tag .busy)) ∧
    (∀ x : WireRogue, x.combination.toNat ≤ 1 → x.reference.toNat ≤ 1 →
      ((s.leg l).monitor.state.searching = true → exec (.rogueSet tag leg x) s = .next (s.refuse 0x30 tag .busy)) ∧
      ((s.leg l).monitor.state.searching = false → max 1 x.confirmWindow.toNat < min x.confirmGap.toNat 4095 →
        exec (.rogueSet tag leg x) s = .next (s.refuse 0x30 tag .range)) ∧
      (min x.confirmGap.toNat 4095 ≤ max 1 x.confirmWindow.toNat → ∃ v : MonitorSettings,
        v =
          { thresholds := ⟨x.stray.toNat, x.clash.toNat, x.tail.toNat, x.glow.toNat⟩
            combination := if x.combination = 0 then .any else .all
            referenceMode := if x.reference = 0 then .fixed else .tracking
            watchSpan := max 8 (min 256 x.watchSpan.toNat)
            strayBeatMin := max 1 x.strayBeatMin.toNat
            tailLimit := max 1 (min 8 x.tailLimit.toNat)
            glowMargin := max 1 x.glowMargin.toNat
            confirmGap := min x.confirmGap.toNat 4095
            confirmWindow := max 1 x.confirmWindow.toNat
            probeSpan := max 4 (min 64 x.probeSpan.toNat)
            holdOff := max 1 x.holdOff.toNat } ∧
        ((s.leg l).monitor.state = .disarmed →
          exec (.rogueSet tag leg x) s =
            .next ((s.mapLeg l fun r => { r with monitor := { r.monitor with settings := v } }).reply 0x30 tag (.rogueSet v))) ∧
        ((s.leg l).monitor.state = .holdoff →
          exec (.rogueSet tag leg x) s =
            .next ((s.mapLeg l fun r =>
              { r with monitor := { r.monitor with settings := v, relearn := true } }).reply 0x30 tag (.rogueSet v))) ∧
        ((s.leg l).monitor.state = .watching ∨ (s.leg l).monitor.state = .suspect →
          ((s.leg l).control.state ≠ .retiming →
            exec (.rogueSet tag leg x) s =
              .next ((s.mapLeg l fun r =>
                { r with
                  monitor :=
                    { r.monitor with
                      settings := v, state := .watching, suspicion := none
                      span := some
                        { position := 0, learning := true, counts := ⟨0, 0, 0, 0⟩, sampleSum := 0, sampleCount := 0
                          tailDrop := none, mixed := false, countFrom := s.boundary } } }).reply 0x30 tag (.rogueSet v))) ∧
          ((s.leg l).control.state = .retiming →
            exec (.rogueSet tag leg x) s =
              .next ((s.mapLeg l fun r =>
                { r with
                  monitor :=
                    { r.monitor with
                      settings := v, state := .watching, suspicion := none, span := none, owedLearning := true } }).reply 0x30
                tag (.rogueSet v)))))) ∧
    ((s.leg l).monitor.state = .disarmed → exec (.rogueDisarm tag leg) s = .next (s.reply 0x32 tag .none)) ∧
    ((s.leg l).monitor.state = .watching ∨ (s.leg l).monitor.state = .suspect ∨ (s.leg l).monitor.state = .holdoff →
      exec (.rogueDisarm tag leg) s =
        .next ((s.mapLeg l fun r =>
          { r with
            monitor :=
              { Monitor.disarmed r.monitor.settings r.monitor.relearn r.monitor.lastVerdict with
                asks := r.monitor.asks.filter fun a => !a.ofStep } }).reply 0x32 tag .none)) ∧
    ((s.leg l).monitor.state = .hunting ∨ (s.leg l).monitor.state = .verifying → (s.leg l).orders.length < 48 →
      ∃ t, exec (.rogueDisarm tag leg) s = .next t ∧
        (t.leg l).monitor =
          { Monitor.disarmed (s.leg l).monitor.settings (s.leg l).monitor.relearn (s.leg l).monitor.lastVerdict with
            asks := (s.leg l).monitor.asks.filter fun a => !a.ofStep } ∧
        (t.leg l).orders = (s.leg l).ordersBehindReturn (fun _ => true) ++ [OrderEntry.queued .unhushAll none] ∧
        (∀ (d : Drop) (back : Resume), (s.drop l d).state = .hushed → (s.drop l d).resume = some back →
          (t.drop l d).state = back.state ∧
          (back.state = .trimming → (t.drop l d).trimCount =
            if back.stepHeld then min ((s.drop l d).trimCount + 1) 6 else (s.drop l d).trimCount)) ∧
        (∀ d : Drop, (s.drop l d).state ≠ .hushed → t.drop l d = s.drop l d) ∧ ∀ k : Leg, k ≠ l → t.leg k = s.leg k)

/-! ### Enrolment and drops -/

/-- ENROL_ADD is refused RANGE for an allowed leg that is neither 0 to 3 nor ANY, an account of 0, a mode other than AUTO and HOLD, more
than 4 templates, a class other than the three or a figure out of its range; then DUPLICATE where an entry holds the serial or the account;
then FULL with 512 entries. Otherwise it stores the entry as the request gives it, a peak cap at most 8,000, unbound at the lowest free
position, and takes its serial out of every stranger list; a FIXED template is taken with any second figure and stored without it (log 52,
the model's choice where that figure is not 0). ENROL_REMOVE frees the position of an unbound entry, of a bound one is refused BUSY, and of
a serial that no entry holds ABSENT; nothing else changes (R21, R22, R79). -/
def Obligations.EnrolmentListRequests : Prop :=
  ∀ (tag : Byte) (s : State), s.takes tag = true →
    (∀ x : WireEnrol,
      let figuresOk := fun t : WireTemplate =>
        t.cls = 0 ∧ 1 ≤ t.first.toNat ∧ t.first.toNat ≤ 2000 ∨
          t.cls = 1 ∧ 1 ≤ t.first.toNat ∧ t.first.toNat ≤ 2000 ∧ 1 ≤ t.second.toNat ∨
          t.cls = 2 ∧ 1 ≤ t.first.toNat ∧ t.first.toNat ≤ 64 ∧ 1 ≤ t.second.toNat
      let inRange := (x.allowed.toNat ≤ 3 ∨ x.allowed = 0xFF) ∧ x.account ≠ 0 ∧ x.mode.toNat ≤ 1 ∧ x.templates.length ≤ 4 ∧
        ∀ t ∈ x.templates, figuresOk t
      let held := ∃ (j : Fin 512) (o : EnrolEntry), s.blocks.enrol[j] = some o ∧
        (o.serial = x.serial ∨ o.account = x.account.toNat)
      (¬inRange → exec (.enrolAdd tag x) s = .next (s.refuse 0x18 tag .range)) ∧
      (inRange → held → exec (.enrolAdd tag x) s = .next (s.refuse 0x18 tag .duplicate)) ∧
      (inRange → ¬held → (∀ j : Fin 512, s.blocks.enrol[j] ≠ none) →
        exec (.enrolAdd tag x) s = .next (s.refuse 0x18 tag .full)) ∧
      (∀ i : Fin 512, inRange → ¬held → s.blocks.enrol[i] = none → (∀ j : Fin 512, j < i → s.blocks.enrol[j] ≠ none) →
        ∃ e : EnrolEntry,
          e.serial = x.serial ∧ e.account = x.account.toNat ∧ e.quota = x.quota.toNat ∧ e.binding = none ∧
          (x.allowed = 0xFF → e.allowed = none) ∧ (x.allowed ≠ 0xFF → e.allowed.map Fin.val = some x.allowed.toNat) ∧
          e.mode = (if x.mode = 0 then .auto else .hold) ∧
          e.templates = x.templates.map (fun t =>
            if t.cls = 0 then .fixed t.first.toNat
            else if t.cls = 1 then .assured t.first.toNat (min t.second.toNat 8000)
            else .surplus t.first.toNat (min t.second.toNat 8000)) ∧
          exec (.enrolAdd tag x) s =
            .next ((s.withBlocks
              { s.blocks with
                enrol := s.blocks.enrol.set i.val (some e)
                legs := s.blocks.legs.map fun r =>
                  { r with strangers := r.strangers.filter fun y => y.serial != x.serial } }).reply 0x18 tag (.enrolAdd i)))) ∧
    (∀ (i : Fin 512) (e : EnrolEntry), s.blocks.enrolled e.serial = some (i, e) →
      (e.binding = none →
        exec (.enrolRemove tag e.serial) s =
          .next ((s.withBlocks { s.blocks with enrol := s.blocks.enrol.set i.val none }).reply 0x19 tag .none)) ∧
      (e.binding ≠ none → exec (.enrolRemove tag e.serial) s = .next (s.refuse 0x19 tag .busy))) ∧
    (∀ serial : BitVec 64, (∀ j o, s.blocks.enrol[(j : Fin 512)] = some o → o.serial ≠ serial) →
      exec (.enrolRemove tag serial) s = .next (s.refuse 0x19 tag .absent))

/-- ADMIT on an AWAITING entry makes it SERVING with a DROP_STATE notice, its SUSPENDED lanes ACTIVE, and opens a meter for its
account if it has none; on any other entry it is refused BUSY (R37, R80, R168). RELEASE on a QUARANTINED entry makes it FOUND with
origin RELEASED, its counts, its runs and its flags reset, its level, reason and window history gone and a MUTE still queued for
it removed; on any other entry it is refused BUSY (R152). A leg number above 3 or a drop index above 127 is refused RANGE (R37,
R152). -/
def Obligations.AdmitAndReleaseChangeTheDrop : Prop :=
  (∀ (tag leg drop : Byte) (s : State), s.takes tag = true → 3 < leg.toNat ∨ 127 < drop.toNat →
    exec (.admitDrop tag leg drop) s = .next (s.refuse 0x1C tag .range) ∧
    exec (.release tag leg drop) s = .next (s.refuse 0x34 tag .range)) ∧
  (∀ (tag leg drop : Byte) (l : Leg) (d : Drop) (s : State), toLeg? leg = some l → toDrop? drop = some d → s.takes tag = true →
    ((s.drop l d).state = .awaiting → ∃ t, exec (.admitDrop tag leg drop) s = .next t ∧
      t.drop l d =
        { s.drop l d with
          state := .serving, since := s.now, outOfBand := 0, awaitingCause := none, origin := none, resume := none } ∧
      (∀ n x, (s.leg l).lanes[(n : Fin 256)] = some x →
        (x.owner = d → x.state = .suspended → (t.leg l).lanes[n] = some { x with state := .active }) ∧
        (x.owner ≠ d ∨ x.state ≠ .suspended → (t.leg l).lanes[n] = some x)) ∧
      (∀ m, s.meter l d = some m → t.meter l d = some m) ∧
      (∀ i e, s.meter l d = none → (s.drop l d).enrolRef = some i → s.blocks.enrol[(i : Fin 512)] = some e →
        ∃ m, t.meter l d = some m ∧ m.account = e.account ∧ m.start = s.now ∧ m.usage = false ∧ m.pending = none) ∧
      (t.leg l).orders = (s.leg l).orders ∧ (∀ c : Drop, c ≠ d → t.drop l c = s.drop l c) ∧
      t.port = (s.reply 0x1C tag .none
        [⟨some l, some d, s.now, .dropState .serving s.now (s.drop l d).reason none none⟩]).port ∧
      ∀ k : Leg, k ≠ l → t.leg k = s.leg k) ∧
    ((s.drop l d).state ≠ .awaiting → exec (.admitDrop tag leg drop) s = .next (s.refuse 0x1C tag .busy))) ∧
  (∀ (tag leg drop : Byte) (l : Leg) (d : Drop) (s : State), toLeg? leg = some l → toDrop? drop = some d → s.takes tag = true →
    ((s.drop l d).state = .quarantined → ∃ t, exec (.release tag leg drop) s = .next t ∧
      (t.drop l d).state = .found ∧ (t.drop l d).origin = some .released ∧ (t.drop l d).reason = none ∧
      (t.drop l d).level = none ∧ (t.drop l d).since = s.now ∧ (t.drop l d).missed = 0 ∧ (t.drop l d).trimCount = 0 ∧
      (t.drop l d).rangingAttempts = 0 ∧ (t.drop l d).nextEcho = 0 ∧ (t.drop l d).marginal = false ∧ (t.drop l d).outOfBand = 0 ∧
      (t.drop l d).noBurst = 0 ∧ (t.drop l d).cleanSinceWake = false ∧ (t.drop l d).sleepCancelled = false ∧
      (t.drop l d).serial = (s.drop l d).serial ∧ (t.drop l d).enrolRef = (s.drop l d).enrolRef ∧
      (t.drop l d).power = (s.drop l d).power ∧
      (t.leg l).histories[d] = History.empty ∧ (t.leg l).lastEcho[d] = none ∧
      (∀ e ∈ (t.leg l).orders, ¬(e.target = some d ∧ e.order = .mute)) ∧ (t.leg l).lanes = (s.leg l).lanes ∧
      (t.leg l).meters = (s.leg l).meters ∧ (∀ c : Drop, c ≠ d → t.drop l c = s.drop l c) ∧
      ∀ k : Leg, k ≠ l → t.leg k = s.leg k) ∧
    ((s.drop l d).state ≠ .quarantined → exec (.release tag leg drop) s = .next (s.refuse 0x34 tag .busy)))

/-- DISMISS of an entry that is neither VACANT nor RETIRING: it leaves the search its leg may make, which ends UNATTRIBUTED, with an
UNHUSH_ALL queued, where it was the last candidate or the suspect (R145, R147, R149; the step in progress counted as taken: log 54, the
model's choice), or, where 48 other orders stand in the queue, asked for again (R43; that the rest happens at once: log 51, the model's
choice); a MUTE of the drop that the monitor still asks for is asked for no more (log 15, the model's choice); its lanes, orders and owed
orders go, and a DISMISS order for it is queued last unless it was FOUND or LOST, or the UNHUSH_ALL took the last of the 48 places (log 28,
the model's choice); without usage in its meter it is VACANT at once; with usage and room the close is written with cause RETIRE, and
without room it stays RETIRING with its meter HELD; a meter HELD for a continuing close is HELD for the ending one from then on, at its own
stamp. A VACANT or RETIRING entry is refused BUSY (R34, R35, R38, R182). Where an order is needed and finds no place the request is refused
QUEUE_FULL, at 40 NORMAL and LOW orders as at 48 orders in all (log 28, the model's choice for 48). A leg number above 3 or a drop index
above 127 is refused RANGE (R38). -/
def Obligations.DismissRetiresTheDrop : Prop :=
  (∀ (tag leg drop : Byte) (s : State), s.takes tag = true → 3 < leg.toNat ∨ 127 < drop.toNat →
    exec (.dismiss tag leg drop) s = .next (s.refuse 0x1D tag .range)) ∧
  ∀ (tag leg drop : Byte) (l : Leg) (d : Drop) (s : State), toLeg? leg = some l → toDrop? drop = some d → s.takes tag = true →
    ((s.drop l d).state = .vacant ∨ (s.drop l d).state = .retiring →
      exec (.dismiss tag leg drop) s = .next (s.refuse 0x1D tag .busy)) ∧
    ((s.drop l d).state ≠ .vacant → (s.drop l d).state ≠ .retiring → (s.drop l d).state ≠ .found → (s.drop l d).state ≠ .lost →
      40 ≤ plainCount (s.leg l).orders ∨ 48 ≤ (s.leg l).orders.length →
      exec (.dismiss tag leg drop) s = .next (s.refuse 0x1D tag .queueFull)) ∧
    ((s.drop l d).state ≠ .vacant → (s.drop l d).state ≠ .retiring →
      ((s.drop l d).state ≠ .found → (s.drop l d).state ≠ .lost →
        plainCount (s.leg l).orders < 40 ∧ (s.leg l).orders.length < 48) →
      ∃ t, exec (.dismiss tag leg drop) s = .next t ∧
        ((s.leg l).monitor.endsWithout d = false →
          (t.leg l).orders = ((s.leg l).orders.filter fun e => e.target != some d) ++
            (if (s.drop l d).state = .found ∨ (s.drop l d).state = .lost then []
              else [OrderEntry.queued .dismiss (some d)])) ∧
        ((s.leg l).monitor.endsWithout d = true →
          let room := ((s.leg l).orders.filter fun e => e.target != some d).length < 48
          let q := (((s.leg l).ordersBehindReturn fun _ => true).filter fun e => e.target != some d) ++
            (if room then [OrderEntry.queued .unhushAll none] else [])
          (t.leg l).orders =
            q ++ (if (s.drop l d).state = .found ∨ (s.drop l d).state = .lost ∨ 48 ≤ q.length then []
              else [OrderEntry.queued .dismiss (some d)]) ∧
          (¬room → MonitorAsk.unhush ∈ (t.leg l).monitor.asks)) ∧
        SearchLeft s t l d s.now ∧
        (∀ n x, (t.leg l).lanes[(n : Fin 256)] = some x → x.owner ≠ d) ∧ (∀ i ∈ (t.leg l).owed, i.drop ≠ d) ∧
        ((s.leg l).monitor.state.searching = false → ∀ c : Drop, c ≠ d → t.drop l c = s.drop l c) ∧
        (∀ k : Leg, k ≠ l → t.leg k = s.leg k) ∧
        (s.meter l d = none ∨ (∃ m, s.meter l d = some m ∧ m.pending = none ∧ m.usage = false) →
          t.drop l d = DropEntry.vacant s.now ∧ t.meter l d = none ∧ t.blocks.journal = s.blocks.journal) ∧
        (∀ m, s.meter l d = some m → m.pending = none → m.usage = true →
          (s.blocks.journal.room = true →
            t.drop l d = DropEntry.vacant s.now ∧ t.meter l d = none ∧
            t.blocks.journal.entries = s.blocks.journal.entries ++
              [{ seq := s.blocks.journal.nextSeq, account := m.account, leg := l, drop := d, start := m.start, stop := s.now
                 up := m.up, down := m.down, shed := m.shed, cause := .retire, flags := m.flags }]) ∧
          (s.blocks.journal.room = false →
            (t.drop l d).state = .retiring ∧ (t.drop l d).reason = some (.retire .dismissed) ∧ (t.drop l d).since = s.now ∧
            t.blocks.journal = s.blocks.journal ∧
            t.meter l d = some { m with pending := some (.retire, s.now), flags := { m.flags with extended := true } })) ∧
        (∀ m was at', s.meter l d = some m → m.pending = some (was, at') → was = .period ∨ was = .host → m.usage = true →
          (t.drop l d).state = .retiring ∧ (t.drop l d).reason = some (.retire .dismissed) ∧
          t.blocks.journal = s.blocks.journal ∧ t.meter l d = some { m with pending := some (.retire, at') }))

/-! ### Lanes and dormant units -/

/-- The figures of a class byte and two fields in range (R79, R84). LANE_ADD for an AWAITING, SERVING or DORMANT drop's free port
makes a BINDING lane of its class, with credit 0 where it is ASSURED and no backlog, at the lowest free place, and queues a
BIND_LANES or leaves it to one that is QUEUED (R44); it is refused RANGE, BUSY, DUPLICATE, FULL, CEILING where a FIXED lane would
break the FIXED limits, or QUEUE_FULL, in that order (R83, R84). LANE_REMOVE frees the place and queues a BIND_LANES for the rest,
or is refused ABSENT, BUSY or QUEUE_FULL (R86; in that order: log 46, the model's choice). LANE_CHANGE on the lane's own port
stores the figures, a lower rate clamping the credit to twice it, in every owner state; on another port it also puts the lane in
BINDING without backlog, with its credit kept, and queues or leaves the BIND_LANES. It is refused RANGE, ABSENT, RANGE for another
class, BUSY, DUPLICATE, CEILING where higher fixed beats break the limits, or QUEUE_FULL (R81, R85). Every other lane, the drops
and the other legs stay. That QUEUE_FULL answers 48 orders as well as 40 NORMAL and LOW ones, and that a BIND_LANES in flight
forgets a place filled or freed, are the model's choices (logs 28 and 14). -/
def Obligations.LaneRequestsChangeTheirLane : Prop :=
  (∀ (cls : Byte) (first second : BitVec 16) (f : LaneFigures), readFigures cls first second = some f ↔
    cls = 0 ∧ 1 ≤ first.toNat ∧ first.toNat ≤ 2000 ∧ f = .fixed first.toNat ∨
      cls = 1 ∧ 1 ≤ first.toNat ∧ first.toNat ≤ 2000 ∧ 1 ≤ second.toNat ∧ f = .assured first.toNat (min second.toNat 8000) ∨
      cls = 2 ∧ 1 ≤ first.toNat ∧ first.toNat ≤ 64 ∧ 1 ≤ second.toNat ∧ f = .surplus first.toNat (min second.toNat 8000)) ∧
  (∀ (tag leg drop port cls : Byte) (first second : BitVec 16) (s : State), s.takes tag = true →
    (3 < leg.toNat ∨ 127 < drop.toNat ∨ 3 < port.toNat ∨ readFigures cls first second = none →
      exec (.laneAdd tag leg drop port cls first second) s = .next (s.refuse 0x20 tag .range)) ∧
    (∀ (l : Leg) (d : Drop) (q : Fin 4) (f : LaneFigures), toLeg? leg = some l → toDrop? drop = some d → toPort? port = some q →
      readFigures cls first second = some f →
      let opened := (s.drop l d).state = .awaiting ∨ (s.drop l d).state = .serving ∨ (s.drop l d).state = .dormant
      let twice := ∃ (k : Fin 256) (x : Lane), (s.leg l).lanes[k] = some x ∧ x.owner = d ∧ x.port = q
      (¬opened → exec (.laneAdd tag leg drop port cls first second) s = .next (s.refuse 0x20 tag .busy)) ∧
      (opened → twice → exec (.laneAdd tag leg drop port cls first second) s = .next (s.refuse 0x20 tag .duplicate)) ∧
      (opened → ¬twice → (∀ k : Fin 256, (s.leg l).lanes[k] ≠ none) →
        exec (.laneAdd tag leg drop port cls first second) s = .next (s.refuse 0x20 tag .full)) ∧
      (∀ n : Fin 256, opened → ¬twice → (s.leg l).lanes[n] = none → (∀ k : Fin 256, k < n → (s.leg l).lanes[k] ≠ none) →
        let x : Lane :=
          { owner := d, port := q, figures := f, credit := match f with | .assured _ _ => some 0 | _ => none
            backlog := 0, lastGrant := none, state := .binding }
        let lanes := (s.leg l).lanes.set n.val (some x)
        let fits := fixedSum lanes + 16 * fixedDrops lanes ≤ 8000 - ((s.leg l).control.settings.reach + 80) ∧ fixedDrops lanes ≤ 32
        (cls = 0 → ¬fits → exec (.laneAdd tag leg drop port cls first second) s = .next (s.refuse 0x20 tag .ceiling)) ∧
        ((cls = 0 → fits) →
          (hasQueued (s.leg l).orders d .bindLanes = false → plainRoom (s.leg l).orders = false →
            exec (.laneAdd tag leg drop port cls first second) s = .next (s.refuse 0x20 tag .queueFull)) ∧
          (hasQueued (s.leg l).orders d .bindLanes = true ∨ plainRoom (s.leg l).orders = true →
            exec (.laneAdd tag leg drop port cls first second) s =
              .next ((s.mapLeg l fun r =>
                { r with
                  lanes := lanes
                  orders := (r.orders.map fun e => { e with binds := e.binds.filter fun k => k != n }) ++
                    (if hasQueued r.orders d .bindLanes then [] else [OrderEntry.queued (.bindLanes none) (some d)]) }).reply
                0x20 tag (.laneAdd n))))))) ∧
  (∀ (tag leg lane : Byte) (s : State), s.takes tag = true →
    (3 < leg.toNat → exec (.laneRemove tag leg lane) s = .next (s.refuse 0x22 tag .range)) ∧
    (∀ l : Leg, toLeg? leg = some l →
      ((s.leg l).lanes[lane.toFin] = none → exec (.laneRemove tag leg lane) s = .next (s.refuse 0x22 tag .absent)) ∧
      (∀ x : Lane, (s.leg l).lanes[lane.toFin] = some x →
        let opened := (s.drop l x.owner).state = .awaiting ∨ (s.drop l x.owner).state = .serving ∨
          (s.drop l x.owner).state = .dormant
        (¬opened → exec (.laneRemove tag leg lane) s = .next (s.refuse 0x22 tag .busy)) ∧
        (opened → hasQueued (s.leg l).orders x.owner .bindLanes = false → plainRoom (s.leg l).orders = false →
          exec (.laneRemove tag leg lane) s = .next (s.refuse 0x22 tag .queueFull)) ∧
        (opened → hasQueued (s.leg l).orders x.owner .bindLanes = true ∨ plainRoom (s.leg l).orders = true →
          exec (.laneRemove tag leg lane) s =
            .next ((s.mapLeg l fun r =>
              { r with
                lanes := r.lanes.set lane.toFin.val none
                orders := (r.orders.map fun e => { e with binds := e.binds.filter fun k => k != lane.toFin }) ++
                  (if hasQueued r.orders x.owner .bindLanes then []
                    else [OrderEntry.queued (.bindLanes none) (some x.owner)]) }).reply 0x22 tag .none))))) ∧
  (∀ (tag leg lane cls port : Byte) (first second : BitVec 16) (s : State), s.takes tag = true →
    (3 < leg.toNat ∨ 3 < port.toNat ∨ cls.toNat ≤ 2 ∧ readFigures cls first second = none →
      exec (.laneChange tag leg lane cls port first second) s = .next (s.refuse 0x21 tag .range)) ∧
    (∀ (l : Leg) (q : Fin 4), toLeg? leg = some l → toPort? port = some q →
      (cls.toNat ≤ 2 → readFigures cls first second ≠ none) →
      ((s.leg l).lanes[lane.toFin] = none →
        exec (.laneChange tag leg lane cls port first second) s = .next (s.refuse 0x21 tag .absent)) ∧
      (∀ x : Lane, (s.leg l).lanes[lane.toFin] = some x →
        (cls ≠ x.figures.classByte →
          exec (.laneChange tag leg lane cls port first second) s = .next (s.refuse 0x21 tag .range)) ∧
        (∀ f : LaneFigures, readFigures cls first second = some f → cls = x.figures.classByte →
          let stored : Lane :=
            { x with
              figures := f
              credit := match f with | .assured rate _ => x.credit.map fun c => min c (2 * rate) | _ => x.credit }
          let y : Lane := if q = x.port then stored else { stored with port := q, state := .binding, backlog := 0 }
          let opened := (s.drop l x.owner).state = .awaiting ∨ (s.drop l x.owner).state = .serving ∨
            (s.drop l x.owner).state = .dormant
          let twice := ∃ (k : Fin 256) (z : Lane), (s.leg l).lanes[k] = some z ∧ z.owner = x.owner ∧ z.port = q
          let lanes := (s.leg l).lanes.set lane.toFin.val (some y)
          let fits := y.fixedBeats ≤ x.fixedBeats ∨
            fixedSum lanes + 16 * fixedDrops lanes ≤ 8000 - ((s.leg l).control.settings.reach + 80) ∧ fixedDrops lanes ≤ 32
          (q = x.port →
            (fits → exec (.laneChange tag leg lane cls port first second) s =
              .next ((s.mapLeg l fun r => { r with lanes := lanes }).reply 0x21 tag (.laneChange lane.toFin y))) ∧
            (¬fits → exec (.laneChange tag leg lane cls port first second) s = .next (s.refuse 0x21 tag .ceiling))) ∧
          (q ≠ x.port →
            (¬opened → exec (.laneChange tag leg lane cls port first second) s = .next (s.refuse 0x21 tag .busy)) ∧
            (opened → twice → exec (.laneChange tag leg lane cls port first second) s = .next (s.refuse 0x21 tag .duplicate)) ∧
            (opened → ¬twice → ¬fits →
              exec (.laneChange tag leg lane cls port first second) s = .next (s.refuse 0x21 tag .ceiling)) ∧
            (opened → ¬twice → fits →
              (hasQueued (s.leg l).orders x.owner .bindLanes = false → plainRoom (s.leg l).orders = false →
                exec (.laneChange tag leg lane cls port first second) s = .next (s.refuse 0x21 tag .queueFull)) ∧
              (hasQueued (s.leg l).orders x.owner .bindLanes = true ∨ plainRoom (s.leg l).orders = true →
                exec (.laneChange tag leg lane cls port first second) s =
                  .next ((s.mapLeg l fun r =>
                    { r with
                      lanes := lanes
                      orders := r.orders ++
                        (if hasQueued r.orders x.owner .bindLanes then []
                          else [OrderEntry.queued (.bindLanes none) (some x.owner)]) }).reply 0x21 tag
                    (.laneChange lane.toFin y)))))))))

/-- SLEEP for a SERVING drop that has been heard since its last wake, is not sleep-cancelled and has no SLEEP outstanding queues a
SLEEP with the interval clamped to 16 to 1,024 rounds and changes nothing else; otherwise it is refused BUSY, and without room
QUEUE_FULL (R119). WAKE for a DORMANT drop queues a WAKE unless one is queued or awaited. For a SERVING drop that is
sleep-cancelled it changes nothing; with a SLEEP that awaits its echo the drop becomes sleep-cancelled and a WAKE is queued
behind; with one that is only QUEUED the SLEEP is removed; with none nothing changes; in each case the reply is OK, and QUEUE_FULL
with no effect where a WAKE finds no room. In any other state it is refused BUSY (R126, R128). A leg above 3 or a drop above 127
is refused RANGE. That QUEUE_FULL answers 48 orders as well as 40 NORMAL and LOW ones is the model's choice (log 28). -/
def Obligations.SleepAndWakeQueueOrders : Prop :=
  (∀ (tag leg drop : Byte) (s : State), s.takes tag = true → 3 < leg.toNat ∨ 127 < drop.toNat →
    (∀ interval : BitVec 16, exec (.sleep tag leg drop interval) s = .next (s.refuse 0x28 tag .range)) ∧
    exec (.wake tag leg drop) s = .next (s.refuse 0x29 tag .range)) ∧
  (∀ (tag leg drop : Byte) (l : Leg) (d : Drop) (s : State), toLeg? leg = some l → toDrop? drop = some d → s.takes tag = true →
    let asleep := ∃ e ∈ (s.leg l).orders, e.target = some d ∧ e.order.kind = .sleep
    let awaited := ∃ e ∈ (s.leg l).orders, e.target = some d ∧ e.order.kind = .sleep ∧ e.awaiting = true
    (∀ interval : BitVec 16,
      ((s.drop l d).state ≠ .serving ∨ (s.drop l d).cleanSinceWake = false ∨ (s.drop l d).sleepCancelled = true ∨ asleep →
        exec (.sleep tag leg drop interval) s = .next (s.refuse 0x28 tag .busy)) ∧
      ((s.drop l d).state = .serving → (s.drop l d).cleanSinceWake = true → (s.drop l d).sleepCancelled = false → ¬asleep →
        (plainRoom (s.leg l).orders = false →
          exec (.sleep tag leg drop interval) s = .next (s.refuse 0x28 tag .queueFull)) ∧
        (plainRoom (s.leg l).orders = true → ∃ n : Nat,
          exec (.sleep tag leg drop interval) s =
            .next ((s.mapLeg l fun r =>
              { r with orders := r.orders ++ [OrderEntry.queued (.sleep n) (some d)] }).reply 0x28 tag (.sleep n)) ∧
          (interval.toNat ≤ 16 → n = 16) ∧ (16 ≤ interval.toNat → interval.toNat ≤ 1024 → n = interval.toNat) ∧
          (1024 ≤ interval.toNat → n = 1024)))) ∧
    ((s.drop l d).state = .dormant →
      (hasOrder (s.leg l).orders d .wake = false → plainRoom (s.leg l).orders = true →
        exec (.wake tag leg drop) s =
          .next ((s.mapLeg l fun r =>
            { r with orders := r.orders ++ [OrderEntry.queued .wake (some d)] }).reply 0x29 tag .none)) ∧
      (hasOrder (s.leg l).orders d .wake = false → plainRoom (s.leg l).orders = false →
        exec (.wake tag leg drop) s = .next (s.refuse 0x29 tag .queueFull)) ∧
      (hasOrder (s.leg l).orders d .wake = true → exec (.wake tag leg drop) s = .next (s.reply 0x29 tag .none))) ∧
    ((s.drop l d).state = .serving →
      ((s.drop l d).sleepCancelled = true → exec (.wake tag leg drop) s = .next (s.reply 0x29 tag .none)) ∧
      ((s.drop l d).sleepCancelled = false → awaited →
        (plainRoom (s.leg l).orders = true →
          exec (.wake tag leg drop) s =
            .next ((s.mapLeg l fun r =>
              { r with
                drops := r.drops.set d.val { s.drop l d with sleepCancelled := true }
                orders := r.orders ++ [OrderEntry.queued .wake (some d)] }).reply 0x29 tag .none)) ∧
        (plainRoom (s.leg l).orders = false → exec (.wake tag leg drop) s = .next (s.refuse 0x29 tag .queueFull))) ∧
      ((s.drop l d).sleepCancelled = false → asleep → ¬awaited →
        exec (.wake tag leg drop) s =
          .next ((s.mapLeg l fun r =>
            { r with
              orders := r.orders.filter fun e => !(e.target == some d && e.order.kind == .sleep) }).reply 0x29 tag .none)) ∧
      ((s.drop l d).sleepCancelled = false → ¬asleep → exec (.wake tag leg drop) s = .next (s.reply 0x29 tag .none))) ∧
    ((s.drop l d).state ≠ .dormant → (s.drop l d).state ≠ .serving →
      exec (.wake tag leg drop) s = .next (s.refuse 0x29 tag .busy)))

/-! ### Bands, quotas, closes and the journal -/

/-- BAND_SET for the next announcement-block boundary, or for the first one at or after a stamp, and for the next where that has
begun: a band replaces that of the entry there, or adds an entry in its order when fewer than 8 are held and is refused FULL when
not; NONE removes the entry there, and is refused ABSENT without one; another band is refused RANGE. BAND_QUOTA_SET replaces the
four flags. PERIOD_SET stores the length and answers with the next cycle whose number is a non-zero multiple of it, past the wrap
the length itself, or with none for 0; CLOSE_PERIOD marks the named legs for the next boundary and answers with its stamp, or is
refused RANGE with no leg named (R172, R174, R180, R181). QUOTA_SET stores the quota of an enrolled account; a bound account's
meter that is not over quota and has used as much is marked over quota and throttled with a QUOTA_REACHED notice, and one that is
over quota is cleared by a quota of 0 or above what it has used; any other meter stays as it is, and nothing else changes; account
0 is refused RANGE, one that no entry holds ABSENT (R176 to R178). -/
def Obligations.BandPeriodAndQuotaRequests : Prop :=
  (∀ (tag : Byte) (s : State), s.takes tag = true →
    (∀ (band whenKind : Byte) (cycle : BitVec 32) (round : BitVec 16) (at' : Stamp),
      let n := (cycle.toNat * 4096 + round.toNat + 63) / 64 * 64
      let asked : Stamp := ⟨n / 4096 % 4294967296, n % 4096⟩
      let plan := s.blocks.bandPlan
      let before := fun a b : BandEntry => a.boundary.le b.boundary = true
      (whenKind ≠ 0 ∧ at' = s.now.nextBlock ∨
        whenKind = 0 ∧ round.toNat ≤ 4096 ∧ at' = if asked.le s.now = true then s.now.nextBlock else asked) →
      (3 < band.toNat → band ≠ 0xFF → exec (.bandSet tag band whenKind cycle round) s = .next (s.refuse 0x38 tag .range)) ∧
      (band = 0xFF → (∀ e ∈ plan, e.boundary ≠ at') →
        exec (.bandSet tag band whenKind cycle round) s = .next (s.refuse 0x38 tag .absent)) ∧
      (band = 0xFF → (∃ e ∈ plan, e.boundary = at') → ∃ xs : List BandEntry,
        exec (.bandSet tag band whenKind cycle round) s =
          .next ((s.withBlocks { s.blocks with bandPlan := xs }).reply 0x38 tag (.bandSet at' xs.length)) ∧
        xs = plan.filter fun e => decide (e.boundary ≠ at')) ∧
      (∀ b : Fin 4, toLeg? band = some b →
        ((∀ e ∈ plan, e.boundary ≠ at') → 8 ≤ plan.length →
          exec (.bandSet tag band whenKind cycle round) s = .next (s.refuse 0x38 tag .full)) ∧
        ((∀ e ∈ plan, e.boundary ≠ at') → plan.length < 8 → ∃ xs : List BandEntry,
          exec (.bandSet tag band whenKind cycle round) s =
            .next ((s.withBlocks { s.blocks with bandPlan := xs }).reply 0x38 tag (.bandSet at' (plan.length + 1))) ∧
          xs.length = plan.length + 1 ∧ (∀ e, e ∈ xs ↔ e = ⟨b, at'⟩ ∨ e ∈ plan) ∧
          (plan.Pairwise before → xs.Pairwise before)) ∧
        ((∃ e ∈ plan, e.boundary = at') → plan.Pairwise (fun x y => before x y ∧ x.boundary ≠ y.boundary) →
          exec (.bandSet tag band whenKind cycle round) s =
            .next ((s.withBlocks
              { s.blocks with
                bandPlan := plan.map fun e => if e.boundary = at' then ⟨b, at'⟩ else e }).reply 0x38 tag
              (.bandSet at' plan.length))))) ∧
    (∀ flags : Byte, ∃ v : Vector Bool 4,
      exec (.bandQuotaSet tag flags) s =
        .next ((s.withBlocks { s.blocks with quotaBands := v }).reply 0x39 tag (.bandQuotaSet v)) ∧
      ∀ b : Fin 4, v[b] = flags.getLsbD b.val) ∧
    (∀ length : BitVec 16, ∃ next : Option Nat,
      exec (.periodSet tag length) s =
        .next ((s.withBlocks { s.blocks with period := length.toNat }).reply 0x3C tag (.periodSet next)) ∧
      (length = 0 → next = none) ∧
      (length ≠ 0 → ∃ n, next = some n ∧ n % length.toNat = 0 ∧
        (s.now.cycle < n ∧ n < 4294967296 ∧ (∀ k, s.now.cycle < k → k < n → k % length.toNat ≠ 0) ∨
          (∀ k, s.now.cycle < k → k < 4294967296 → k % length.toNat ≠ 0) ∧ n = length.toNat))) ∧
    (∀ mask : Byte, (∃ l : Leg, mask.getLsbD l.val = true) → ∃ v : Vector Bool 4,
      exec (.closePeriod tag mask) s =
        .next ((s.withBlocks { s.blocks with hostClose := v }).reply 0x3D tag (.stamp s.boundary)) ∧
      ∀ l : Leg, v[l] = (s.blocks.hostClose[l] || mask.getLsbD l.val)) ∧
    (∀ mask : Byte, (∀ l : Leg, mask.getLsbD l.val = false) → exec (.closePeriod tag mask) s = .next (s.refuse 0x3D tag .range)) ∧
    (∀ quota : BitVec 64, exec (.quotaSet tag 0 quota) s = .next (s.refuse 0x3B tag .range)) ∧
    (∀ (account : BitVec 32) (quota : BitVec 64), account ≠ 0 →
      (∀ (i : Fin 512) (e : EnrolEntry), s.blocks.enrol[i] = some e → e.account ≠ account.toNat) →
      exec (.quotaSet tag account quota) s = .next (s.refuse 0x3B tag .absent))) ∧
  (∀ (tag : Byte) (account : BitVec 32) (quota : BitVec 64) (i : Fin 512) (e : EnrolEntry) (s : State), s.takes tag = true →
    account.toNat ≠ 0 → (s.blocks.enrolWhere fun e => e.account == account.toNat) = some i → s.blocks.enrol[i] = some e →
    (e.binding = none →
      exec (.quotaSet tag account quota) s =
        .next ((s.withBlocks
          { s.blocks with enrol := s.blocks.enrol.set i.val (some { e with quota := quota.toNat }) }).reply 0x3B tag
          (.quotaSet quota.toNat none))) ∧
    (∀ (l : Leg) (d : Drop), e.binding = some (l, d) →
      (s.meter l d = none →
        exec (.quotaSet tag account quota) s =
          .next ((s.withBlocks
            { s.blocks with enrol := s.blocks.enrol.set i.val (some { e with quota := quota.toNat }) }).reply 0x3B tag
            (.quotaSet quota.toNat none))) ∧
      (∀ m : Meter, s.meter l d = some m → m.account = account.toNat →
        ∃ (m' : Meter) (ns : List Notice),
          exec (.quotaSet tag account quota) s =
            .next (((s.withBlocks
              { s.blocks with enrol := s.blocks.enrol.set i.val (some { e with quota := quota.toNat }) }).mapLeg l fun r =>
                { r with meters := r.meters.set d.val (some m') }).reply 0x3B tag
              (.quotaSet quota.toNat (some (m'.quotaUsed, m'.overQuota))) ns) ∧
          (m.overQuota = false → 0 < quota.toNat → quota.toNat ≤ m.quotaUsed →
            m' = { m with overQuota := true, flags := { m.flags with throttled := true } } ∧
            ns = [⟨some l, some d, s.now, .quotaReached account.toNat quota.toNat m.quotaUsed⟩]) ∧
          (m.overQuota = true → quota.toNat = 0 ∨ m.quotaUsed < quota.toNat → m' = { m with overQuota := false } ∧ ns = []) ∧
          (m.overQuota = true → 0 < quota.toNat → quota.toNat ≤ m.quotaUsed → m' = m ∧ ns = []) ∧
          (m.overQuota = false → quota.toNat = 0 ∨ m.quotaUsed < quota.toNat → m' = m ∧ ns = []))))

/-- JOURNAL_READ returns up to 8 entries, in RESUME mode from the cursor on and in RESTART mode from the oldest unreleased one,
moves the cursor behind the last one it returns, and counts the entries at or after it; another count or mode is refused RANGE
(R187). JOURNAL_RELEASE removes the entries up to the named sequence that have been read and no others; the HELD meters are then
served in leg and drop order as far as the room goes: each is written with its pending cause and the stamp of the release, a
continuing one begins a new period, an ending one's meter leaves and its RETIRING entry becomes VACANT, and the rest stay HELD;
the reply is formed behind them (R183, R188). JOURNAL_WATERMARK stores its level clamped to 1 to 1,024 and judges it, raising
JOURNAL_LEVEL where the armed notice's level is reached (R189). -/
def Obligations.JournalRequests : Prop :=
  (∀ (tag count mode : Byte) (s : State), s.takes tag = true →
    (count.toNat = 0 ∨ 8 < count.toNat ∨ 1 < mode.toNat →
      exec (.journalRead tag count mode) s = .next (s.refuse 0x40 tag .range)) ∧
    (∀ es : List JournalEntry, 1 ≤ count.toNat → count.toNat ≤ 8 →
      mode = 0 ∧ es = (s.blocks.journal.entries.filter fun e => e.seq ≥ s.blocks.journal.cursor).take count.toNat ∨
        mode = 1 ∧ s.blocks.journal.Ok ∧ es = s.blocks.journal.entries.take count.toNat →
      let cursor := ((es.getLast?).map fun e => e.seq + 1).getD s.blocks.journal.cursor
      exec (.journalRead tag count mode) s =
        .next ((s.withBlocks { s.blocks with journal := { s.blocks.journal with cursor := cursor } }).reply 0x40 tag
          (.journalRead s.blocks.journal.entries.length (s.blocks.journal.entries.filter fun e => cursor ≤ e.seq).length
            s.blocks.heldCount es)))) ∧
  (∀ (tag : Byte) (seq : BitVec 32) (s : State), s.takes tag = true →
    let kept := s.blocks.journal.entries.filter fun e => decide (min seq.toNat (s.blocks.journal.cursor - 1) < e.seq)
    ∃ (t : State) (held : List (Leg × Drop)), exec (.journalRelease tag seq) s = .next t ∧
      (held.Pairwise fun a b => a.1 < b.1 ∨ a.1 = b.1 ∧ a.2 < b.2) ∧
      (∀ (l : Leg) (d : Drop), (l, d) ∈ held ↔ ∃ m, s.meter l d = some m ∧ m.pending ≠ none) ∧
      let n := min held.length (min (1024 - kept.length) (4294967296 - s.blocks.journal.nextSeq))
      t.port.outbound[s.port.outbound.length]? =
        some ⟨.reply ⟨0xC1, tag, .ok, .journalRelease (s.blocks.journal.entries.length - kept.length) n (kept.length + n)
          (t.blocks.journal.entries.head?.map JournalEntry.seq) (held.length - n)⟩, false⟩ ∧
      t.blocks.journal.entries.length = kept.length + n ∧ t.blocks.journal.entries.take kept.length = kept ∧
      t.blocks.journal.nextSeq = s.blocks.journal.nextSeq + n ∧ t.blocks.journal.cursor = s.blocks.journal.cursor ∧
      t.blocks.time = s.blocks.time ∧ (held = [] → t.blocks.legs = s.blocks.legs) ∧
      (∀ (l : Leg) (d : Drop), (l, d) ∉ held → t.meter l d = s.meter l d ∧ t.drop l d = s.drop l d) ∧
      (∀ (i : Nat) (l : Leg) (d : Drop) (m : Meter) (cause : CloseCause) (at' : Stamp), held[i]? = some (l, d) →
        s.meter l d = some m → m.pending = some (cause, at') →
        (n ≤ i → t.meter l d = some m ∧ t.drop l d = s.drop l d) ∧
        (i < n →
          t.blocks.journal.entries[kept.length + i]? = some
            { seq := s.blocks.journal.nextSeq + i, account := m.account, leg := l, drop := d, start := m.start, stop := s.now
              up := m.up, down := m.down, shed := m.shed, cause := cause, flags := m.flags } ∧
          (cause = .period ∨ cause = .host → t.drop l d = s.drop l d ∧ ∃ m', t.meter l d = some m' ∧ m'.pending = none ∧
            m'.usage = false ∧ m'.account = m.account ∧ m'.start = s.now ∧ m'.quotaUsed = 0 ∧ m'.overQuota = false ∧
            m'.flags.throttled = false ∧ m'.flags.saturated = false ∧ m'.flags.extended = false) ∧
          (cause = .retire ∨ cause = .drain → t.meter l d = none ∧
            ((s.drop l d).state = .retiring → t.drop l d = DropEntry.vacant s.now))))) ∧
  (∀ (tag : Byte) (level : BitVec 16) (s : State), s.takes tag = true →
    ∃ t n, exec (.journalWatermark tag level) s = .next t ∧
      (level.toNat ≤ 1 → n = 1) ∧ (1 ≤ level.toNat → level.toNat ≤ 1024 → n = level.toNat) ∧ (1024 ≤ level.toNat → n = 1024) ∧
      t.blocks.journal.watermark = n ∧ t.blocks.journal.entries = s.blocks.journal.entries ∧
      t.blocks.journal.cursor = s.blocks.journal.cursor ∧ t.blocks.legs = s.blocks.legs ∧
      (s.blocks.journal.entries.length < n → t.blocks.journal.armed = true) ∧
      (n ≤ s.blocks.journal.entries.length → t.blocks.journal.armed = false) ∧
      ∃ ns, t.port = (s.reply 0x42 tag (.watermark n s.blocks.journal.entries.length) ns).port ∧
        (s.blocks.journal.armed = true ∧ n ≤ s.blocks.journal.entries.length → ns =
          [⟨none, none, s.now, .journalLevel s.blocks.journal.entries.length n
            (s.blocks.journal.entries.head?.map JournalEntry.seq) s.blocks.heldCount⟩]) ∧
        (s.blocks.journal.armed = false ∨ s.blocks.journal.entries.length < n → ns = []))

/-- With room in the journal the one HELD meter's continuing close is written with its cause, and the meter begins a new period,
its flags clear but for the outage flag of a drop that is LOST, QUARANTINED or HUSHED with resume state LOST (R170); the one HELD
meter's ending close is written, its meter leaves, and its RETIRING entry becomes VACANT; a RETIRING entry whose meter is gone or
holds no usage becomes VACANT. Every other leg and the other drops' meters stay (R35, R179, R183). Where a meter is HELD only
while the journal has no room, as every step keeps it, HELD_CLOSE_WRITE finds nothing to write. Both are commands of their own, in
states that the causes themselves do not leave: log 2, the model's choice. -/
def Obligations.HeldClosesAndRetirementsComplete : Prop :=
  (∀ s : State, s.blocks.HeldOk → exec .heldCloseWrite s = .next (s.notify [])) ∧
  ∀ (l : Leg) (d : Drop) (s : State),
    (∀ (m : Meter) (cause : CloseCause) (at' : Stamp), s.meter l d = some m → m.pending = some (cause, at') →
      cause = .period ∨ cause = .host → s.blocks.journal.room = true →
      (∀ (k : Leg) (c : Drop) (m' : Meter), s.meter k c = some m' → m'.pending ≠ none → k = l ∧ c = d) →
      ∃ t, exec .heldCloseWrite s = .next t ∧
        t.blocks.journal.entries = s.blocks.journal.entries ++
          [{ seq := s.blocks.journal.nextSeq, account := m.account, leg := l, drop := d, start := m.start, stop := s.now
             up := m.up, down := m.down, shed := m.shed, cause := cause, flags := m.flags }] ∧
        t.blocks.journal.nextSeq = s.blocks.journal.nextSeq + 1 ∧
        (∃ m', t.meter l d = some m' ∧ m'.pending = none ∧ m'.usage = false ∧ m'.account = m.account ∧ m'.start = s.now ∧
          m'.quotaUsed = 0 ∧ m'.overQuota = false ∧ m'.flags.throttled = false ∧ m'.flags.saturated = false ∧
          m'.flags.extended = false ∧
          (m'.flags.outage = true ↔ (s.drop l d).state = .lost ∨ (s.drop l d).state = .quarantined ∨
            (s.drop l d).state = .hushed ∧ ∃ back, (s.drop l d).resume = some back ∧ back.state = .lost)) ∧
        (t.leg l).drops = (s.leg l).drops ∧ (∀ c : Drop, c ≠ d → t.meter l c = s.meter l c) ∧
        ∀ k : Leg, k ≠ l → t.leg k = s.leg k) ∧
    (∀ (m : Meter) (cause : CloseCause) (at' : Stamp), s.meter l d = some m → m.pending = some (cause, at') →
      cause = .retire ∨ cause = .drain → s.blocks.journal.room = true → (s.drop l d).state = .retiring →
      (∀ (k : Leg) (c : Drop) (m' : Meter), s.meter k c = some m' → m'.pending ≠ none → k = l ∧ c = d) →
      ∃ t, exec .heldCloseWrite s = .next t ∧
        t.blocks.journal.entries = s.blocks.journal.entries ++
          [{ seq := s.blocks.journal.nextSeq, account := m.account, leg := l, drop := d, start := m.start, stop := s.now
             up := m.up, down := m.down, shed := m.shed, cause := cause, flags := m.flags }] ∧
        t.meter l d = none ∧ t.drop l d = DropEntry.vacant s.now ∧
        (∀ c : Drop, c ≠ d → t.drop l c = s.drop l c ∧ t.meter l c = s.meter l c) ∧ ∀ k : Leg, k ≠ l → t.leg k = s.leg k) ∧
    ((s.drop l d).state = .retiring → (∀ m, s.meter l d = some m → m.usage = false) →
      ∃ t, exec (.retiringVacated l d) s = .next t ∧
        t.drop l d = DropEntry.vacant s.now ∧ t.meter l d = none ∧
        (∀ i, (s.drop l d).enrolRef = some i → t.blocks.enrol[i] = (s.blocks.enrol[i]).map fun e => { e with binding := none }) ∧
        (∀ c : Drop, c ≠ d → t.drop l c = s.drop l c ∧ t.meter l c = s.meter l c) ∧
        t.blocks.journal = s.blocks.journal ∧ ∀ k : Leg, k ≠ l → t.leg k = s.leg k)

/-- A charge adds the bytes to the one counter of its direction and band, at most 2^40 − 1, sets the saturated flag when they pass
it, and adds them to quota used, at most 2^64 − 1, when the band counts; the other counters, the account and the period's start
stay (R167, R169). A charge that brings quota used to the account's quota, a quota of 0 being none, sets the over-quota mark and
the throttled flag and raises QUOTA_REACHED; a meter already over quota is not judged again (R176). A close of an OPEN meter: a
continuing one with no usage and no flag only restarts the period, an ending one with no usage removes the meter unwritten, and
any other, one with a flag set and no usage included, is written as one journal entry if there is room, or makes the meter HELD
and extended with a JOURNAL_HELD notice. Behind a written continuing close counters, quota used, mark and flags are clear, but for
the outage flag of a drop that is LOST, QUARANTINED or HUSHED with resume state LOST (R170). A HELD meter takes no continuing
close, and an ending close that finds usage takes the place of a continuing one, at its stamp (R179, R182). -/
def Obligations.MetersChargeAndClose : Prop :=
  (∀ (w : Work) (l : Leg) (d : Drop) (up : Bool) (bytes : Nat) (b : Fin 4) (m : Meter), w.meter l d = some m →
    ∃ m', (w.charge l d up bytes b).meter l d = some m' ∧
      (up = true → m'.up[b] = min (m.up[b] + bytes) 1099511627775 ∧ m'.down = m.down) ∧
      (up = false → m'.down[b] = min (m.down[b] + bytes) 1099511627775 ∧ m'.up = m.up) ∧
      (∀ c : Fin 4, c ≠ b → m'.up[c] = m.up[c] ∧ m'.down[c] = m.down[c]) ∧
      (∀ q, w.blocks.quotaOf m.account = some q → 0 < q → q ≤ m'.quotaUsed → m.overQuota = false →
        m'.overQuota = true ∧ m'.flags.throttled = true ∧
        (w.charge l d up bytes b).raised =
          w.raised ++ [⟨some l, some d, w.stamp, .quotaReached m.account q m'.quotaUsed⟩]) ∧
      (m.overQuota = true ∨ (∀ q, w.blocks.quotaOf m.account = some q → q = 0 ∨ m'.quotaUsed < q) →
        m'.overQuota = m.overQuota ∧ m'.flags.throttled = m.flags.throttled ∧ (w.charge l d up bytes b).raised = w.raised) ∧
      m'.flags.outage = m.flags.outage ∧ m'.flags.extended = m.flags.extended ∧
      m'.shed = m.shed ∧ m'.account = m.account ∧ m'.start = m.start ∧ m'.pending = m.pending ∧
      m'.flags.saturated = (m.flags.saturated || decide (1099511627775 < (if up then m.up[b] else m.down[b]) + bytes)) ∧
      m'.quotaUsed = (if w.blocks.quotaBands[b] then min (m.quotaUsed + bytes) 18446744073709551615 else m.quotaUsed) ∧
      ∀ k : Leg, ∀ c : Drop, k ≠ l ∨ c ≠ d → (w.charge l d up bytes b).meter k c = w.meter k c) ∧
  (∀ (w : Work) (l : Leg) (d : Drop) (cause : CloseCause) (m : Meter), w.meter l d = some m → m.pending = none →
    (cause.ending = false → m.usage = false → m.flags = MeterFlags.clear →
      w.closeMeter l d cause = (w.setMeter l d (some { m with start := w.stamp }), false)) ∧
    (cause.ending = true → m.usage = false → w.closeMeter l d cause = (w.setMeter l d none, true)) ∧
    (m.usage = true ∨ cause.ending = false ∧ m.flags ≠ MeterFlags.clear →
      (w.blocks.journal.room = true →
        ∃ w', w.closeMeter l d cause = (w', cause.ending) ∧
          w'.blocks.journal.entries = w.blocks.journal.entries ++
            [{ seq := w.blocks.journal.nextSeq, account := m.account, leg := l, drop := d, start := m.start, stop := w.stamp
               up := m.up, down := m.down, shed := m.shed, cause := cause, flags := m.flags }] ∧
          (cause.ending = true → w'.meter l d = none) ∧
          (cause.ending = false → ∃ m', w'.meter l d = some m' ∧ m'.usage = false ∧ m'.start = w.stamp ∧ m'.pending = none ∧
            m'.quotaUsed = 0 ∧ m'.overQuota = false ∧ m'.account = m.account ∧ m'.flags.throttled = false ∧
            m'.flags.saturated = false ∧ m'.flags.extended = false ∧
            (m'.flags.outage = true ↔ (w.drop l d).state = .lost ∨ (w.drop l d).state = .quarantined ∨
              (w.drop l d).state = .hushed ∧ ∃ back, (w.drop l d).resume = some back ∧ back.state = .lost))) ∧
      (w.blocks.journal.room = false →
        ∃ w', w.closeMeter l d cause = (w', false) ∧ w'.blocks.journal = w.blocks.journal ∧
          w'.meter l d = some { m with pending := some (cause, w.stamp), flags := { m.flags with extended := true } } ∧
          w'.raised = w.raised ++ [⟨some l, some d, w.stamp, .journalHeld m.account cause w'.blocks.heldCount⟩]))) ∧
  (∀ (w : Work) (l : Leg) (d : Drop) (cause was : CloseCause) (at' : Stamp) (m : Meter), w.meter l d = some m →
    m.pending = some (was, at') →
    (cause.ending = false ∨ was.ending = true → w.closeMeter l d cause = (w, false)) ∧
    (cause.ending = true → was.ending = false → m.usage = true →
      w.closeMeter l d cause = (w.setMeter l d (some { m with pending := some (cause, at') }), false)))
end

