-- ==== Sys2Proof/Laws/State.lean ====
section
/-! SUPPORT. The small lemmas of the state's updates: what each changes and what it leaves. Every update of one leg is brought to the form
`mapLeg`, so that later proofs unfold no record. -/

namespace Sys2Proof.Machine

variable (w : Work) (l k : Leg) (d c : Drop) (s : State)

/-! ### One leg of the work changed -/

@[simp] theorem Work.mapLeg_stamp (f : LegRecord → LegRecord) : (w.mapLeg l f).stamp = w.stamp := rfl
@[simp] theorem Work.mapLeg_raised (f : LegRecord → LegRecord) : (w.mapLeg l f).raised = w.raised := rfl
@[simp] theorem Work.mapLeg_time (f : LegRecord → LegRecord) : (w.mapLeg l f).blocks.time = w.blocks.time := rfl
@[simp] theorem Work.mapLeg_enrol (f : LegRecord → LegRecord) : (w.mapLeg l f).blocks.enrol = w.blocks.enrol := rfl
@[simp] theorem Work.mapLeg_band (f : LegRecord → LegRecord) : (w.mapLeg l f).blocks.band = w.blocks.band := rfl
@[simp] theorem Work.mapLeg_quotaBands (f : LegRecord → LegRecord) : (w.mapLeg l f).blocks.quotaBands = w.blocks.quotaBands := rfl
@[simp] theorem Work.mapLeg_bandPlan (f : LegRecord → LegRecord) : (w.mapLeg l f).blocks.bandPlan = w.blocks.bandPlan := rfl
@[simp] theorem Work.mapLeg_period (f : LegRecord → LegRecord) : (w.mapLeg l f).blocks.period = w.blocks.period := rfl
@[simp] theorem Work.mapLeg_hostClose (f : LegRecord → LegRecord) : (w.mapLeg l f).blocks.hostClose = w.blocks.hostClose := rfl
@[simp] theorem Work.mapLeg_journal (f : LegRecord → LegRecord) : (w.mapLeg l f).blocks.journal = w.blocks.journal := rfl

@[simp] theorem Work.leg_mapLeg_self (f : LegRecord → LegRecord) : (w.mapLeg l f).leg l = f (w.leg l) := by
  simp [Work.leg, Work.mapLeg]

theorem Work.leg_mapLeg_of_ne (f : LegRecord → LegRecord) (h : k ≠ l) : (w.mapLeg l f).leg k = w.leg k := by
  simp [Work.leg, Work.mapLeg, Vector.getElem_set_ne, Fin.val_ne_of_ne (Ne.symm h)]

@[simp] theorem Work.mapLeg_mapLeg (f g : LegRecord → LegRecord) :
    (w.mapLeg l f).mapLeg l g = w.mapLeg l fun r => g (f r) := by
  simp [Work.mapLeg, Work.leg]

@[simp] theorem Work.mapLeg_id : w.mapLeg l (fun r => r) = w := by
  simp [Work.mapLeg, Work.leg]

/-! ### The other updates of one leg, as changes of its record -/

theorem Work.mapDrop_eq (f : DropEntry → DropEntry) :
    w.mapDrop l d f = w.mapLeg l fun r => { r with drops := r.drops.set d.val (f r.drops[d]) } := rfl

theorem Work.setMeter_eq (m : Option Meter) :
    w.setMeter l d m = w.mapLeg l fun r => { r with meters := r.meters.set d.val m } := rfl

theorem Work.mapControl_eq (f : LegControl → LegControl) :
    w.mapControl l f = w.mapLeg l fun r => { r with control := f r.control } := rfl

theorem Work.mapMonitor_eq (f : Monitor → Monitor) :
    w.mapMonitor l f = w.mapLeg l fun r => { r with monitor := f r.monitor } := rfl

theorem Work.mapStats_eq (f : WindowStats → WindowStats) :
    w.mapStats l f = w.mapLeg l fun r => { r with stats := f r.stats } := rfl

theorem Work.queueOrder_eq (e : OrderEntry) :
    w.queueOrder l e = w.mapLeg l fun r => { r with orders := r.orders ++ [e] } := rfl

theorem Work.setState_eq (st : DropState) :
    w.setState l d st =
      w.mapLeg l fun r => { r with drops := r.drops.set d.val { r.drops[d] with state := st, since := w.stamp } } := rfl

/-! ### The entry and the meter of a drop after an update -/

@[simp] theorem Work.drop_mapDrop_self (f : DropEntry → DropEntry) : (w.mapDrop l d f).drop l d = f (w.drop l d) := by
  simp [Work.mapDrop_eq, Work.drop]

theorem Work.drop_mapDrop_of_ne (f : DropEntry → DropEntry) (h : c ≠ d) : (w.mapDrop l d f).drop l c = w.drop l c := by
  simp [Work.mapDrop_eq, Work.drop, Vector.getElem_set_ne, Fin.val_ne_of_ne (Ne.symm h)]

@[simp] theorem Work.meter_setMeter_self (m : Option Meter) : (w.setMeter l d m).meter l d = m := by
  simp [Work.setMeter_eq, Work.meter]

theorem Work.meter_setMeter_of_ne (m : Option Meter) (h : c ≠ d) : (w.setMeter l d m).meter l c = w.meter l c := by
  simp [Work.setMeter_eq, Work.meter, Vector.getElem_set_ne, Fin.val_ne_of_ne (Ne.symm h)]

/-! ### Updates outside the legs -/

@[simp] theorem Work.raise_blocks (a : Option Leg) (b : Option Drop) (n : NoticeBody) : (w.raise a b n).blocks = w.blocks := rfl

@[simp] theorem Work.raise_stamp (a : Option Leg) (b : Option Drop) (n : NoticeBody) : (w.raise a b n).stamp = w.stamp := rfl

@[simp] theorem Work.raise_raised (a : Option Leg) (b : Option Drop) (n : NoticeBody) :
    (w.raise a b n).raised = w.raised ++ [⟨a, b, w.stamp, n⟩] := rfl

@[simp] theorem Work.raise_leg (a : Option Leg) (b : Option Drop) (n : NoticeBody) : (w.raise a b n).leg l = w.leg l := rfl

@[simp] theorem Work.raise_drop (a : Option Leg) (b : Option Drop) (n : NoticeBody) : (w.raise a b n).drop l d = w.drop l d := rfl

@[simp] theorem Work.raise_meter (a : Option Leg) (b : Option Drop) (n : NoticeBody) : (w.raise a b n).meter l d = w.meter l d := rfl

@[simp] theorem Work.mapJournal_stamp (f : Journal → Journal) : (w.mapJournal f).stamp = w.stamp := rfl
@[simp] theorem Work.mapJournal_raised (f : Journal → Journal) : (w.mapJournal f).raised = w.raised := rfl
@[simp] theorem Work.mapJournal_time (f : Journal → Journal) : (w.mapJournal f).blocks.time = w.blocks.time := rfl
@[simp] theorem Work.mapJournal_enrol (f : Journal → Journal) : (w.mapJournal f).blocks.enrol = w.blocks.enrol := rfl
@[simp] theorem Work.mapJournal_band (f : Journal → Journal) : (w.mapJournal f).blocks.band = w.blocks.band := rfl
@[simp] theorem Work.mapJournal_quotaBands (f : Journal → Journal) : (w.mapJournal f).blocks.quotaBands = w.blocks.quotaBands := rfl
@[simp] theorem Work.mapJournal_bandPlan (f : Journal → Journal) : (w.mapJournal f).blocks.bandPlan = w.blocks.bandPlan := rfl
@[simp] theorem Work.mapJournal_period (f : Journal → Journal) : (w.mapJournal f).blocks.period = w.blocks.period := rfl
@[simp] theorem Work.mapJournal_hostClose (f : Journal → Journal) : (w.mapJournal f).blocks.hostClose = w.blocks.hostClose := rfl

@[simp] theorem Work.mapJournal_journal (f : Journal → Journal) : (w.mapJournal f).blocks.journal = f w.blocks.journal := rfl

@[simp] theorem Work.mapJournal_leg (f : Journal → Journal) : (w.mapJournal f).leg l = w.leg l := rfl

@[simp] theorem Work.mapEnrol_stamp (i : Fin 512) (f : EnrolEntry → EnrolEntry) : (w.mapEnrol i f).stamp = w.stamp := rfl
@[simp] theorem Work.mapEnrol_raised (i : Fin 512) (f : EnrolEntry → EnrolEntry) : (w.mapEnrol i f).raised = w.raised := rfl
@[simp] theorem Work.mapEnrol_time (i : Fin 512) (f : EnrolEntry → EnrolEntry) : (w.mapEnrol i f).blocks.time = w.blocks.time := rfl
@[simp] theorem Work.mapEnrol_band (i : Fin 512) (f : EnrolEntry → EnrolEntry) : (w.mapEnrol i f).blocks.band = w.blocks.band := rfl
@[simp] theorem Work.mapEnrol_quotaBands (i : Fin 512) (f : EnrolEntry → EnrolEntry) : (w.mapEnrol i f).blocks.quotaBands = w.blocks.quotaBands := rfl
@[simp] theorem Work.mapEnrol_bandPlan (i : Fin 512) (f : EnrolEntry → EnrolEntry) : (w.mapEnrol i f).blocks.bandPlan = w.blocks.bandPlan := rfl
@[simp] theorem Work.mapEnrol_period (i : Fin 512) (f : EnrolEntry → EnrolEntry) : (w.mapEnrol i f).blocks.period = w.blocks.period := rfl
@[simp] theorem Work.mapEnrol_hostClose (i : Fin 512) (f : EnrolEntry → EnrolEntry) : (w.mapEnrol i f).blocks.hostClose = w.blocks.hostClose := rfl
@[simp] theorem Work.mapEnrol_journal (i : Fin 512) (f : EnrolEntry → EnrolEntry) : (w.mapEnrol i f).blocks.journal = w.blocks.journal := rfl

@[simp] theorem Work.mapEnrol_leg (i : Fin 512) (f : EnrolEntry → EnrolEntry) : (w.mapEnrol i f).leg l = w.leg l := rfl

@[simp] theorem Work.mapEnrol_enrol_self (i : Fin 512) (f : EnrolEntry → EnrolEntry) :
    (w.mapEnrol i f).blocks.enrol[i] = (w.blocks.enrol[i]).map f := by
  simp [Work.mapEnrol]

@[simp] theorem Work.start_blocks (b : Blocks) : (Work.start b).blocks = b := rfl

@[simp] theorem Work.start_stamp (b : Blocks) : (Work.start b).stamp = b.now := rfl

@[simp] theorem Work.start_raised (b : Blocks) : (Work.start b).raised = [] := rfl

@[simp] theorem Work.atNextBoundary_blocks (b : Blocks) : (Work.atNextBoundary b).blocks = b := rfl

@[simp] theorem Work.atNextBoundary_stamp (b : Blocks) : (Work.atNextBoundary b).stamp = b.now.next := rfl

@[simp] theorem Work.atNextBoundary_raised (b : Blocks) : (Work.atNextBoundary b).raised = [] := rfl

/-! ### The state -/

@[simp] theorem State.leg_mapLeg_self (f : LegRecord → LegRecord) : (s.mapLeg l f).leg l = f (s.leg l) := by
  simp [State.leg, State.mapLeg]

theorem State.leg_mapLeg_of_ne (f : LegRecord → LegRecord) (h : k ≠ l) : (s.mapLeg l f).leg k = s.leg k := by
  simp [State.leg, State.mapLeg, Vector.getElem_set_ne, Fin.val_ne_of_ne (Ne.symm h)]

@[simp] theorem State.mapLeg_port (f : LegRecord → LegRecord) : (s.mapLeg l f).port = s.port := rfl

@[simp] theorem State.mapLeg_time (f : LegRecord → LegRecord) : (s.mapLeg l f).blocks.time = s.blocks.time := rfl

@[simp] theorem State.mapLeg_pending (f : LegRecord → LegRecord) : (s.mapLeg l f).pending = s.pending := rfl

@[simp] theorem State.notify_blocks (ns : List Notice) : (s.notify ns).blocks = s.blocks := rfl

@[simp] theorem State.notify_pending (ns : List Notice) : (s.notify ns).pending = s.pending := rfl

@[simp] theorem State.withBlocks_port (b : Blocks) : (s.withBlocks b).port = s.port := rfl

@[simp] theorem State.withBlocks_blocks (b : Blocks) : (s.withBlocks b).blocks = b := rfl

/-! ### The work of an event, read as the state -/

@[simp] theorem Work.leg_start : (Work.start s.blocks).leg l = s.leg l := rfl

@[simp] theorem Work.drop_start : (Work.start s.blocks).drop l d = s.drop l d := rfl

@[simp] theorem Work.meter_start : (Work.start s.blocks).meter l d = s.meter l d := rfl

@[simp] theorem Work.leg_atNextBoundary : (Work.atNextBoundary s.blocks).leg l = s.leg l := rfl

@[simp] theorem Work.drop_atNextBoundary : (Work.atNextBoundary s.blocks).drop l d = s.drop l d := rfl

@[simp] theorem Work.meter_atNextBoundary : (Work.atNextBoundary s.blocks).meter l d = s.meter l d := rfl

@[simp] theorem State.now_eq : s.blocks.now = s.now := rfl

/-- The blocks that the work on a leg leaves, as a change of the state. -/
@[simp] theorem Work.mapLeg_start_blocks (f : LegRecord → LegRecord) :
    ((Work.start s.blocks).mapLeg l f).blocks = (s.mapLeg l f).blocks := rfl

@[simp] theorem Work.mapLeg_atNextBoundary_blocks (f : LegRecord → LegRecord) :
    ((Work.atNextBoundary s.blocks).mapLeg l f).blocks = (s.mapLeg l f).blocks := rfl

/-! ### A completed STEP_POWER in the entry (R71) -/

variable (e : DropEntry) (step : Int)

@[simp] theorem DropEntry.powerStepped_power : (e.powerStepped step).power = movePower e.power step := by
  unfold DropEntry.powerStepped; split <;> rfl

@[simp] theorem DropEntry.powerStepped_state : (e.powerStepped step).state = e.state := by
  unfold DropEntry.powerStepped; split <;> rfl

@[simp] theorem DropEntry.powerStepped_level : (e.powerStepped step).level = e.level := by
  unfold DropEntry.powerStepped; split <;> rfl

@[simp] theorem DropEntry.powerStepped_missed : (e.powerStepped step).missed = e.missed := by
  unfold DropEntry.powerStepped; split <;> rfl

theorem DropEntry.powerStepped_trimCount :
    (e.powerStepped step).trimCount = if e.hushedFrom .trimming then e.trimCount else min (e.trimCount + 1) 6 := by
  unfold DropEntry.powerStepped; split <;> rfl

/-! ### The LASER_FAULT input watched afresh -/

@[simp] theorem LegControl.watchAfresh_faultSeen (x : LegControl) : x.watchAfresh.faultSeen = x.laserFault := rfl

@[simp] theorem LegControl.watchAfresh_laserFault (x : LegControl) : x.watchAfresh.laserFault = x.laserFault := rfl

@[simp] theorem LegControl.watchAfresh_state (x : LegControl) : x.watchAfresh.state = x.state := rfl

@[simp] theorem LegControl.watchAfresh_txen (x : LegControl) : x.watchAfresh.txen = x.txen := rfl

@[simp] theorem LegControl.watchAfresh_roundsLeft (x : LegControl) : x.watchAfresh.roundsLeft = x.roundsLeft := rfl

@[simp] theorem LegControl.watchAfresh_cause (x : LegControl) : x.watchAfresh.cause = x.cause := rfl

@[simp] theorem LegControl.watchAfresh_settings (x : LegControl) : x.watchAfresh.settings = x.settings := rfl

end Sys2Proof.Machine
end

