-- ==== Sys2Proof/Laws/Ops.lean ====
section
/-! SUPPORT. What each shared operation can do, said once: events and boundary events, the checks of a request, the placing of
notices, and folds over legs and drops. -/

namespace Sys2Proof.Machine

/-! ### Folds over drops and legs -/

/-- What every operation of a fold over drops keeps, the fold keeps. -/
theorem forDrops_keeps {α : Type} (P : Work → α) (ds : List Drop) (f : Drop → Work → Work)
    (h : ∀ d w, P (f d w) = P w) (w : Work) : P (forDrops ds f w) = P w := by
  induction ds generalizing w with
  | nil => rfl
  | cons d ds ih => exact (ih (f d w)).trans (h d w)

/-- A property that every operation of a fold over drops preserves holds behind the fold. -/
theorem forDrops_preserves (P : Work → Prop) (ds : List Drop) (f : Drop → Work → Work)
    (h : ∀ d w, P w → P (f d w)) (w : Work) (hw : P w) : P (forDrops ds f w) := by
  induction ds generalizing w with
  | nil => exact hw
  | cons d ds ih => exact ih (f d w) (h d w hw)

/-- A fold that changes each leg by itself leaves each leg so changed. -/
theorem forLegs_mapLeg_leg (f : Leg → LegRecord → LegRecord) (w : Work) (l : Leg) :
    (forLegs (fun k w => w.mapLeg k (f k)) w).leg l = f l (w.leg l) := by
  have h : allLegs = [0, 1, 2, 3] := rfl
  simp only [forLegs, h, List.foldl_cons, List.foldl_nil]
  match l with
  | 0 | 1 | 2 | 3 => simp [Work.leg_mapLeg_of_ne]

/-- Lock reached while LOCKING leaves each leg as it was, but that the first lock has its LASER_FAULT input watched afresh (R2, R16). -/
theorem Work.lock_leg (w : Work) (l : Leg) (h : w.blocks.time.part = .locking) :
    w.lock.leg l =
      if w.blocks.time.everLocked then w.leg l else { w.leg l with control := (w.leg l).control.watchAfresh } := by
  simp only [Work.lock, if_pos h]
  split
  · rfl
  · exact forLegs_mapLeg_leg (fun _ r => { r with control := r.control.watchAfresh }) _ l

/-- What every operation of a fold over legs keeps, the fold keeps. -/
theorem forLegs_keeps {α : Type} (P : Work → α) (f : Leg → Work → Work) (h : ∀ l w, P (f l w) = P w) (w : Work) :
    P (forLegs f w) = P w := by
  simp only [forLegs]
  induction allLegs generalizing w with
  | nil => rfl
  | cons l ls ih => exact (ih (f l w)).trans (h l w)

/-- A property that every operation of a fold over legs preserves holds behind the fold. -/
theorem forLegs_preserves (P : Work → Prop) (f : Leg → Work → Work) (h : ∀ l w, P w → P (f l w)) (w : Work) (hw : P w) :
    P (forLegs f w) := by
  simp only [forLegs]
  induction allLegs generalizing w with
  | nil => exact hw
  | cons l ls ih => exact ih (f l w) (h l w hw)

/-- A fold of a list's items that each keep `P` keeps `P`. -/
theorem foldl_keeps {α β : Type} (P : Work → α) (xs : List β) (f : Work → β → Work) (h : ∀ w x, P (f w x) = P w)
    (w : Work) : P (xs.foldl f w) = P w := by
  induction xs generalizing w with
  | nil => rfl
  | cons x xs ih => exact (ih (f w x)).trans (h w x)

/-! ### Notices in the outbound queue (R197, R198) -/

/-- A coalesced queue is the queue with one notice, not in transfer and of the same place, replaced. -/
theorem coalesce_some {n : Notice} {q q' : List OutRecord} (h : coalesce n q = some q') :
    ∃ a r b, q = a ++ r :: b ∧ r.updatedBy n = true ∧ (∀ x ∈ b, x.updatedBy n = false) ∧
      q' = a ++ { r with content := .notice n } :: b := by
  induction q generalizing q' with
  | nil => simp [coalesce] at h
  | cons r rs ih =>
    simp only [coalesce] at h
    split at h
    · next rs' hrs =>
      obtain ⟨a, x, b, rfl, hx, hb, rfl⟩ := ih hrs
      exact ⟨r :: a, x, b, rfl, hx, hb, by simpa using h.symm⟩
    · next hrs =>
      split at h
      · next hr =>
        refine ⟨[], r, rs, rfl, hr, ?_, by simpa using h.symm⟩
        clear ih h
        induction rs with
        | nil => simp
        | cons y ys ihy =>
          simp only [coalesce] at hrs
          split at hrs
          · simp at hrs
          · next hys =>
            split at hrs
            · simp at hrs
            · next hy => simpa [hy] using ihy hys
      · simp at h

/-- No notice of the queue is updated where the queue does not coalesce. -/
theorem coalesce_none {n : Notice} {q : List OutRecord} : coalesce n q = none ↔ ∀ x ∈ q, x.updatedBy n = false := by
  induction q with
  | nil => simp [coalesce]
  | cons r rs ih =>
    simp only [coalesce, List.mem_cons, forall_eq_or_imp]
    cases hrs : coalesce n rs with
    | some q =>
      have : ¬ ∀ x ∈ rs, x.updatedBy n = false := fun h => by simp [ih.mpr h] at hrs
      simp [this]
    | none =>
      have := ih.mp hrs
      cases hr : r.updatedBy n <;> simp
      exact this

/-- A record that a notice updates is a notice. -/
theorem OutRecord.isNotice_of_updatedBy {r : OutRecord} {n : Notice} (h : r.updatedBy n = true) : r.isNotice = true := by
  rcases r with ⟨c, t⟩
  cases c <;> simp_all [OutRecord.updatedBy, OutRecord.isNotice]

/-- What a notice placed makes of the port: one queue entry replaced, one appended, or the flag set. -/
theorem placeNotice_cases (p : Port) (n : Notice) :
    (∃ a r b, p.outbound = a ++ r :: b ∧ r.updatedBy n = true ∧
      placeNotice p n = { p with outbound := a ++ { r with content := .notice n } :: b }) ∨
    (noticeCount p.outbound < 28 ∧ p.outbound.length < 32 ∧
      placeNotice p n = { p with outbound := p.outbound ++ [⟨.notice n, false⟩] }) ∨
    placeNotice p n = { p with noticesLost := true } := by
  unfold placeNotice
  cases h : coalesce n p.outbound with
  | some q =>
    obtain ⟨a, r, b, hq, hr, -, rfl⟩ := coalesce_some h
    exact .inl ⟨a, r, b, hq, hr, rfl⟩
  | none =>
    by_cases hc : noticeCount p.outbound < 28 ∧ p.outbound.length < 32
    · exact .inr (.inl ⟨hc.1, hc.2, by simp [hc.1, hc.2]⟩)
    · exact .inr (.inr (by simp [← Bool.decide_and, hc]))

@[simp] theorem noticeCount_append (a b : List OutRecord) : noticeCount (a ++ b) = noticeCount a + noticeCount b := by
  simp [noticeCount]

/-- A notice placed keeps the port's other fields and never shortens the queue. -/
theorem placeNotice_frame (p : Port) (n : Notice) :
    (placeNotice p n).inbound = p.inbound ∧ (placeNotice p n).bad = p.bad ∧ (placeNotice p n).overrun = p.overrun ∧
      (placeNotice p n).log = p.log ∧ (placeNotice p n).latch = p.latch ∧ (placeNotice p n).persistent = p.persistent ∧
      (placeNotice p n).mask = p.mask ∧ p.outbound.length ≤ (placeNotice p n).outbound.length := by
  rcases placeNotice_cases p n with ⟨a, r, b, hq, -, h⟩ | ⟨-, -, h⟩ | h <;> rw [h] <;> simp_all

/-- A notice placed leaves every reply where it stands. -/
theorem placeNotice_reply {p : Port} {n : Notice} {i : Nat} {x : Reply} {t : Bool}
    (h : p.outbound[i]? = some ⟨.reply x, t⟩) : (placeNotice p n).outbound[i]? = some ⟨.reply x, t⟩ := by
  rcases placeNotice_cases p n with ⟨a, r, b, hq, hr, e⟩ | ⟨-, -, e⟩ | e <;> rw [e]
  · rw [hq] at h
    simp only [List.getElem?_append, List.getElem?_cons] at h ⊢
    split
    · next hi => simpa [hi] using h
    · next hi =>
      split
      · next h0 =>
        simp only [hi, h0, ↓reduceIte, Option.some.injEq] at h
        subst h
        simp [OutRecord.updatedBy] at hr
      · next h0 => simpa [hi, h0] using h
  · exact List.getElem?_append_left (List.getElem?_eq_some_iff.mp h).1 ▸ h
  · exact h

/-- Notices placed leave the port's other fields. -/
theorem placeAll_frame (p : Port) (ns : List Notice) :
    (placeAll p ns).inbound = p.inbound ∧ (placeAll p ns).bad = p.bad ∧ (placeAll p ns).overrun = p.overrun ∧
      (placeAll p ns).log = p.log ∧ (placeAll p ns).latch = p.latch ∧ (placeAll p ns).persistent = p.persistent ∧
      (placeAll p ns).mask = p.mask := by
  simp only [placeAll, judgeLines]
  induction ns generalizing p with
  | nil => simp
  | cons n ns ih =>
    have h := placeNotice_frame p n
    have := ih (placeNotice p n)
    simp_all

/-- Notices placed leave every reply where it stands. -/
theorem placeAll_reply {p : Port} {i : Nat} {x : Reply} {t : Bool} (ns : List Notice)
    (h : p.outbound[i]? = some ⟨.reply x, t⟩) : (placeAll p ns).outbound[i]? = some ⟨.reply x, t⟩ := by
  simp only [placeAll, judgeLines]
  induction ns generalizing p with
  | nil => exact h
  | cons n ns ih => exact ih (placeNotice_reply h)

/-- No notice placed leaves the queue; the lines are judged. -/
@[simp] theorem placeAll_nil (p : Port) : placeAll p [] = judgeLines p := rfl

/-- Judging twice is judging once. -/
@[simp] theorem judgeLines_judgeLines (p : Port) : judgeLines (judgeLines p) = judgeLines p := rfl

/-! ### Events (R1, R197) -/

@[simp] theorem event_blocks (f : Work → Work) (s : State) : (event f s).blocks = (f (Work.start s.blocks)).blocks := rfl

@[simp] theorem event_port (f : Work → Work) (s : State) :
    (event f s).port = placeAll s.port (f (Work.start s.blocks)).raised := rfl

@[simp] theorem event_pending (f : Work → Work) (s : State) : (event f s).pending = s.pending := rfl

@[simp] theorem boundaryEvent_blocks (f : Work → Work) (s : State) :
    (boundaryEvent f s).blocks = (f (Work.atNextBoundary s.blocks)).blocks := rfl

@[simp] theorem boundaryEvent_port (f : Work → Work) (s : State) :
    (boundaryEvent f s).port = placeAll s.port (f (Work.atNextBoundary s.blocks)).raised := rfl

@[simp] theorem boundaryEvent_pending (f : Work → Work) (s : State) : (boundaryEvent f s).pending = s.pending := rfl

/-! ### What holds a first send back (R46) -/

/-- An older echoed entry of the drop stands before position `i`. -/
theorem echoAhead_iff {q : List OrderEntry} {i : Nat} {target : Option Drop} :
    echoAhead q i target = true ↔
      ∃ j x, j < i ∧ q[j]? = some x ∧ x.order.kind.echoed = true ∧ x.target = target := by
  simp only [echoAhead, List.any_eq_true, Bool.and_eq_true, beq_iff_eq, List.mem_take_iff_getElem]
  constructor
  · rintro ⟨x, ⟨j, hj, rfl⟩, hx⟩
    exact ⟨j, _, by omega, List.getElem?_eq_getElem (by omega), hx⟩
  · rintro ⟨j, x, hji, hj, hx⟩
    obtain ⟨hl, rfl⟩ := List.getElem?_eq_some_iff.mp hj
    exact ⟨_, ⟨j, by omega, rfl⟩, hx⟩

/-- An echoed entry is first sent only on a leg in ON to a drop not HUSHED, with no order of the drop awaiting its echo or chosen, and no
older echoed one in the queue. -/
theorem firstSendAllowed_of_echoed {q : List OrderEntry} {on : Bool} {hushed : Drop → Bool} {chosen : List Nat} {i : Nat}
    {e : OrderEntry} (he : e.order.kind.echoed = true) :
    firstSendAllowed q on hushed chosen i e = true ↔
      e.mayEcho on hushed = true ∧ echoBusy q chosen e.target = false ∧ echoAhead q i e.target = false := by
  simp [firstSendAllowed, he, and_assoc]

/-! ### Echoes (R49, R53) -/

/-- What the delivery of an echo does: nothing without one; else it records the sequence, and with an order that awaits it, it takes that
order from the queue and applies its completion. -/
theorem Work.deliverEcho_cases (w : Work) (l : Leg) (d : Drop) (echo : Option (Fin 16)) :
    (echo = none ∧ w.deliverEcho l d echo = w) ∨
    (∃ q w', echo = some q ∧ w' = (w.mapLeg l fun r => { r with lastEcho := r.lastEcho.set d.val (some q) }) ∧
      (∀ e ∈ (w'.leg l).orders, ¬(e.target = some d ∧ e.awaiting = true ∧ e.seq = some q)) ∧ w.deliverEcho l d echo = w') ∨
    (∃ q e w', echo = some q ∧ w' = (w.mapLeg l fun r => { r with lastEcho := r.lastEcho.set d.val (some q) }) ∧
      e ∈ (w'.leg l).orders ∧ e.target = some d ∧ e.awaiting = true ∧ e.seq = some q ∧
      w.deliverEcho l d echo =
        (w'.mapLeg l fun r =>
          { r with orders := r.orders.filter fun x => !(x.target == some d && x.awaiting && x.seq == some q) }).applyCompletion
          l d e) := by
  cases echo with
  | none => exact .inl ⟨rfl, rfl⟩
  | some q =>
    simp only [Work.deliverEcho]
    split
    · next hnone =>
      refine .inr (.inl ⟨q, _, rfl, rfl, fun e he => ?_, rfl⟩)
      simpa [and_assoc] using List.find?_eq_none.mp hnone e he
    · next e he =>
      have hm := List.mem_of_find?_eq_some he
      have hp := List.find?_some he
      simp only [Bool.and_eq_true, beq_iff_eq, and_assoc] at hp
      exact .inr (.inr ⟨q, e, _, rfl, rfl, hm, hp.1, hp.2.1, hp.2.2, rfl⟩)

/-! ### Requests (R195) -/

/-- The four conditions of `State.takes`. -/
theorem State.takes_iff {s : State} {tag : Byte} :
    s.takes tag = true ↔
      s.blocks.time.part = .ready ∧ s.port.latch = false ∧ tag ≠ 0 ∧ s.port.outbound.length < 32 := by
  simp [State.takes, and_assoc]

@[simp] theorem deliver_blocks (a : Answer) (kind tag : Byte) (s : State) : (a.deliver kind tag s).blocks = a.work.blocks := rfl

@[simp] theorem deliver_pending (a : Answer) (kind tag : Byte) (s : State) : (a.deliver kind tag s).pending = s.pending := rfl

/-- A request that passes the checks of R195 is what its owner answers. -/
theorem serve_of_takes {s : State} {tag : Byte} (kind : Byte) (h : Handler) (ht : s.takes tag = true) :
    serve kind tag h s = .next ((h s.port (Work.start s.blocks)).deliver kind tag s) := by
  obtain ⟨hp, hl, h0, hq⟩ := State.takes_iff.mp ht
  simp [serve, hasPlace, handOver, answersLatched, hp, hl, hq]

/-- An answer of a request that passes the checks, as the state with its blocks, its port and its reply. -/
theorem deliver_eq {s : State} {tag : Byte} (kind : Byte) (a : Answer) (h0 : tag ≠ 0) :
    a.deliver kind tag s =
      { s with
        blocks := a.work.blocks
        port := placeAll { a.port with
          outbound := a.port.outbound ++ [⟨.reply ⟨kind + 0x80, tag, a.status, a.body⟩, false⟩] } a.work.raised } := by
  simp only [Answer.deliver, queueReply, if_neg h0]

/-- A refusal of a request that passes the checks. -/
theorem deliver_refuse {s : State} {tag : Byte} (kind : Byte) (st : Status) (h0 : tag ≠ 0) :
    (Answer.refuse st s.port (Work.start s.blocks)).deliver kind tag s = s.refuse kind tag st := by
  rw [deliver_eq kind _ h0]
  rfl

/-- An OK answer that keeps the port. -/
theorem deliver_ok {s : State} {tag : Byte} (kind : Byte) (body : ReplyBody) (w : Work) (h0 : tag ≠ 0) :
    (Answer.ok body s.port w).deliver kind tag s = (s.withBlocks w.blocks).reply kind tag body w.raised := by
  rw [deliver_eq kind _ h0]
  rfl

/-! ### The payload of a round -/

/-- Behind the last frame the payload is fill (R157). -/
theorem framesAt_fill (fs : List Frame) (i : Nat) (h : (fs.map Frame.room).sum ≤ i) : framesAt fs i = .fill fillByte := by
  induction fs generalizing i with
  | nil => rfl
  | cons f fs ih =>
    simp only [List.map_cons, List.sum_cons, Frame.room] at h
    rw [framesAt, if_neg (by omega), if_neg (by simp only [Frame.room]; omega)]
    exact ih _ (by simp only [Frame.room]; omega)

/-- Behind the frames `before` the payload is that of the frames that follow (R157). -/
theorem framesAt_append (before after : List Frame) (i : Nat) :
    framesAt (before ++ after) ((before.map Frame.room).sum + i) = framesAt after i := by
  induction before with
  | nil => simp
  | cons f fs ih =>
    simp only [List.map_cons, List.sum_cons, List.cons_append]
    rw [framesAt, if_neg (by simp only [Frame.room]; omega), if_neg (by omega), ← ih]
    congr 1
    omega

end Sys2Proof.Machine
end

