-- ==== Sys2Proof/Laws/Frame.lean ====
section
/-! SUPPORT. The frame of every operation on one leg: it leaves the clock, the stamp, the band, the period and every other leg as they
were. `Work.outside l` is all that an operation on leg `l` must leave; each lemma here says that one does. -/

set_option linter.unusedSimpArgs false
set_option linter.unnecessarySeqFocus false
set_option linter.unusedTactic false
set_option linter.unreachableTactic false

namespace Sys2Proof.Machine

/-- What an operation on leg `l` leaves: the stamp of the event, the clock, the band and period settings, the closes asked for, and every
other leg. -/
def Work.outside (l : Leg) (w : Work) :
    Stamp × Timebase × Fin 4 × Vector Bool 4 × List BandEntry × Nat × Vector Bool 4 × ({k : Leg // k ≠ l} → LegRecord) :=
  (w.stamp, w.blocks.time, w.blocks.band, w.blocks.quotaBands, w.blocks.bandPlan, w.blocks.period, w.blocks.hostClose,
    fun k => w.leg k.val)

/-- Equal outsides: the stamp and the clock are equal. -/
theorem Work.outside_stamp {l : Leg} {w w' : Work} (h : w'.outside l = w.outside l) : w'.stamp = w.stamp := congrArg (·.1) h

theorem Work.outside_time {l : Leg} {w w' : Work} (h : w'.outside l = w.outside l) : w'.blocks.time = w.blocks.time :=
  congrArg (·.2.1) h

/-- Equal outsides: every other leg is equal. -/
theorem Work.outside_leg {l k : Leg} {w w' : Work} (h : w'.outside l = w.outside l) (hk : k ≠ l) : w'.leg k = w.leg k :=
  congrFun (congrArg (·.2.2.2.2.2.2.2) h) ⟨k, hk⟩

variable (w : Work) (l : Leg) (d : Drop)

@[simp] theorem Work.mapLeg_outside (f : LegRecord → LegRecord) : (w.mapLeg l f).outside l = w.outside l := by
  simp only [Work.outside, Work.mapLeg_stamp, Work.mapLeg_time, Work.mapLeg_band, Work.mapLeg_quotaBands, Work.mapLeg_bandPlan,
    Work.mapLeg_period, Work.mapLeg_hostClose, Prod.mk.injEq, true_and]
  exact funext fun k => Work.leg_mapLeg_of_ne w l k.val f k.property

@[simp] theorem Work.raise_outside (a : Option Leg) (b : Option Drop) (n : NoticeBody) :
    (w.raise a b n).outside l = w.outside l := rfl

@[simp] theorem Work.mapJournal_outside (f : Journal → Journal) : (w.mapJournal f).outside l = w.outside l := rfl

@[simp] theorem Work.mapEnrol_outside (i : Fin 512) (f : EnrolEntry → EnrolEntry) :
    (w.mapEnrol i f).outside l = w.outside l := rfl

@[simp] theorem forDrops_outside (ds : List Drop) (f : Drop → Work → Work) (h : ∀ d w, (f d w).outside l = w.outside l) :
    (forDrops ds f w).outside l = w.outside l := forDrops_keeps (Work.outside l) ds f h w

@[simp] theorem foldl_outside {α : Type} (xs : List α) (f : Work → α → Work) (h : ∀ w x, (f w x).outside l = w.outside l) :
    (xs.foldl f w).outside l = w.outside l := foldl_keeps (Work.outside l) xs f h w

@[simp] theorem Work.mapDrop_outside (f : DropEntry → DropEntry) : (w.mapDrop l d f).outside l = w.outside l := by
  exact Work.mapLeg_outside w l _

@[simp] theorem Work.setMeter_outside (m : Option Meter) : (w.setMeter l d m).outside l = w.outside l := by
  exact Work.mapLeg_outside w l _

@[simp] theorem Work.mapControl_outside (f : LegControl → LegControl) : (w.mapControl l f).outside l = w.outside l := by
  exact Work.mapLeg_outside w l _

@[simp] theorem Work.mapMonitor_outside (f : Monitor → Monitor) : (w.mapMonitor l f).outside l = w.outside l := by
  exact Work.mapLeg_outside w l _

@[simp] theorem Work.mapStats_outside (f : WindowStats → WindowStats) : (w.mapStats l f).outside l = w.outside l := by
  exact Work.mapLeg_outside w l _

@[simp] theorem Work.setState_outside (st : DropState) : (w.setState l d st).outside l = w.outside l := by
  exact Work.mapLeg_outside w l _

@[simp] theorem Work.raiseDropState_outside (m : Option Bool) : (w.raiseDropState l d m).outside l = w.outside l := by
  rfl

@[simp] theorem Work.mapLanesOf_outside (f : Lane → Lane) : (w.mapLanesOf l d f).outside l = w.outside l := by
  exact Work.mapLeg_outside w l _

@[simp] theorem Work.queueOrder_outside (e : OrderEntry) : (w.queueOrder l e).outside l = w.outside l := by
  exact Work.mapLeg_outside w l _

@[simp] theorem Work.removeOrders_outside (k : OrderKind) : (w.removeOrders l d k).outside l = w.outside l := by
  exact Work.mapLeg_outside w l _

@[simp] theorem Work.purge_outside : (w.purge l d).outside l = w.outside l := by
  exact Work.mapLeg_outside w l _

@[simp] theorem Work.generate_outside (k : OwedKind) : (w.generate l d k).outside l = w.outside l := by
  unfold Work.generate
  (repeat' split) <;> simp [apply_ite (Work.outside l), *]

@[simp] theorem Work.judgeLevel_outside : (w.judgeLevel ).outside l = w.outside l := by
  unfold Work.judgeLevel
  (repeat' split) <;> simp [apply_ite (Work.outside l), *]

@[simp] theorem Work.writeEntry_outside (m : Meter) (c : CloseCause) : (w.writeEntry l d m c).outside l = w.outside l := by
  unfold Work.writeEntry
  (repeat' split) <;> simp [apply_ite (Work.outside l), *]

@[simp] theorem Work.afterWritten_outside (m : Meter) (c : CloseCause) : (w.afterWritten l d m c).outside l = w.outside l := by
  unfold Work.afterWritten
  (repeat' split) <;> simp [apply_ite (Work.outside l), *]

@[simp] theorem Work.closeMeter_outside (c : CloseCause) : (w.closeMeter l d c).1.outside l = w.outside l := by
  unfold Work.closeMeter
  (repeat' split) <;> simp [apply_ite (Work.outside l), *]

@[simp] theorem Work.judgeQuota_outside : (w.judgeQuota l d).outside l = w.outside l := by
  unfold Work.judgeQuota
  (repeat' split) <;> simp [apply_ite (Work.outside l), *]

@[simp] theorem Work.charge_outside (up : Bool) (n : Nat) (b : Fin 4) : (w.charge l d up n b).outside l = w.outside l := by
  unfold Work.charge
  (repeat' split) <;> simp [apply_ite (Work.outside l), *]

@[simp] theorem Work.shedBytes_outside (n : Nat) : (w.shedBytes l d n).outside l = w.outside l := by
  unfold Work.shedBytes
  (repeat' split) <;> simp [apply_ite (Work.outside l), *]

@[simp] theorem Work.outage_outside : (w.outage l d).outside l = w.outside l := by
  unfold Work.outage
  (repeat' split) <;> simp [apply_ite (Work.outside l), *]

@[simp] theorem Work.openMeter_outside : (w.openMeter l d).outside l = w.outside l := by
  unfold Work.openMeter
  (repeat' split) <;> simp [apply_ite (Work.outside l), *]

@[simp] theorem Work.setLeg_outside (st : LegState) (c : Option FaultCause) (n : Nat) : (w.setLeg l st c n).outside l = w.outside l := by
  unfold Work.setLeg
  (repeat' split) <;> simp [apply_ite (Work.outside l), *]

@[simp] theorem Work.drained_outside : (w.drained l).outside l = w.outside l := by
  unfold Work.drained
  (repeat' split) <;> simp [apply_ite (Work.outside l), *]

@[simp] theorem Work.vacate_outside : (w.vacate l d).outside l = w.outside l := by
  unfold Work.vacate
  (repeat' split) <;> simp [apply_ite (Work.outside l), *]

@[simp] theorem Work.toServing_outside : (w.toServing l d).outside l = w.outside l := by
  unfold Work.toServing
  (repeat' split) <;> simp [apply_ite (Work.outside l), *]

@[simp] theorem Work.wakeUp_outside : (w.wakeUp l d).outside l = w.outside l := by
  unfold Work.wakeUp
  (repeat' split) <;> simp [apply_ite (Work.outside l), *]

@[simp] theorem Work.unhushDrop_outside : (w.unhushDrop l d).outside l = w.outside l := by
  unfold Work.unhushDrop
  (repeat' split) <;> simp [apply_ite (Work.outside l), *]

@[simp] theorem Work.unhushAll_outside (keep : Option Drop) : (w.unhushAll l keep).outside l = w.outside l := by
  unfold Work.unhushAll
  (repeat' split) <;> simp [apply_ite (Work.outside l), *]

@[simp] theorem Work.dropStepAsks_outside : (w.dropStepAsks l).outside l = w.outside l := by
  unfold Work.dropStepAsks
  (repeat' split) <;> simp [apply_ite (Work.outside l), *]

@[simp] theorem Work.queueUnhush_outside : (w.queueUnhush l).outside l = w.outside l := by
  unfold Work.queueUnhush
  (repeat' split) <;> simp [apply_ite (Work.outside l), *]

@[simp] theorem Work.endHunt_outside (c : Bool) : (w.endHunt l c).outside l = w.outside l := by
  unfold Work.endHunt
  (repeat' split) <;> simp [apply_ite (Work.outside l), *]

@[simp] theorem Work.departure_outside : (w.departure l d).outside l = w.outside l := by
  unfold Work.departure
  dsimp only
  (repeat' split) <;> simp_all [apply_ite (Work.outside l)]

@[simp] theorem Work.lose_outside (r : LostReason) (n : Option Nat) : (w.lose l d r n).outside l = w.outside l := by
  unfold Work.lose
  (repeat' split) <;> simp [apply_ite (Work.outside l), *]

@[simp] theorem Work.loseByOrigin_outside : (w.loseByOrigin l d).outside l = w.outside l := by
  unfold Work.loseByOrigin
  (repeat' split) <;> simp [apply_ite (Work.outside l), *]

@[simp] theorem Work.retire_outside (r : RetireReason) : (w.retire l d r).outside l = w.outside l := by
  unfold Work.retire
  (repeat' split) <;> simp [apply_ite (Work.outside l), *]

@[simp] theorem Work.quarantine_outside : (w.quarantine l d).outside l = w.outside l := by
  unfold Work.quarantine
  (repeat' split) <;> simp [apply_ite (Work.outside l), *]

@[simp] theorem Work.createLane_outside (x : Lane) : (w.createLane l x).outside l = w.outside l := by
  unfold Work.createLane
  (repeat' split) <;> simp [apply_ite (Work.outside l), *]

@[simp] theorem Work.serveDrop_outside (m : Option Bool) : (w.serveDrop l d m).outside l = w.outside l := by
  unfold Work.serveDrop
  (repeat' split) <;> simp [apply_ite (Work.outside l), *]

@[simp] theorem Work.awaitDrop_outside (c : AwaitingCause) : (w.awaitDrop l d c).outside l = w.outside l := by
  unfold Work.awaitDrop
  (repeat' split) <;> simp [apply_ite (Work.outside l), *]

@[simp] theorem Work.admitByMode_outside : (w.admitByMode l d).outside l = w.outside l := by
  unfold Work.admitByMode
  (repeat' split) <;> simp [apply_ite (Work.outside l), *]

@[simp] theorem Work.admitFresh_outside : (w.admitFresh l d).outside l = w.outside l := by
  unfold Work.admitFresh
  dsimp only
  (repeat' split) <;> simp_all [apply_ite (Work.outside l)]

@[simp] theorem Work.rebindLanes_outside : (w.rebindLanes l d).outside l = w.outside l := by
  unfold Work.rebindLanes
  (repeat' split) <;> simp [apply_ite (Work.outside l), *]

@[simp] theorem Work.trimEnds_outside (m : Bool) : (w.trimEnds l d m).outside l = w.outside l := by
  unfold Work.trimEnds
  (repeat' split) <;> simp [apply_ite (Work.outside l), *]

@[simp] theorem Work.hushDrop_outside : (w.hushDrop l d).outside l = w.outside l := by
  unfold Work.hushDrop
  (repeat' split) <;> simp [apply_ite (Work.outside l), *]

@[simp] theorem Work.applyHush_outside (xs : List Drop) : (w.applyHush l xs).outside l = w.outside l := by
  unfold Work.applyHush
  (repeat' split) <;> simp [apply_ite (Work.outside l), *]

@[simp] theorem Work.doAsk_outside (a : MonitorAsk) : (w.doAsk l a).outside l = w.outside l := by
  unfold Work.doAsk
  (repeat' split) <;> simp [apply_ite (Work.outside l), *]

@[simp] theorem Work.retryAsks_outside : (w.retryAsks l).outside l = w.outside l := by
  unfold Work.retryAsks
  (repeat' split) <;> simp_all [apply_ite (Work.outside l)]

@[simp] theorem Work.retryOwed_outside : (w.retryOwed l).outside l = w.outside l := by
  unfold Work.retryOwed
  (repeat' split) <;> simp_all [apply_ite (Work.outside l)]

@[simp] theorem Work.retryOrders_outside : (w.retryOrders l).outside l = w.outside l := by
  unfold Work.retryOrders
  (repeat' split) <;> simp [apply_ite (Work.outside l), *]

@[simp] theorem Work.applyFailure_outside (k : OrderKind) (o : FailOutcome) : (w.applyFailure l d k o).outside l = w.outside l := by
  unfold Work.applyFailure
  (repeat' split) <;> simp [apply_ite (Work.outside l), *]

@[simp] theorem Work.failOrder_outside : (w.failOrder l d).outside l = w.outside l := by
  unfold Work.failOrder
  (repeat' split) <;> simp [apply_ite (Work.outside l), *]

@[simp] theorem Work.settleWaits_outside : (w.settleWaits l).outside l = w.outside l := by
  unfold Work.settleWaits
  (repeat' split) <;> simp [apply_ite (Work.outside l), *]

@[simp] theorem Work.sendOrder_outside (i : Nat) : (w.sendOrder l i).1.outside l = w.outside l := by
  unfold Work.sendOrder
  dsimp only
  (repeat' split) <;> simp_all [apply_ite (Work.outside l)]

theorem sendOrders_fold_outside (is : List Nat) (ps : List OrderPlace) :
    (is.foldl (fun acc i => ((acc.1.sendOrder l i).1, acc.2 ++ (acc.1.sendOrder l i).2)) (w, ps)).1.outside l =
      w.outside l := by
  induction is generalizing w ps with
  | nil => rfl
  | cons i is ih => simp [ih]

@[simp] theorem Work.sendOrders_outside : (w.sendOrders l).1.outside l = w.outside l := by
  simp [Work.sendOrders, sendOrders_fold_outside]

@[simp] theorem Work.toDormant_outside (n : Nat) : (w.toDormant l d n).outside l = w.outside l := by
  unfold Work.toDormant
  (repeat' split) <;> simp [apply_ite (Work.outside l), *]

@[simp] theorem Work.applyCompletion_outside (e : OrderEntry) : (w.applyCompletion l d e).outside l = w.outside l := by
  unfold Work.applyCompletion
  dsimp only
  (repeat' split) <;> simp_all [apply_ite (Work.outside l)]

@[simp] theorem Work.deliverEcho_outside (e : Option (Fin 16)) : (w.deliverEcho l d e).outside l = w.outside l := by
  unfold Work.deliverEcho
  dsimp only
  (repeat' split) <;> simp_all [apply_ite (Work.outside l)]

@[simp] theorem Work.beginSpan_outside (b : Bool) : (w.beginSpan l b).outside l = w.outside l := by
  unfold Work.beginSpan
  (repeat' split) <;> simp [apply_ite (Work.outside l), *]

@[simp] theorem Work.raiseSuspect_outside (c : Signatures) (x : Option Drop) : (w.raiseSuspect l c x).outside l = w.outside l := by
  unfold Work.raiseSuspect
  (repeat' split) <;> simp [apply_ite (Work.outside l), *]

@[simp] theorem Work.startStep_outside (k : StepKind) : (w.startStep l k).outside l = w.outside l := by
  unfold Work.startStep
  (repeat' split) <;> simp [apply_ite (Work.outside l), *]

@[simp] theorem Work.confirm_outside (sp : Span) : (w.confirm l sp).outside l = w.outside l := by
  unfold Work.confirm
  (repeat' split) <;> simp [apply_ite (Work.outside l), *]

@[simp] theorem Work.confirmCulprit_outside : (w.confirmCulprit l d).outside l = w.outside l := by
  unfold Work.confirmCulprit
  (repeat' split) <;> simp [apply_ite (Work.outside l), *]

@[simp] theorem Work.narrow_outside (cs : List Drop) : (w.narrow l cs).outside l = w.outside l := by
  unfold Work.narrow
  (repeat' split) <;> simp [apply_ite (Work.outside l), *]

@[simp] theorem Work.huntAfterCheck_outside : (w.huntAfterCheck l).outside l = w.outside l := by
  unfold Work.huntAfterCheck
  (repeat' split) <;> simp [apply_ite (Work.outside l), *]

@[simp] theorem Work.applyReading_outside (x : ProbeStep) (b : Bool) : (w.applyReading l x b).outside l = w.outside l := by
  unfold Work.applyReading
  dsimp only
  (repeat' split) <;> simp_all [apply_ite (Work.outside l)]

@[simp] theorem Work.observeStep_outside (r : RoundReport) : (w.observeStep l r).outside l = w.outside l := by
  unfold Work.observeStep
  dsimp only
  (repeat' split) <;> simp_all [apply_ite (Work.outside l)]

@[simp] theorem Work.endSpan_outside (sp : Span) (t : Stamp) : (w.endSpan l sp t).outside l = w.outside l := by
  unfold Work.endSpan
  dsimp only
  (repeat' split) <;> simp_all [apply_ite (Work.outside l)]

@[simp] theorem Work.takeReport_outside (r : RoundReport) : (w.takeReport l r).outside l = w.outside l := by
  unfold Work.takeReport
  dsimp only
  (repeat' split) <;> simp_all [apply_ite (Work.outside l)]

@[simp] theorem Work.suspectTimeout_outside : (w.suspectTimeout l).outside l = w.outside l := by
  unfold Work.suspectTimeout
  dsimp only
  (repeat' split) <;> simp_all [apply_ite (Work.outside l)]

@[simp] theorem Work.holdoffEnds_outside : (w.holdoffEnds l).outside l = w.outside l := by
  unfold Work.holdoffEnds
  (repeat' split) <;> simp [apply_ite (Work.outside l), *]

@[simp] theorem Work.holdoffTick_outside : (w.holdoffTick l).outside l = w.outside l := by
  unfold Work.holdoffTick
  dsimp only
  (repeat' split) <;> simp_all [apply_ite (Work.outside l)]

@[simp] theorem Work.stepTick_outside : (w.stepTick l).outside l = w.outside l := by
  unfold Work.stepTick
  (repeat' split) <;> simp [apply_ite (Work.outside l), *]

@[simp] theorem Work.disarmForLeg_outside : (w.disarmForLeg l).outside l = w.outside l := by
  unfold Work.disarmForLeg
  (repeat' split) <;> simp [apply_ite (Work.outside l), *]

@[simp] theorem Work.disarmByHost_outside : (w.disarmByHost l).outside l = w.outside l := by
  unfold Work.disarmByHost
  (repeat' split) <;> simp [apply_ite (Work.outside l), *]

@[simp] theorem Work.abandonSpan_outside : (w.abandonSpan l).outside l = w.outside l := by
  unfold Work.abandonSpan
  (repeat' split) <;> simp [apply_ite (Work.outside l), *]

@[simp] theorem Work.resumeSpan_outside : (w.resumeSpan l).outside l = w.outside l := by
  unfold Work.resumeSpan
  dsimp only
  (repeat' split) <;> simp_all [apply_ite (Work.outside l)]

@[simp] theorem Work.awardWindow_outside : (w.awardWindow l).1.outside l = w.outside l := by
  unfold Work.awardWindow
  dsimp only
  (repeat' split) <;> simp_all [apply_ite (Work.outside l)]

@[simp] theorem Work.buildFull_outside : (w.buildFull l).outside l = w.outside l := by
  unfold Work.buildFull
  dsimp only
  (repeat' split) <;> simp_all [apply_ite (Work.outside l)]

@[simp] theorem Work.buildEmpty_outside : (w.buildEmpty l).outside l = w.outside l := by
  unfold Work.buildEmpty
  (repeat' split) <;> simp [apply_ite (Work.outside l), *]

@[simp] theorem Work.discardDown_outside (n : Nat) : (w.discardDown l n).outside l = w.outside l := by
  unfold Work.discardDown
  (repeat' split) <;> simp [apply_ite (Work.outside l), *]

@[simp] theorem Work.drawAllowance_outside (n : Nat) : (w.drawAllowance l d n).outside l = w.outside l := by
  unfold Work.drawAllowance
  (repeat' split) <;> simp [apply_ite (Work.outside l), *]

@[simp] theorem Work.sendFrame_outside (f : Frame) : (w.sendFrame l f).outside l = w.outside l := by
  unfold Work.sendFrame
  (repeat' split) <;> simp [apply_ite (Work.outside l), *]

/-- A round's fill leaves the outside of its leg. -/
@[simp] theorem fillFrames_outside (fs : List Frame) (room : Nat) (sent : List Frame) :
    (fillFrames l fs room sent w).1.outside l = w.outside l := by
  induction fs generalizing room sent w with
  | nil => rfl
  | cons f fs ih =>
    unfold fillFrames
    (repeat' split) <;> simp [ih]

@[simp] theorem Work.fill_outside (n : Nat) : (w.fill l n).1.outside l = w.outside l := by
  unfold Work.fill
  (repeat' split) <;> simp [apply_ite (Work.outside l), *]

@[simp] theorem Work.assemble_outside (os : List OrderPlace) : (w.assemble l os).outside l = w.outside l := by
  unfold Work.assemble
  dsimp only
  (repeat' split) <;> simp_all [apply_ite (Work.outside l)]

@[simp] theorem Work.recover_outside : (w.recover l).outside l = w.outside l := by
  unfold Work.recover
  (repeat' split) <;> simp [apply_ite (Work.outside l), *]

@[simp] theorem Work.endPreparing_outside : (w.endPreparing l).outside l = w.outside l := by
  unfold Work.endPreparing
  (repeat' split) <;> simp [apply_ite (Work.outside l), *]

@[simp] theorem Work.endRetiming_outside : (w.endRetiming l).outside l = w.outside l := by
  unfold Work.endRetiming
  (repeat' split) <;> simp [apply_ite (Work.outside l), *]

@[simp] theorem Work.advanceLeg_outside : (w.advanceLeg l).outside l = w.outside l := by
  unfold Work.advanceLeg
  (repeat' split) <;> simp [apply_ite (Work.outside l), *]

@[simp] theorem Work.holdTick_outside : (w.holdTick l d).outside l = w.outside l := by
  unfold Work.holdTick
  dsimp only
  (repeat' split) <;> simp_all [apply_ite (Work.outside l)]

@[simp] theorem Work.beginRound_outside : (w.beginRound l).outside l = w.outside l := by
  unfold Work.beginRound
  (repeat' split) <;> simp [apply_ite (Work.outside l), *]

@[simp] theorem Work.legBoundary_outside : (w.legBoundary l).outside l = w.outside l := by
  unfold Work.legBoundary
  (repeat' split) <;> simp [apply_ite (Work.outside l), *]

@[simp] theorem Work.holdExpires_outside : (w.holdExpires l d).outside l = w.outside l := by
  unfold Work.holdExpires
  (repeat' split) <;> simp [apply_ite (Work.outside l), *]

@[simp] theorem Work.discoveryDue_outside : (w.discoveryDue l).outside l = w.outside l := by
  unfold Work.discoveryDue
  (repeat' split) <;> simp [apply_ite (Work.outside l), *]

@[simp] theorem Work.wakeCheckDue_outside : (w.wakeCheckDue l d).outside l = w.outside l := by
  unfold Work.wakeCheckDue
  (repeat' split) <;> simp [apply_ite (Work.outside l), *]

@[simp] theorem Work.bringDue_outside (p : OrderEntry → Bool) : (w.bringDue l d p).outside l = w.outside l := by
  unfold Work.bringDue
  (repeat' split) <;> simp [apply_ite (Work.outside l), *]

@[simp] theorem Work.resendFallsDue_outside : (w.resendFallsDue l d).outside l = w.outside l := by
  unfold Work.resendFallsDue
  (repeat' split) <;> simp [apply_ite (Work.outside l), *]

@[simp] theorem Work.waitFails_outside : (w.waitFails l d).outside l = w.outside l := by
  unfold Work.waitFails
  (repeat' split) <;> simp [apply_ite (Work.outside l), *]

@[simp] theorem Work.holdoffExpires_outside : (w.holdoffExpires l).outside l = w.outside l := by
  unfold Work.holdoffExpires
  dsimp only
  (repeat' split) <;> simp_all [apply_ite (Work.outside l)]

@[simp] theorem Work.driftStep_outside (n : Nat) : (w.driftStep l d n).outside l = w.outside l := by
  unfold Work.driftStep
  (repeat' split) <;> simp [apply_ite (Work.outside l), *]

@[simp] theorem Work.judgeTrim_outside (n : Nat) : (w.judgeTrim l d n).outside l = w.outside l := by
  unfold Work.judgeTrim
  (repeat' split) <;> simp [apply_ite (Work.outside l), *]

@[simp] theorem Work.judgeDrift_outside (n : Nat) : (w.judgeDrift l d n).outside l = w.outside l := by
  unfold Work.judgeDrift
  (repeat' split) <;> simp [apply_ite (Work.outside l), *]

@[simp] theorem Work.judgeBurst_outside (n : Nat) : (w.judgeBurst l d n).outside l = w.outside l := by
  unfold Work.judgeBurst
  (repeat' split) <;> simp [apply_ite (Work.outside l), *]

@[simp] theorem Work.takeStatus_outside (h : BurstHeader) : (w.takeStatus l d h).outside l = w.outside l := by
  unfold Work.takeStatus
  (repeat' split) <;> simp [apply_ite (Work.outside l), *]

@[simp] theorem Work.takeBacklog_outside (b : Vector (BitVec 24) 4) : (w.takeBacklog l d b).outside l = w.outside l := by
  unfold Work.takeBacklog
  (repeat' split) <;> simp [apply_ite (Work.outside l), *]

@[simp] theorem Work.takePayload_outside (b : Burst) (p : List Byte) : (w.takePayload l b p).outside l = w.outside l := by
  unfold Work.takePayload
  (repeat' split) <;> simp [apply_ite (Work.outside l), *]

@[simp] theorem Work.afterWake_outside (st : DropState) : (w.afterWake l d st).outside l = w.outside l := by
  unfold Work.afterWake
  (repeat' split) <;> simp [apply_ite (Work.outside l), *]

@[simp] theorem Work.deliverClean_outside (b : Burst) (f : FoundBurst) : (w.deliverClean l b f).outside l = w.outside l := by
  unfold Work.deliverClean
  (repeat' split) <;> simp [apply_ite (Work.outside l), *]

@[simp] theorem Work.missBurst_outside : (w.missBurst l d).outside l = w.outside l := by
  unfold Work.missBurst
  (repeat' split) <;> simp [apply_ite (Work.outside l), *]

@[simp] theorem Work.windowEnds_outside (x : WindowLight) : (w.windowEnds l x).outside l = w.outside l := by
  unfold Work.windowEnds
  (repeat' split) <;> simp [apply_ite (Work.outside l), *]

@[simp] theorem Work.lastMiss_outside : (w.lastMiss l d).outside l = w.outside l := by
  unfold Work.lastMiss
  (repeat' split) <;> simp [apply_ite (Work.outside l), *]

@[simp] theorem Work.lastDrift_outside (n : Nat) : (w.lastDrift l d n).outside l = w.outside l := by
  unfold Work.lastDrift
  (repeat' split) <;> simp [apply_ite (Work.outside l), *]

@[simp] theorem Work.stranger_outside (x : Serial) (y : StrangerWhy) (t : Stamp) : (w.stranger l x y t).outside l = w.outside l := by
  unfold Work.stranger
  (repeat' split) <;> simp [apply_ite (Work.outside l), *]

@[simp] theorem Work.forget_outside : (w.forget l d).outside l = w.outside l := by
  unfold Work.forget
  (repeat' split) <;> simp [apply_ite (Work.outside l), *]

@[simp] theorem Work.claim_outside (i : Fin 512) (x : Serial) (n : Nat) : (w.claim l d i x n).outside l = w.outside l := by
  unfold Work.claim
  (repeat' split) <;> simp [apply_ite (Work.outside l), *]

@[simp] theorem Work.refind_outside (n : Nat) : (w.refind l d n).outside l = w.outside l := by
  unfold Work.refind
  (repeat' split) <;> simp [apply_ite (Work.outside l), *]

@[simp] theorem Work.matchAnnounce_outside (t : Stamp) (x : Serial) (n : Nat) : (w.matchAnnounce l t x n).outside l = w.outside l := by
  unfold Work.matchAnnounce
  (repeat' split) <;> simp [apply_ite (Work.outside l), *]

@[simp] theorem Work.discoveryEnds_outside (x : FrameLight) (xs : List FoundAnnounce) : (w.discoveryEnds l x xs).outside l = w.outside l := by
  unfold Work.discoveryEnds
  dsimp only
  (repeat' split) <;> simp_all [apply_ite (Work.outside l)]

@[simp] theorem Work.rangingFails_outside (c : RangingCause) : (w.rangingFails l d c).outside l = w.outside l := by
  unfold Work.rangingFails
  (repeat' split) <;> simp [apply_ite (Work.outside l), *]

@[simp] theorem Work.rangingReplied_outside (a : Int) (n : Nat) : (w.rangingReplied l d a n).outside l = w.outside l := by
  unfold Work.rangingReplied
  (repeat' split) <;> simp [apply_ite (Work.outside l), *]

@[simp] theorem Work.takeRanging_outside (b : Bool) (r : Option (Int × Nat)) : (w.takeRanging l d b r).outside l = w.outside l := by
  unfold Work.takeRanging
  (repeat' split) <;> simp [apply_ite (Work.outside l), *]

@[simp] theorem Work.rangingEnds_outside (bs : List FoundBurst) : (w.rangingEnds l bs).outside l = w.outside l := by
  unfold Work.rangingEnds
  (repeat' split) <;> simp [apply_ite (Work.outside l), *]

@[simp] theorem Work.roundReceived_outside (x : FrameLight) : (w.roundReceived l x).outside l = w.outside l := by
  unfold Work.roundReceived
  (repeat' split) <;> simp [apply_ite (Work.outside l), *]

@[simp] theorem Work.spanEnds_outside (r : RoundReport) : (w.spanEnds l r).outside l = w.outside l := by
  unfold Work.spanEnds
  (repeat' split) <;> simp [apply_ite (Work.outside l), *]

@[simp] theorem Work.stepReads_outside (r : RoundReport) : (w.stepReads l r).outside l = w.outside l := by
  unfold Work.stepReads
  (repeat' split) <;> simp [apply_ite (Work.outside l), *]

@[simp] theorem Work.emptyFifo_outside : (w.emptyFifo l).outside l = w.outside l := by
  unfold Work.emptyFifo
  (repeat' split) <;> simp [apply_ite (Work.outside l), *]

@[simp] theorem Work.leaveService_outside : (w.leaveService l).outside l = w.outside l := by
  unfold Work.leaveService
  (repeat' split) <;> simp [apply_ite (Work.outside l), *]

@[simp] theorem Work.faultDrop_outside : (w.faultDrop l d).outside l = w.outside l := by
  unfold Work.faultDrop
  dsimp only
  (repeat' split) <;> simp_all [apply_ite (Work.outside l)]

@[simp] theorem Work.faultLeg_outside (c : FaultCause) : (w.faultLeg l c).outside l = w.outside l := by
  unfold Work.faultLeg
  (repeat' split) <;> simp [apply_ite (Work.outside l), *]

@[simp] theorem Work.drainLeg_outside : (w.drainLeg l).outside l = w.outside l := by
  unfold Work.drainLeg
  (repeat' split) <;> simp [apply_ite (Work.outside l), *]

@[simp] theorem Work.laserFault_outside : (w.laserFault l).outside l = w.outside l := by
  unfold Work.laserFault
  (repeat' split) <;> simp [apply_ite (Work.outside l), *]

@[simp] theorem Work.legOn_outside (n : Nat) : (w.legOn l n).outside l = w.outside l := by
  unfold Work.legOn
  (repeat' split) <;> simp [apply_ite (Work.outside l), *]

@[simp] theorem Work.reachDrop_outside (n : Nat) (x : Int) : (w.reachDrop l n x d).outside l = w.outside l := by
  unfold Work.reachDrop
  dsimp only
  (repeat' split) <;> simp_all [apply_ite (Work.outside l)]

@[simp] theorem Work.changeReach_outside (n : Nat) (x : Int) : (w.changeReach l n x).outside l = w.outside l := by
  unfold Work.changeReach
  (repeat' split) <;> simp [apply_ite (Work.outside l), *]

@[simp] theorem Work.dismiss_outside : (w.dismiss l d).outside l = w.outside l := by
  unfold Work.dismiss
  (repeat' split) <;> simp [apply_ite (Work.outside l), *]

@[simp] theorem Work.completeRetirement_outside : (w.completeRetirement l d).outside l = w.outside l := by
  unfold Work.completeRetirement
  (repeat' split) <;> simp [apply_ite (Work.outside l), *]

@[simp] theorem Work.storeLane_outside (n : Fin 256) (x : Lane) (b : Bool) : (w.storeLane l n x b).outside l = w.outside l := by
  unfold Work.storeLane
  (repeat' split) <;> simp [apply_ite (Work.outside l), *]

@[simp] theorem Work.removeLane_outside (n : Fin 256) : (w.removeLane l n d).outside l = w.outside l := by
  unfold Work.removeLane
  (repeat' split) <;> simp [apply_ite (Work.outside l), *]

@[simp] theorem Work.dropQueuedSleep_outside : (w.dropQueuedSleep l d).outside l = w.outside l := by
  unfold Work.dropQueuedSleep
  (repeat' split) <;> simp [apply_ite (Work.outside l), *]

@[simp] theorem Work.rogueSettings_outside (x : MonitorSettings) : (w.rogueSettings l x).outside l = w.outside l := by
  unfold Work.rogueSettings
  (repeat' split) <;> simp [apply_ite (Work.outside l), *]

@[simp] theorem Work.arm_outside : (w.arm l).outside l = w.outside l := by
  unfold Work.arm
  (repeat' split) <;> simp [apply_ite (Work.outside l), *]

@[simp] theorem Work.abandonHunt_outside : (w.abandonHunt l).outside l = w.outside l := by
  unfold Work.abandonHunt
  (repeat' split) <;> simp [apply_ite (Work.outside l), *]

@[simp] theorem Work.release_outside : (w.release l d).outside l = w.outside l := by
  unfold Work.release
  (repeat' split) <;> simp [apply_ite (Work.outside l), *]

@[simp] theorem Work.writeHeldMeter_outside : (w.writeHeldMeter l d).outside l = w.outside l := by
  unfold Work.writeHeldMeter
  (repeat' split) <;> simp [apply_ite (Work.outside l), *]

@[simp] theorem Work.clearQuota_outside (n : Nat) : (w.clearQuota l d n).outside l = w.outside l := by
  unfold Work.clearQuota
  (repeat' split) <;> simp [apply_ite (Work.outside l), *]

end Sys2Proof.Machine
end

