-- ==== Sys2Proof/Tests/Slice0.lean ====
section
/-! SUPPORT. Tests: the well-formedness checks on ill-formed commands, the layouts of 11.10 and the checks of R208 on values worked by
hand from the spec, single steps on a small state, and, for every statement with hypotheses, operands and a state that meet them. -/

-- One theorem after another: every theorem checked at once takes a stack of its own, more than the memory limit allows.
set_option Elab.async false

namespace Sys2Proof.Machine

/-! ### Well-formedness: each check refuses an ill-formed command -/

/-- A burst header of drop `d` with no echo, no flags and no backlog. -/
def plainHeader (d : Drop) : BurstHeader := ⟨d, none, false, false, false, Vector.replicate 4 0⟩

/-- A burst of drop `d` with its delimiter at `x`, level 128, a good header, and the payload given. -/
def plainBurst (d : Drop) (x : Nat) (payload : List Byte) : FoundBurst :=
  ⟨x, List.replicate 6 128, plainHeader d, true, payload⟩

theorem test_light_longer_than_a_frame_is_refused : (Instr.receiveRoundEnd 0 [⟨8001, true, 0⟩]).wellFormed = false := by decide

theorem test_light_of_one_frame_is_accepted : (Instr.receiveRoundEnd 0 [⟨8000, true, 0⟩]).wellFormed = true := by decide

theorem test_delimiter_in_a_dark_window_is_refused :
    (Instr.grantedWindowEnd 0 ⟨false, some (plainBurst 0 80 [])⟩).wellFormed = false := by decide

theorem test_delimiter_behind_the_frame_is_refused :
    (Instr.grantedWindowEnd 0 ⟨true, some (plainBurst 0 64000 [])⟩).wellFormed = false := by decide

theorem test_short_preamble_is_refused :
    (Instr.rangingWindowEnd 0 [{ plainBurst 0 80 [] with preamble := [128] }]).wellFormed = false := by decide

theorem test_announce_behind_the_frame_is_refused :
    (Instr.discoveryWindowEnd 0 [] [⟨64000, 1, 0, 1, true⟩]).wellFormed = false := by decide

theorem test_report_of_round_4096_is_refused : (Instr.spanEnd 0 ⟨⟨0, 4096⟩, 0, none, [], [], 0, 0⟩).wellFormed = false := by decide

theorem test_report_with_a_tail_of_65_is_refused :
    (Instr.stepReading 0 ⟨⟨0, 1⟩, 0, none, [(0, 65)], [], 0, 0⟩).wellFormed = false := by decide

theorem test_read_opcode_is_no_bad_opcode : (Instr.badOpcodeTransaction 0xC2).wellFormed = false := by decide

theorem test_enrolment_longer_than_a_record_is_refused :
    (Instr.enrolAdd 1 ⟨1, 0, 1, 0, 0, List.replicate 200 ⟨0, 0, 0⟩⟩).wellFormed = false := by decide +kernel

/-! ### The checks of R208 and the layouts of 11.10 -/

/-- The CRC-16 with the generator and start value of R208 of the nine digits, known as 0x29B1. -/
theorem test_crc16_of_the_digits : crc16 [0x31, 0x32, 0x33, 0x34, 0x35, 0x36, 0x37, 0x38, 0x39] = 0x29B1#16 := by decide +kernel

/-- The CRC-8 with the generator and start value of R208 of the nine digits, known as 0xF4. -/
theorem test_crc8_of_the_digits : crc8 [0x31, 0x32, 0x33, 0x34, 0x35, 0x36, 0x37, 0x38, 0x39] = 0xF4#8 := by decide +kernel

theorem test_block_after_reset_is_composed :
    (List.finRange 4).all (fun l => blockReset l == composeBlock l 0 0 (Vector.replicate 40 0)) = true := by decide +kernel

theorem test_identify_has_kind_1_and_no_body : parseRequest 0x01 [] = .request .identify := by decide

theorem test_leg_on_reads_the_span_most_significant_byte_first :
    parseRequest 0x10 [0x02, 0x0C, 0x35] = .request (.legOn 2 3125) := by decide

theorem test_sleep_body : parseRequest 0x28 [0x00, 0x07, 0x00, 0x40] = .request (.sleep 0 7 64) := by decide

theorem test_band_set_body :
    parseRequest 0x38 [0x02, 0x00, 0x00, 0x00, 0x00, 0x05, 0x00, 0x40] = .request (.bandSet 2 0 5 64) := by decide

theorem test_journal_release_body : parseRequest 0x41 [0x00, 0x00, 0x01, 0x02] = .request (.journalRelease 258) := by decide

theorem test_drop_read_and_rogue_arm_bodies :
    parseRequest 0x1E [0x01, 0x7F] = .request (.dropRead 1 127) ∧ parseRequest 0x31 [0x03] = .request (.rogueArm 3) := by decide

theorem test_enrol_add_with_one_template :
    parseRequest 0x18 [0, 0, 0, 0, 0, 0, 0, 9, 0xFF, 0, 0, 0, 5, 1, 0, 0, 0, 0, 0, 0, 0, 0, 1, 1, 0, 100, 0, 200] =
      .request (.enrolAdd ⟨9, 0xFF, 5, 1, 0, [⟨1, 100, 200⟩]⟩) := by decide

theorem test_kind_6_is_unknown : parseRequest 0x06 [] = .unknownKind := by decide

theorem test_body_of_the_wrong_length : parseRequest 0x10 [0x02, 0x0C] = .wrongLength := by decide

theorem test_record_with_a_wrong_crc : judgeRecord [0x00, 0x02, 0x01, 0x07, 0x00, 0x00] = .inl .crc := by decide +kernel

theorem test_record_shorter_than_its_length : judgeRecord [0x00, 0x04, 0x01, 0x07, 0x00, 0x00] = .inl .short := by decide

/-- The uplink tag of leg 1, drop 4, lane 7, class SURPLUS, 8,191 bytes (11.10). -/
theorem test_uplink_tag : uplinkTag 1 4 7 true false 8191 = 0x4203DFFF#32 := by decide

/-! ### Small states -/

/-- The part after a pin reset, with lock reached. -/
def lit : State := { State.reset with blocks := { Blocks.reset with time := { Blocks.reset.time with part := .ready } } }

/-- `lit` at round `k` of cycle 0. -/
def litAtRound (k : Nat) : State := lit.withBlocks { lit.blocks with time := { lit.blocks.time with round := k } }

/-- Leg 0 of `s` with its control record changed. -/
def State.control (s : State) (f : LegControl → LegControl) : State := s.mapLeg 0 fun r => { r with control := f r.control }

/-- Leg 0 of `s` with its monitor changed. -/
def State.monitor (s : State) (f : Monitor → Monitor) : State := s.mapLeg 0 fun r => { r with monitor := f r.monitor }

/-- `lit` with leg 0 in the state given, its laser on. -/
def litLeg (st : LegState) : State := lit.control fun c => { c with state := st, txen := true }

/-- `s` with an entry at drop `d` of leg 0. -/
def State.putDrop (s : State) (d : Drop) (e : DropEntry) : State := s.mapLeg 0 fun r => { r with drops := r.drops.set d.val e }

/-- An entry in the state given, with serial 9, a bound enrolment at position 0, and a delay that fits the reset reach. -/
def entryIn (st : DropState) : DropEntry :=
  { DropEntry.vacant ⟨0, 0⟩ with
    state := st, serial := some 9, enrolRef := some 0, rtt := some 100, eqd := some 49900, cleanSinceWake := true }

/-- Leg 0 in ON with drop 5 in the state given. -/
def withDrop (st : DropState) : State := (litLeg .on).putDrop 5 (entryIn st)

/-- An enrolment entry for serial 9 and account 77 with the quota and the binding given. -/
def enrolled (quota : Nat) (binding : Option (Leg × Drop)) : EnrolEntry := ⟨9, none, 77, .auto, quota, [], binding⟩

/-- `s` with that entry at position 0 of the enrolment list. -/
def State.enrolFirst (s : State) (e : EnrolEntry) : State :=
  s.withBlocks { s.blocks with enrol := s.blocks.enrol.set 0 (some e) }

/-- A meter of account 77 with `bytes` upstream in band 0. -/
def meterWith (bytes : Nat) : Meter := { Meter.opened 77 ⟨0, 0⟩ with up := #v[bytes, 0, 0, 0], quotaUsed := bytes }

/-- `s` with a meter at drop 5 of leg 0. -/
def State.putMeter (s : State) (m : Meter) : State := s.mapLeg 0 fun r => { r with meters := r.meters.set 5 (some m) }

/-- An ASSURED lane of drop 5 on local port 1. -/
def lane5 : Lane := ⟨5, 1, .assured 100 200, some 150, 7, none, .active⟩

/-- `s` with that lane at place 0 of leg 0. -/
def State.putLane (s : State) (x : Lane) : State := s.mapLeg 0 fun r => { r with lanes := r.lanes.set 0 (some x) }

/-- `s` with the order queue of leg 0 given. -/
def State.putOrders (s : State) (q : List OrderEntry) : State := s.mapLeg 0 fun r => { r with orders := q }

/-- An order to drop 5 that awaits its echo, sent so often and waited so long. -/
def awaitingOrder (o : Order) (sends waited : Nat) : OrderEntry :=
  { OrderEntry.queued o (some 5) with awaiting := true, seq := some 3, sends := sends, waited := waited, lastSent := some 4000 }

/-- A map with one burst of drop 5 at beat 0, and the tail window given. -/
def mapFor (win : Option TailWindow) (g : Option RangingEntry) : GrantMap :=
  { emptyMap 0 ⟨0, 0⟩ with empty := false, bursts := [⟨5, 0, 16, []⟩], window := win, ranging := g }

/-- `s` with that map in flight on leg 0. -/
def State.receive (s : State) (m : GrantMap) : State := s.mapLeg 0 fun r => { r with inFlight := [⟨m, 6250, 0, 0, 0, false, false⟩] }

/-- Leg 0 in ON with a CLEAN keepalive of drop 5 to come: the drop in the state given, and the orders given. -/
def clean5 (st : DropState) (q : List OrderEntry) : State := ((withDrop st).putOrders q).receive (mapFor none none)

/-- A burst of drop 5 in its place, at the level given, with the echo given and a dying gasp or a wake request where asked. -/
def keepalive5 (level : Byte) (echo : Option (Fin 16)) (gasp wake : Bool) : FoundBurst :=
  ⟨80, List.replicate 6 level, ⟨5, echo, gasp, wake, false, Vector.replicate 4 0⟩, true, []⟩

/-- A journal of two entries, the first of them read. -/
def twoEntries : Journal :=
  let e : JournalEntry :=
    ⟨1, 77, 0, 5, ⟨0, 0⟩, ⟨0, 0⟩, Vector.replicate 4 0, Vector.replicate 4 0, 0, .host, MeterFlags.clear⟩
  { Journal.reset with entries := [e, { e with seq := 2 }], nextSeq := 3, cursor := 2 }

/-- `s` with the journal given. -/
def State.putJournal (s : State) (j : Journal) : State := s.withBlocks { s.blocks with journal := j }

/-- What a command leads to. -/
def after (c : Instr) (s : State) : State :=
  match exec c s with
  | .next t => t
  | _ => s

/-! ### Single steps, with the results the spec states -/

/-- R3: the first capture stands in the ring with stamp and beat. -/
theorem test_pulse_is_captured : (after .pulseCapture lit).blocks.time.ring = [⟨⟨0, 0⟩, 0⟩] := by decide +kernel

/-- R9: LEG_ON in OFF starts 64 PREPARING rounds with the laser still off. -/
theorem test_leg_on :
    let c := ((after (.legOn 1 0 3125) lit).leg 0).control
    c.state = .preparing ∧ c.roundsLeft = 64 ∧ c.txen = false := by decide +kernel

/-- R7: a discovery interval of 15 becomes 16, an up-throttle of 2,001 becomes 2,000, a lost hold of 65 becomes 64. -/
theorem test_leg_set_clamps :
    let v := ((after (.legSet 1 0 ⟨15, 1, 2, 2001, 9, 65⟩) lit).leg 0).control.settings
    v.discovery = 16 ∧ v.upThrottle = 2000 ∧ v.lostHold = 64 := by decide +kernel

/-- R15: a SERVING drop is LOST by a laser fault, with a hold of 4,096 rounds under a lost hold of 1. -/
theorem test_laser_fault_loses_a_serving_drop :
    let t := after (.laserFaultAsserted 0) (withDrop .serving)
    (t.drop 0 5).state = .lost ∧ (t.drop 0 5).hold = some 4096 := by decide +kernel

/-- R76, R77: a span 250 beats shorter moves an EqD down by 2,000 eighths. -/
theorem test_set_reach_shifts_the_delay :
    ((after (.setReach 1 0 6000) (withDrop .serving)).drop 0 5).eqd = some 47900 := by decide +kernel

/-- R69: at level 200 and the band 96 to 160 the raw step is limited to 8 down. -/
theorem test_trim_step : appliedStep 96 160 200 16 = -8 ∧ appliedStep 96 160 200 0 = 0 := by decide

/-- R119: an interval below 16 becomes 16. -/
theorem test_sleep_interval_is_clamped :
    (((after (.sleep 1 0 5 5) (withDrop .serving)).leg 0).orders.map OrderEntry.order) = [.sleep 16] := by decide +kernel

/-- R193: a record with a wrong CRC is counted and logged with its length. -/
theorem test_bad_record_is_logged :
    let p := (after (.writeTransactionEnd [0x00, 0x02, 0x01, 0x07, 0x00, 0x00]) lit).port
    p.bad = 1 ∧ (p.log.map BadLog.count) = some 6 ∧ p.attn = true ∧ p.alert = true := by decide +kernel

/-- R192: a record read whole leaves the queue, and ATTN_N is released. -/
theorem test_read_transaction :
    let t := after (.readTransactionEnd true) (after .readOpcode (after (.identify 1) lit))
    t.port.outbound = [] ∧ t.port.attn = false := by decide +kernel

/-- R197: a second PULSE notice takes the place of the first. -/
theorem test_notice_coalesces : (after .pulseCapture (after .pulseCapture lit)).port.outbound.length = 1 := by decide +kernel

/-- R163, R209: a downstream frame for leg 0, drop 5 is queued. -/
theorem test_frame_is_queued :
    (((after (.downstreamFrameArrival 0x02802002#32 [1, 2]) (litLeg .on)).leg 0).fifo) = [⟨5, false, [1, 2]⟩] := by
  decide +kernel

/-- R104: a delimiter 16 eighths late is CLEAN, 17 late is not. -/
theorem test_tolerance :
    classify ⟨5, 0, 16, []⟩ ⟨true, some (plainBurst 5 96 [])⟩ = .clean ∧
      classify ⟨5, 0, 16, []⟩ ⟨true, some (plainBurst 5 97 [])⟩ = .garbled := by decide

/-! ### Operands and states that meet the hypotheses of the statements -/

theorem witness_StepRunsFrontCommand :
    State.reset.pending = [] ∧ State.reset.blocks.time.part = .locking ∧
      lit.pending = [] ∧ lit.blocks.time.part = .ready ∧ lit.blocks.time.beat < 7999 ∧
      7999 ≤ (lit.withBlocks { lit.blocks with time := { lit.blocks.time with beat := 7999 } }).blocks.time.beat := by decide

theorem witness_RequestBodiesRoundTrip :
    (Request.enrolAdd ⟨1, 0, 1, 0, 0, List.replicate 199 ⟨0, 0, 0⟩⟩).wellFormed = true ∧ Request.identify.wellFormed = true ∧
      parseRequest 0x31 [0x03] = .request (.rogueArm 3) := by decide +kernel

theorem witness_TakeRequestRunsTheCommand :
    (Instr.legOn 7 0 3125).request? = some (7, .legOn 0 3125) ∧ (Request.legOn 0 3125).wellFormed = true ∧
      hasPlace lit.port 7 = true ∧
      { lit with port := { lit.port with inbound := [⟨0x10, 7, [0x00, 0x0C, 0x35], false⟩] } }.port.inbound =
        ⟨kindOf (.legOn 0 3125), 7, bodyOf (.legOn 0 3125), lit.port.latch⟩ :: [] := by decide +kernel

theorem reset_time_ok : State.reset.blocks.time.Ok := ⟨by decide, by decide, by decide, by decide, by decide⟩

theorem reset_port_ok : State.reset.port.Ok := ⟨by decide, by decide, by decide, by decide, by decide, by decide, by decide⟩

theorem reset_laser_ok : State.reset.LaserOk :=
  fun l => ⟨by revert l; decide, by revert l; decide, by revert l; decide⟩

theorem reset_journal_ok : State.reset.blocks.journal.Ok := ⟨fun i h => absurd h (Nat.not_lt_zero i), by decide, by decide⟩

/-- A step is taken from a state that meets every invariant: lock is reached after a pin reset. -/
theorem witness_StepKeepsInvariants :
    ∃ t, step { State.reset with pending := [.lockReached] } = .next t ∧ t.blocks.time.part = .ready := ⟨_, rfl, by decide⟩

/-- A leg's record after a pin reset. -/
theorem reset_leg (l : Leg) : State.reset.leg l = LegRecord.reset l := by
  match l with
  | 0 | 1 | 2 | 3 => rfl

theorem reset_maps_ok : State.reset.MapsOk := fun l => by
  rw [reset_leg]
  exact
    { two := Nat.zero_le _, flying := nofun, kept := nofun, reach := by revert l; decide, limits := by revert l; decide +kernel
      resting := fun _ => ⟨rfl, rfl⟩
      drained := fun _ => ⟨fun n => Vector.getElem_replicate n.isLt, fun d => .inl (by simp [LegRecord.reset, DropEntry.vacant])⟩ }

theorem reset_orders_ok : State.reset.OrdersOk := fun l => by
  rw [reset_leg]
  have none : (LegRecord.reset l).orders = [] := rfl
  exact
    { all := by simp [none], plain := by simp [none, plainCount], urgent := by simp [none], echoed := by simp [none]
      single := by simp [none], oldest := by simp [none] }

theorem reset_held_ok : State.reset.blocks.HeldOk :=
  have none (l : Leg) (d : Drop) : State.reset.blocks.legs[l].meters[d] = none := by
    have : State.reset.blocks.legs[l] = LegRecord.reset l := reset_leg l
    simp [this, LegRecord.reset]
  { waits := fun _ l d m h => by rw [none l d] at h; cases h
    extended := fun l d m h => by rw [none l d] at h; cases h }

theorem reset_credit_ok : State.reset.CreditOk := by
  intro l n x h
  simp [reset_leg, LegRecord.reset] at h

theorem reset_bindings_ok : State.reset.BindingsOk := by
  have entry (l : Leg) (d : Drop) : State.reset.drop l d = DropEntry.vacant ⟨0, 0⟩ := by
    simp [State.drop, reset_leg, LegRecord.reset]
  have list (i : Fin 512) : State.reset.blocks.enrol[i] = none := by simp [State.reset, Blocks.reset]
  have idle (l : Leg) : (State.reset.leg l).monitor.state = .disarmed := by rw [reset_leg]; rfl
  exact
    { listed := fun i _ _ _ h => by rw [list i] at h; cases h
      bound := fun l d _ h => by rw [entry l d] at h; cases h
      vacant := fun l d => by rw [entry l d]; exact ⟨fun _ => rfl, fun _ => rfl⟩
      resumes := fun l d _ h => by rw [entry l d] at h; cases h
      candidates := fun l _ h => by rw [idle l] at h; cases h
      suspect := fun l _ h => by rw [idle l] at h; cases h }

/-- A port that is not latched takes a request under tag 0 and under tag 7. -/
theorem witness_TagChangesOnlyTheReply :
    (Instr.legOn 0 0 3125).request? = some (0, .legOn 0 3125) ∧ (Instr.legOn 7 0 3125).request? = some (7, .legOn 0 3125) ∧
      lit.blocks.time.part = .ready ∧ lit.port.latch = false ∧ lit.port.outbound.length < 32 := by decide

theorem witness_LockAndPulseEdgesAreTaken :
    State.reset.blocks.time.part = .locking ∧ lit.blocks.time.part = .ready ∧ lit.blocks.time.ring.length < 4 ∧
      (lit.withBlocks
        { lit.blocks with
          time := { lit.blocks.time with ring := List.replicate 4 ⟨⟨0, 0⟩, 0⟩ } }).blocks.time.ring.length = 4 ∧
      lit.takes 1 = true ∧ lit.blocks.restartRoom = true := by decide +kernel

theorem lit_time_ok (k : Nat) (h : k ≤ 4095) : (litAtRound k).blocks.time.Ok :=
  ⟨Nat.zero_le _, h, Nat.zero_le _, Nat.zero_le _, Nat.zero_le _⟩

theorem witness_BoundariesAdvanceCountersAndBlocks :
    (litAtRound 4095).blocks.time.part = .ready ∧ (litAtRound 4095).blocks.time.Ok ∧
      (litAtRound 63).blocks.time.round % 64 = 63 ∧ (litAtRound 4095).blocks.time.round = 4095 ∧
      (litAtRound 62).blocks.time.Ok ∧ (litAtRound 62).blocks.time.round % 64 ≠ 63 ∧
      ([(⟨2, ⟨0, 64⟩⟩ : BandEntry)].filter fun e => e.boundary.le (litAtRound 63).boundary).getLast? = some ⟨2, ⟨0, 64⟩⟩ :=
  ⟨by decide, lit_time_ok 4095 (by decide), by decide, by decide, lit_time_ok 62 (by decide), by decide, by decide⟩

theorem witness_LegStateCommandsChangeTheLeg :
    lit.blocks.time.part = .ready ∧
      ((litLeg .preparing).leg 0).control.state = .preparing ∧ ((litLeg .preparing).leg 0).control.roundsLeft = 0 ∧
      ((litLeg .fault).leg 0).control.state = .fault ∧ ((litLeg .fault).leg 0).control.faultSeen = false ∧
      ((litLeg .fault).leg 0).control.laserFault = false ∧
      ((litLeg .retiming).leg 0).control.state = .retiming ∧ ((litLeg .retiming).leg 0).control.roundsLeft = 0 ∧
      (((litLeg .retiming).monitor fun m => { m with state := .suspect }).leg 0).monitor.state = .suspect ∧
      ((litLeg .draining).leg 0).control.state = .draining ∧
      ∀ d : Drop, ((litLeg .draining).drop 0 d).state = .vacant := by decide +kernel

theorem witness_FaultsTakeLegsOutOfService :
    let hushed := entryIn .hushed
    ((withDrop .serving).leg 0).control.state.live = true ∧ ((withDrop .serving).drop 0 5).state = .serving ∧
      ((withDrop .ranging).drop 0 5).state = .ranging ∧
      (((litLeg .on).putDrop 5 { entryIn .found with origin := some (.reused 3000 .power) }).drop 0 5).origin =
        some (.reused 3000 .power) ∧
      (((withDrop .found).enrolFirst (enrolled 0 (some (0, 5)))).drop 0 5).enrolRef = some 0 ∧
      ((withDrop .found).enrolFirst (enrolled 0 (some (0, 5)))).blocks.enrol[(0 : Fin 512)] = some (enrolled 0 (some (0, 5))) ∧
      (((litLeg .on).putDrop 5 { hushed with resume := some ⟨.lost, some 1, none, false, false⟩ }).drop 0 5).resume =
        some ⟨.lost, some 1, none, false, false⟩ ∧
      (((litLeg .on).putDrop 5 { hushed with origin := some .released, resume := some ⟨.found, none, none, false, false⟩ }).drop 0 5).resume =
        some ⟨.found, none, none, false, false⟩ ∧
      (litLeg .on).blocks.time.part = .ready ∧ ((litLeg .on).leg 1).control.state = .off ∧
      ((litLeg .draining).leg 0).control.state ≠ .off ∧ ((litLeg .draining).leg 0).control.state ≠ .fault := by decide +kernel

theorem witness_LegOnStartsPreparing :
    toLeg? 0 = some 0 ∧ lit.takes 1 = true ∧ 625 ≤ (625 : BitVec 16).toNat ∧ (6250 : BitVec 16).toNat ≤ 6250 ∧
      (lit.leg 0).control.state = .off ∧ (lit.leg 0).control.laserFault = false ∧
      ((lit.control fun c => { c with laserFault := true }).leg 0).control.laserFault = true ∧
      3 < (4 : Byte).toNat ∧ (624 : BitVec 16).toNat < 625 ∧ 6250 < (6251 : BitVec 16).toNat ∧
      (litLeg .on).takes 1 = true ∧ ((litLeg .on).leg 0).control.state ≠ .off := by decide

theorem witness_LegOffStartsDraining :
    toLeg? 0 = some 0 ∧ (litLeg .on).takes 1 = true ∧ ((litLeg .on).leg 0).control.state ≠ .off ∧
      ((litLeg .on).leg 0).control.state ≠ .draining ∧ ((litLeg .draining).leg 0).control.state = .draining := by decide

theorem witness_LegSettingRequestsStoreTheirValues :
    toLeg? 3 = some 3 ∧ lit.takes 255 = true ∧ (⟨4097, 1, 2, 2000, 0, 0⟩ : WireLegSet).trimLow.toNat < 2 ∧ lit.blocks.time.Ok ∧
      (⟨0, 7, 7, 0, 0, 0⟩ : WireLegSet).trimHigh.toNat ≤ 7 ∧ 3 < (4 : Byte).toNat :=
  ⟨by decide, by decide, by decide, lit_time_ok 0 (by decide), by decide, by decide⟩

theorem witness_SetReachStartsRetiming :
    (withDrop .serving).takes 1 = true ∧ ((withDrop .serving).leg 0).control.state = .on ∧
      ((withDrop .serving).leg 0).monitor.state.searching = false ∧
      (6000 : BitVec 16).toNat ≠ ((withDrop .serving).leg 0).control.settings.reach ∧
      fixedLimitsHold ((withDrop .serving).leg 0).lanes 6000 = true ∧ ((withDrop .serving).leg 0).orders.length < 48 ∧
      ((withDrop .serving).drop 0 5).state.heard = true ∧ ((withDrop .serving).drop 0 5).rtt = some 100 ∧
      (((litLeg .on).putDrop 5 { entryIn .serving with rtt := some 48001 }).drop 0 5).rtt = some 48001 := by decide +kernel

/-- A port that is latched, and the part before lock. -/
theorem witness_RefusalsChangeNothing :
    (runRequest .bandRead lit.port (Work.start lit.blocks)).status = .ok ∧
      (runRequest (.legOn 4 0) lit.port (Work.start lit.blocks)).status ≠ .ok ∧
      { lit with port := { lit.port with latch := true } }.port.latch = true ∧ lit.port.outbound.length < 32 ∧
      State.reset.port.latch = false ∧ State.reset.blocks.time.part = .locking := by decide

theorem witness_ReadingRequestsChangeNothing :
    (lit.enrolFirst (enrolled 0 none)).takes 1 = true ∧ toDrop? 127 = some 127 ∧
      (lit.enrolFirst (enrolled 0 none)).blocks.enrolled 9 = some (0, enrolled 0 none) ∧
      (((withDrop .serving).putLane lane5).leg 0).lanes[(0 : Byte).toFin] = some lane5 ∧
      ((withDrop .serving).putMeter (meterWith 5)).meter 0 5 = some (meterWith 5) ∧
      ((lit.mapLeg 0 fun r => { r with keptMap := some (mapFor none none) }).leg 0).keptMap = some (mapFor none none) ∧
      (lit.leg 0).keptMap = none := by decide +kernel

/-- A port that is latched, has lost a notice, and holds a reply and a notice. -/
theorem witness_ClearingRequestsClearWhatTheyRead :
    let s := after .pulseCapture (after (.identify 1) lit)
    let p := { s.port with latch := true, noticesLost := true }
    toLeg? 0 = some 0 ∧ s.takes 1 = true ∧ p.noticesLost = true ∧ (p.outbound.filter fun x => !x.isNotice).length = 1 ∧
      (p.outbound.filter fun x => x.isNotice).length = 1 ∧ (1 : Byte) ≠ 0 := by decide +kernel

theorem witness_PortSetReplacesModeAndMask :
    lit.takes 1 = true ∧ (1 : Byte).toNat ≤ 1 ∧ 1 < (2 : Byte).toNat ∧ lit.port.outbound.length < 32 ∧
      { lit with port := { lit.port with latch := true } }.port.latch = true ∧ lit.blocks.restartRoom = true := by decide +kernel

theorem witness_RestartEmptiesThePart :
    ((withDrop .serving).putMeter (meterWith 5)).takes 1 = true ∧
      ((withDrop .serving).putMeter (meterWith 5)).blocks.restartRoom = true ∧
      (((withDrop .serving).putMeter (meterWith 5)).putJournal
        { Journal.reset with nextSeq := 4294967296 }).blocks.restartRoom = false := by decide +kernel

theorem witness_TransactionsFeedAndDrainThePort :
    let taken := (after .readOpcode (after (.identify 1) lit)).port
    (List.replicate 1020 (0 : Byte)).length ≤ 1020 ∧ lit.port.inbound.length < 4 ∧
      4 ≤ { lit with port := { lit.port with inbound := List.replicate 4 ⟨1, 1, [], false⟩ } }.port.inbound.length ∧
      judgeRecord [0x00] = .inl .short ∧ (0xC3 : Byte) ≠ 0xC1 ∧ (0xC3 : Byte) ≠ 0xC2 ∧
      taken.outbound.map OutRecord.inTransfer = [true] ∧ lit.port.outbound = [] := by decide +kernel

/-- R192: 0x00 during the opcode byte, then the record from its length on, which for a reply without a body is 3, kind, tag and status. -/
theorem test_sdo_carries_the_record :
    let taken := (after .readOpcode (after (.legOn 7 0 3125) lit)).port
    (List.range 6).map (taken.sdo 0xC2) = [0x00, 0x00, 0x03, 0x90, 0x07, 0x00] ∧ taken.sdo 0xC2 8 = 0 ∧ taken.sdo 0xC1 2 = 0 := by
  decide +kernel

theorem witness_NoticeIsPlacedOnce :
    (⟨.notice ⟨none, none, ⟨0, 0⟩, .ready true⟩, false⟩ : OutRecord).updatedBy ⟨none, none, ⟨0, 1⟩, .ready false⟩ = true ∧
      (⟨.notice ⟨none, none, ⟨0, 0⟩, .ready true⟩, true⟩ : OutRecord).updatedBy ⟨none, none, ⟨0, 1⟩, .ready false⟩ = false ∧
      (∀ n ∈ [27, 28], ∀ x ∈ List.replicate n (⟨.notice ⟨none, none, ⟨0, 0⟩, .ready true⟩, false⟩ : OutRecord),
        x.updatedBy ⟨none, none, ⟨0, 1⟩, .bandChanged 0 1⟩ = false) ∧
      (∀ n ∈ [27, 28], noticeCount (List.replicate n ⟨.notice ⟨none, none, ⟨0, 0⟩, .ready true⟩, false⟩) = n) ∧
      noticeCount (List.replicate 32 ⟨.reply ⟨0x81, 1, .ok, .none⟩, false⟩) = 0 := by decide +kernel

theorem witness_DownstreamFramesQueueAndFillRounds :
    let w := (Work.start ((withDrop .serving).putMeter { meterWith 5 with overQuota := true }).blocks).mapLeg 0 fun r =>
      { r with allowance := r.allowance.set 5 0 }
    tagLeg 0x02802002#32 = 0 ∧ tagDown 0x02802002#32 = true ∧ tagLength 0x02802002#32 = [1, 2].length ∧
      ((litLeg .on).leg 0).control.state.live = true ∧ (lit.leg 0).control.state.live = false ∧
      (w.drop 0 5).state = .serving ∧ w.meter 0 5 = some { meterWith 5 with overQuota := true } ∧
      (w.leg 0).allowance[(5 : Drop)] < [1].length ∧ ¬((w.leg 0).allowance[(5 : Drop)] < ([] : List Byte).length) ∧
      (w.drop 0 6).state = .vacant := by decide

/-- Three orders of a good queue: an UNHUSH_ALL, a WAKE awaiting its echo, and a NORMAL order to another drop. -/
def threeOrders : State :=
  (withDrop .serving).putOrders
    [OrderEntry.queued .unhushAll none, awaitingOrder .wake 1 4, OrderEntry.queued (.sleep 16) (some 6)]

/-- The oldest echoed order to each drop is the one that may await its echo, checked place by place. -/
theorem oldest_of_places {q : List OrderEntry}
    (h : ∀ j i : Fin q.length, i < j → q[j].awaiting = true → q[i].order.kind.echoed = true → q[i].target ≠ q[j].target)
    (i j : Nat) (e x : OrderEntry) (hi : q[i]? = some e) (hj : q[j]? = some x) (hx : x.awaiting = true) (hij : i < j)
    (he : e.order.kind.echoed = true) : e.target ≠ x.target := by
  obtain ⟨li, rfl⟩ := List.getElem?_eq_some_iff.mp hi
  obtain ⟨lj, rfl⟩ := List.getElem?_eq_some_iff.mp hj
  exact h ⟨j, lj⟩ ⟨i, li⟩ hij hx he

theorem witness_OrdersAreChosenAndSent :
    (((Work.start threeOrders.blocks).leg 0).OrdersOk) ∧
      selectOrders true (fun d => (threeOrders.drop 0 d).state == .hushed) (threeOrders.leg 0).orders = [0, 1, 2] :=
  ⟨{ all := by decide, plain := by decide, urgent := by decide, echoed := by decide, single := by decide +kernel
     oldest := oldest_of_places (by decide +kernel) }, by decide +kernel⟩

/-- R46: a NORMAL order to drop 5 waits for the older LOW one, while one to drop 6 goes out first by R45. -/
theorem test_echoed_orders_keep_their_order :
    selectOrders true (fun _ => false)
      [OrderEntry.queued (.stepPower 1) (some 5), OrderEntry.queued (.sleep 16) (some 5), OrderEntry.queued .wake (some 6)] =
      [2, 0] := by decide +kernel

set_option maxRecDepth 100000 in
/-- A boundary builds the map of leg 0 in ON, with the keepalive or the lane's burst of drop 5, and begins its round. -/
theorem witness_FullMapFollowsItsStages_and_RoundIsAssembled :
    let s := (withDrop .serving).putLane lane5
    let t := after .roundBoundary s
    s.blocks.time.part = .ready ∧ (t.leg 0).control.state = .on ∧ (t.leg 1).control.state.live = false ∧
      (t.leg 0).keptMap.map (fun m => m.bursts.map Burst.drop) = some [5] := by decide +kernel

theorem witness_GrantStagesShareTheRoom :
    let s := (withDrop .serving).putLane lane5
    let fixed := (withDrop .serving).putLane { lane5 with figures := .fixed 9, credit := none }
    let surplus := (withDrop .serving).putLane { lane5 with figures := .surplus 1 20, credit := none }
    (s.leg 0).eligible 5 = true ∧ (s.leg 0).lanes[(0 : Fin 256)] = some lane5 ∧ lane5.state = .active ∧ lane5.credit = some 150 ∧
      (s.leg 0).eligible 6 = false ∧ ((withDrop .trimming).leg 0).wantsKeepalive 0 5 = true ∧
      (fixed.leg 0).lanes[(0 : Fin 256)].map Lane.figures = some (.fixed 9) ∧
      (surplus.leg 0).lanes[(0 : Fin 256)].map Lane.figures = some (.surplus 1 20) ∧
      (buildGrants (s.leg 0) (fun _ => false) 0 8000).beats 0 = 2 := by decide +kernel

theorem witness_LostHoldExpires :
    let s := ((litLeg .on).putDrop 5 { entryIn .lost with hold := some 1 }).putMeter (meterWith 3)
    s.blocks.time.part = .ready ∧ (s.drop 0 5).state = .lost ∧ (s.drop 0 5).hold = some 1 ∧
      (s.leg 0).monitor.state.searching = false ∧ (meterWith 3).usage = true ∧ (meterWith 0).usage = false ∧
      { Journal.reset with nextSeq := 4294967296 }.room = false := by decide +kernel

theorem witness_BoundaryChecksFallDue :
    let s := (litLeg .on).putDrop 5 { entryIn .dormant with wakeCount := some 1 }
    (s.leg 0).control.state = .on ∧ (s.leg 0).control.settings.discovery ≠ 0 ∧ (s.drop 0 0).state = .vacant ∧
      (s.leg 0).schedule.neverPlaced = true ∧ (s.drop 0 5).state = .dormant ∧ (s.drop 0 5).wakeCount = some 1 ∧
      (⟨0, 0⟩ : Stamp).roundsTo ⟨1, 1⟩ > MonitorSettings.reset.confirmWindow := by decide +kernel

theorem witness_OrdersAreRetriedResentOrFail :
    let e := awaitingOrder (.stepPower 2) 3 3
    let s := (withDrop .serving).putOrders [OrderEntry.queued .wake (some 5), e]
    let u := (withDrop .found).mapLeg 0 fun r =>
      { r with owed := [⟨5, .setDelay⟩], monitor := { r.monitor with asks := [.mute 7] } }
    (s.leg 0).control.state = .on ∧ (s.drop 0 5).state = .serving ∧ (s.leg 0).orders = [OrderEntry.queued .wake (some 5)] ++ e :: [] ∧
      e.target = some 5 ∧ e.awaiting = true ∧ e.lastSent ≠ some s.boundary.round ∧ 3 ≤ e.waited ∧ 3 ≤ e.sends ∧
      (OrderEntry.queued .wake (some 5)).awaiting = false ∧ (awaitingOrder (.stepPower 2) 2 3).sends < 3 ∧
      u.blocks.time.part = .ready ∧ plainCount (u.leg 0).orders < 40 ∧ (u.leg 0).orders.length < 47 ∧
      (u.leg 0).monitor.asks = [.mute 7] ∧ (u.leg 0).owed = [⟨5, .setDelay⟩] := by decide +kernel

theorem witness_WindowOutcomesAndMissesAreCounted :
    let s := (withDrop .serving).receive (mapFor none none)
    (s.leg 0).inFlight = ⟨mapFor none none, 6250, 0, 0, 0, false, false⟩ :: [] ∧
      (mapFor none none).bursts[0]? = some ⟨5, 0, 16, []⟩ ∧ classify ⟨5, 0, 16, []⟩ ⟨false, none⟩ = .silent ∧
      classify ⟨5, 0, 16, []⟩ ⟨true, none⟩ = .garbled ∧ classify ⟨5, 0, 16, []⟩ ⟨true, some (plainBurst 6 80 [])⟩ = .misfit ∧
      (s.drop 0 5).state.heard = true ∧ (s.drop 0 5).missed < 7 := by decide +kernel

theorem witness_CleanWindowDelivers :
    classify ⟨5, 0, 16, []⟩ ⟨true, some (plainBurst 5 96 [])⟩ = .clean ∧ (plainBurst 5 96 []).header.echo = none ∧
      (plainBurst 5 96 []).header.dyingGasp = false ∧
      ((plainBurst 5 96 []).preamble.map BitVec.toNat).sum / (plainBurst 5 96 []).preamble.length = 128 ∧
      ((withDrop .serving).leg 0).control.settings.trimLow ≤ 128 ∧ 128 ≤ ((withDrop .serving).leg 0).control.settings.trimHigh := by
  decide

/-- R110 to R112: one frame of three bytes on the drop's own lane goes to the uplink. -/
theorem test_frame_goes_to_the_uplink :
    let m := { emptyMap 0 ⟨0, 0⟩ with empty := false, bursts := [⟨5, 0, 18, [⟨1, 0, 2⟩]⟩] }
    let s := ((withDrop .serving).putLane lane5).receive m
    ((after (.grantedWindowEnd 0 ⟨true, some (plainBurst 5 80 [0, 3, 7, 8, 9, 0, 0, 0])⟩) s).leg 0).uplink.map UplinkFrame.data =
      [[7, 8, 9]] := by decide +kernel

theorem witness_EchoesCompleteOrders :
    let f := keepalive5 128 (some 3) false false
    let e := awaitingOrder (.stepPower 2) 1 0
    let s := clean5 .serving [e]
    (s.leg 0).orders = [] ++ e :: [] ∧ e.target = some 5 ∧ e.awaiting = true ∧ e.seq = some 3 ∧ f.header.echo = some 3 ∧
      classify ⟨5, 0, 16, []⟩ ⟨true, some f⟩ = .clean ∧ (mapFor none none).bursts[0]? = some ⟨5, 0, 16, []⟩ ∧
      (s.leg 0).control.settings.trimLow ≤ (f.preamble.map BitVec.toNat).sum / f.preamble.length ∧
      (f.preamble.map BitVec.toNat).sum / f.preamble.length ≤ (s.leg 0).control.settings.trimHigh ∧
      (s.drop 0 5).state = .serving ∧ (s.drop 0 5).sleepCancelled = false ∧
      ((clean5 .dormant [awaitingOrder .wake 1 0]).drop 0 5).state = .dormant ∧
      ((clean5 .found [awaitingOrder (.setDelay none) 1 0]).drop 0 5).state = .found ∧
      appliedStep (s.leg 0).control.settings.trimLow (s.leg 0).control.settings.trimHigh 200 (s.drop 0 5).power = -8 := by
  decide +kernel

theorem witness_CleanBurstsJudgeTheUnit :
    let s := (clean5 .trimming []).enrolFirst { enrolled 0 (some (0, 5)) with templates := [.assured 100 200] }
    let old := ((clean5 .trimming []).putDrop 5 { entryIn .trimming with origin := some .released }).putMeter (meterWith 3)
    classify ⟨5, 0, 16, []⟩ ⟨true, some (keepalive5 200 none true true)⟩ = .clean ∧
      ((clean5 .serving []).drop 0 5).state.heard = true ∧ ((clean5 .dormant []).drop 0 5).state = .dormant ∧
      (s.drop 0 5).state = .trimming ∧ (s.leg 0).orders = [] ∧ (s.leg 0).owed = [] ∧ (s.drop 0 5).trimCount < 6 ∧
      (s.putDrop 5 { entryIn .trimming with origin := some .new }).blocks.enrol[(0 : Fin 512)] =
        some { enrolled 0 (some (0, 5)) with templates := [.assured 100 200] } ∧
      templatesFit (s.leg 0) 5 [.assured 100 200] = true ∧
      templatesFit (s.leg 0) 5 [.fixed 1700] = false ∧
      appliedStep 96 160 200 0 = 0 ∧ old.meter 0 5 = some (meterWith 3) ∧ (old.drop 0 5).origin ≠ some .new := by
  decide +kernel

theorem witness_MissAndDriftLimitsAct :
    let s := (litLeg .on).putDrop 5 { entryIn .serving with missed := 7, outOfBand := 15 }
    (s.drop 0 5).state.heard = true ∧ 7 ≤ (s.drop 0 5).missed ∧ (s.drop 0 5).state = .serving ∧ 15 ≤ (s.drop 0 5).outOfBand ∧
      ¬((s.leg 0).control.settings.trimLow ≤ (161 : Byte).toNat ∧ (161 : Byte).toNat ≤ (s.leg 0).control.settings.trimHigh) ∧
      (s.leg 0).orders = [] ∧ (s.leg 0).owed = [] ∧ appliedStep 96 160 161 16 ≠ 0 ∧ appliedStep 96 160 161 0 = 0 ∧
      plainRoom (s.leg 0).orders = true := by decide +kernel

theorem witness_TrimStepMovesTowardTheBand : (96 : Nat) < 160 ∧ (31 : Nat) ≤ 31 ∧ ¬((96 : Nat) ≤ 95 ∧ (95 : Nat) ≤ 160) := by decide

/-- An announce of serial 9 whose delimiter lies in beat 2,000. -/
def announce9 : FoundAnnounce := ⟨16000, 9, 40, 1, true⟩

/-- Nothing is enrolled on `lit`. -/
theorem lit_enrols_none (i : Fin 512) : lit.blocks.enrol[i] = none := by simp [lit, Blocks.reset]

theorem nothing_enrolled (b : Blocks) (h : ∀ i : Fin 512, b.enrol[i] = none) (p : EnrolEntry → Bool) : b.enrolWhere p = none :=
  List.find?_eq_none.mpr fun i _ => by simp only [h i, Bool.false_eq_true, not_false_eq_true]

/-- The serial of an announce that no entry holds. -/
theorem witness_AnnounceIsMatched_of_a_stranger :
    (((litLeg .on).receive (mapFor (some ⟨.discovery, 6330⟩) none)).blocks.enrolWhere fun e => e.serial == announce9.serial) = none :=
  nothing_enrolled _ (fun i => lit_enrols_none i) _

theorem witness_AnnounceIsMatched :
    let s := (litLeg .on).receive (mapFor (some ⟨.discovery, 6330⟩) none)
    (mapFor (some ⟨.discovery, 6330⟩) none).window = some ⟨.discovery, 6330⟩ ∧ announceDecoded announce9 (8000 - 6330) = true ∧
      (s.leg 0).strangers = [] ∧
      ((s.enrolFirst (enrolled 0 none)).blocks.enrolWhere fun e => e.serial == announce9.serial) = some 0 ∧
      (enrolled 0 none).binding = none ∧ (enrolled 0 none).allowed = none ∧ (s.drop 0 0).state = .vacant ∧
      (s.enrolFirst (enrolled 0 (some (0, 5)))).blocks.enrol[(0 : Fin 512)] = some (enrolled 0 (some (0, 5))) ∧
      (s.putDrop 5 { entryIn .lost with hold := some 9, reason := some (.lost .power) }).drop 0 5 =
        { entryIn .lost with hold := some 9, reason := some (.lost .power) } ∧
      ((s.putDrop 5 (entryIn .retiring)).drop 0 5).state = .retiring ∧ ((s.putDrop 5 (entryIn .serving)).drop 0 5).state = .serving := by
  decide +kernel

theorem witness_RangingWindowMeasures :
    let s := ((litLeg .on).putDrop 5 { entryIn .ranging with origin := some .new, rangingAttempts := 2 }).receive
      (mapFor (some ⟨.ranging, 6282⟩) (some ⟨9, 5, false, 7968⟩))
    (s.drop 0 5).state = .ranging ∧ (s.leg 0).monitor.state.searching = false ∧ (s.drop 0 5).rangingAttempts = 2 ∧
      (s.drop 0 5).origin = some .new ∧ rangingReply (8000 - 6282) 5 [plainBurst 5 13848 []] = some (24, 128) ∧
      rangingReply (8000 - 6282) 5 [] = none ∧ plainRoom (s.leg 0).orders = true ∧
      (rangingReply (8000 - 6282) 5 [plainBurst 5 63900 []]).map Prod.fst = some 50076 ∧
      8 * (s.leg 0).control.settings.reach < (50076 : Int).toNat ∧
      ((s.putDrop 5 { entryIn .ranging with origin := some (.reused 9 .power), rangingAttempts := 2 }).drop 0 5).origin =
        some (.reused 9 .power) ∧
      ((s.putDrop 5 { entryIn .ranging with origin := some .released, rangingAttempts := 1 }).drop 0 5).rangingAttempts < 2 := by
  decide +kernel

/-- Leg 0 in ON with its monitor in the state given, within the span given. -/
def armed (st : MonitorState) (sp : Span) : State :=
  (litLeg .on).monitor fun m => { m with state := st, span := some sp, reference := some 10 }

theorem witness_RoundReportFeedsTheSpan :
    let sp := Span.fresh false ⟨0, 0⟩
    (((armed .watching sp).receive (mapFor none none)).leg 0).monitor.span = some sp ∧
      sp.countFrom.notAfter (mapFor none none).round = true ∧ sp.position + 1 < MonitorSettings.reset.watchSpan ∧
      (((litLeg .on).receive (mapFor none none)).leg 0).monitor.state = .disarmed := by decide +kernel

/-- A report of round 9 with one dark sample of 21. -/
def report9 : RoundReport := ⟨⟨0, 9⟩, 0, none, [], [(.idle, 21)], 0, 0⟩

theorem witness_SpanEndIsEvaluated :
    let sp := { Span.fresh false ⟨0, 0⟩ with position := 31, counts := ⟨4, 0, 0, 0⟩ }
    let m := ((armed .watching sp).leg 0).monitor
    m.state = .watching ∧ m.span = some sp ∧ sp.countFrom.notAfter report9.round = true ∧ m.settings.watchSpan ≤ sp.position + 1 ∧
      sp.sampleCount + report9.samples.length ≠ 0 ∧ suspicious m.settings (sp.count m report9).counts = true ∧
      suspicious m.settings ({ sp with counts := Signatures.zero }.count m report9).counts = false ∧
      { sp with learning := true }.learning = true ∧
      ((armed .suspect sp).monitor fun m => { m with suspicion := some ⟨0, 9⟩ }).blocks.legs[0].monitor.suspicion = some ⟨0, 9⟩ ∧
      (⟨0, 9⟩ : Stamp).roundsTo report9.round < m.settings.confirmGap ∧
      m.settings.confirmWindow < (⟨0, 9⟩ : Stamp).roundsTo ⟨2, 0⟩ := by decide +kernel

/-- Leg 0 in ON with its monitor in a search among drop 5 alone, before the last reading of the step given. -/
def searching (st : MonitorState) (step : ProbeStep) : State :=
  (withDrop .serving).monitor fun m =>
    { m with
      state := st, step := some step
      candidates := if st = .hunting then some [5] else none, suspectDrop := if st = .hunting then none else some 5 }

/-- A step of 16 observation rounds from round 3 of cycle 0, of which 15 are read, with so many lit ones. -/
def stepRead (kind : StepKind) (lit : Nat) : ProbeStep := ⟨kind, 4, [], 18, 15, lit, 0, some ⟨0, 3⟩⟩

/-- A report of round 18, dark. -/
def report18 : RoundReport := ⟨⟨0, 18⟩, 0, some 0, [], [], 0, 0⟩

theorem witness_SuspicionIsConfirmedAndNarrowed :
    let sp := { Span.fresh false ⟨0, 0⟩ with position := 31, counts := ⟨4, 0, 2, 0⟩, tailDrop := some 5 }
    let m := (((armed .suspect sp).monitor fun m => { m with suspicion := some ⟨0, 9⟩ }).leg 0).monitor
    let r : RoundReport := ⟨⟨0, 265⟩, 0, none, [], [(.idle, 9)], 0, 0⟩
    m.state = .suspect ∧ m.span = some sp ∧ m.suspicion = some ⟨0, 9⟩ ∧ sp.countFrom.notAfter r.round = true ∧
      m.settings.watchSpan ≤ sp.position + 1 ∧ sp.learning = false ∧ suspicious m.settings (sp.count m r).counts = true ∧
      m.settings.confirmGap ≤ (⟨0, 9⟩ : Stamp).roundsTo r.round ∧ (⟨0, 9⟩ : Stamp).roundsTo r.round ≤ m.settings.confirmWindow ∧
      (sp.count m r).tailDrop = some 5 ∧ (sp.count m r).mixed = false ∧ m.settings.thresholds.tail ≤ (sp.count m r).counts.tail ∧
      ({ sp with tailDrop := none }.count m r).tailDrop = none ∧
      ((searching .hunting (stepRead .control 15)).leg 0).monitor.lastObserves report18.round = true ∧
      ((stepRead .control 15).observe m report18).readsLit ((searching .hunting (stepRead .control 15)).leg 0).monitor = true ∧
      ((stepRead .verify 0).observe m report18).readsLit ((searching .hunting (stepRead .verify 0)).leg 0).monitor = false ∧
      ((searching .verifying (stepRead .control 15)).leg 0).monitor.suspectDrop = some 5 ∧
      ((withDrop .serving).leg 0).orders.length < 48 := by decide +kernel

theorem witness_HuntsEndInTheirVerdict :
    let hunt := fun k n => ((searching .hunting (stepRead k n)).leg 0).monitor
    let check := fun k n => ((searching .verifying (stepRead k n)).leg 0).monitor
    let lit := fun (m : Monitor) (st : ProbeStep) => (st.observe m report18).readsLit m
    (hunt .control 0).step = some (stepRead .control 0) ∧ (hunt .control 0).lastObserves report18.round = true ∧
      ((searching .hunting (stepRead .control 0)).leg 0).orders.length < 48 ∧
      lit (hunt .control 0) (stepRead .control 0) = false ∧ lit (hunt .finalControl 0) (stepRead .finalControl 0) = false ∧
      lit (hunt .fullHush 15) (stepRead .fullHush 15) = true ∧ lit (hunt .verify 15) (stepRead .verify 15) = true ∧
      lit (check .control 0) (stepRead .control 0) = false ∧ lit (check .verify 0) (stepRead .verify 0) = false ∧
      lit (hunt .finalControl 15) (stepRead .finalControl 15) = true ∧ (hunt .finalControl 15).candidates = some [5] ∧
      (check .verify 0).suspectDrop = some 5 ∧ ((searching .hunting (stepRead .control 0)).leg 0).control.state ≠ .retiming := by
  decide +kernel

theorem witness_MonitorRequestsActOnTheMonitor :
    ((litLeg .on).leg 0).monitor.state = .disarmed ∧ ((litLeg .on).leg 0).control.state = .on ∧ (litLeg .on).takes 1 = true ∧
      (lit.leg 0).control.state ≠ .on ∧ ((armed .watching (Span.fresh true ⟨0, 0⟩)).leg 0).monitor.state = .watching ∧
      min (4095 : BitVec 16).toNat 4095 ≤ max 1 (4095 : BitVec 16).toNat ∧ MonitorState.hunting.searching = true ∧
      max 1 (0 : BitVec 16).toNat < min (2 : BitVec 16).toNat 4095 ∧
      ((searching .hunting (stepRead .control 0)).leg 0).monitor.state = .hunting ∧
      (((litLeg .retiming).monitor fun m => { m with state := .suspect }).leg 0).control.state = .retiming ∧
      (((litLeg .on).monitor fun m => { m with state := .holdoff }).leg 0).monitor.state = .holdoff := by
  decide +kernel

theorem witness_EnrolmentListRequests :
    readEnrol ⟨9, 0xFF, 77, 0, 3, []⟩ = some (enrolled 3 none) ∧ lit.takes 1 = true ∧
      (∀ j : Fin 512, lit.blocks.enrol[j] = none) ∧ (3 : Byte).toNat ≤ 3 ∧ ¬(4 : Byte).toNat ≤ 3 ∧ (4 : Byte) ≠ 0xFF ∧
      (lit.enrolFirst (enrolled 0 none)).blocks.enrol[(0 : Fin 512)] = some (enrolled 0 none) ∧
      (∀ j : Fin 512, (lit.withBlocks { lit.blocks with enrol := Vector.replicate 512 (some (enrolled 0 none)) }).blocks.enrol[j] ≠ none) ∧
      (lit.enrolFirst (enrolled 0 none)).blocks.enrolled 9 = some (0, enrolled 0 none) ∧
      (lit.enrolFirst (enrolled 0 (some (0, 5)))).blocks.enrolled 9 = some (0, enrolled 0 (some (0, 5))) :=
  ⟨by decide, by decide, lit_enrols_none, by decide, by decide, by decide, by decide +kernel, fun j => by simp [State.withBlocks],
    by decide +kernel, by decide +kernel⟩

theorem witness_AdmitAndReleaseChangeTheDrop :
    let s := ((withDrop .awaiting).enrolFirst (enrolled 0 (some (0, 5)))).putLane { lane5 with state := .suspended }
    s.takes 1 = true ∧ (s.drop 0 5).state = .awaiting ∧ s.meter 0 5 = none ∧ (s.drop 0 5).enrolRef = some 0 ∧
      (s.leg 0).lanes[(0 : Fin 256)].map Lane.state = some .suspended ∧ toDrop? 5 = some 5 ∧
      ((withDrop .quarantined).drop 0 5).state = .quarantined ∧ ((withDrop .serving).drop 0 5).state ≠ .quarantined := by
  decide +kernel

theorem witness_DismissRetiresTheDrop :
    let s := (withDrop .serving).putMeter (meterWith 5)
    (s.drop 0 5).state = .serving ∧ (s.leg 0).monitor.state.searching = false ∧ plainRoom (s.leg 0).orders = true ∧
      s.meter 0 5 = some (meterWith 5) ∧ (meterWith 5).usage = true ∧ s.blocks.journal.room = true ∧
      40 ≤ plainCount (List.replicate 40 (OrderEntry.queued .wake (some 5))) ∧ ((withDrop .lost).drop 0 5).state = .lost ∧
      { meterWith 5 with pending := some (.host, ⟨0, 0⟩) }.pending = some (.host, ⟨0, 0⟩) := by decide +kernel

theorem witness_LaneRequestsChangeTheirLane :
    let s := (withDrop .serving).putLane lane5
    s.takes 1 = true ∧ (s.leg 0).orders = [] ∧ toPort? 3 = some 3 ∧ (s.drop 0 5).state = .serving ∧
      (s.leg 0).lanes[(0 : Fin 256)] = some lane5 ∧ (s.leg 0).lanes[(1 : Fin 256)] = none ∧
      (∀ k : Fin 256, k < 1 → (s.leg 0).lanes[k] ≠ none) ∧ lane5.port ≠ 3 ∧ 1 ≤ (2000 : BitVec 16).toNat ∧
      (2000 : BitVec 16).toNat ≤ 2000 ∧ (s.leg 0).lanes[(0 : Byte).toFin] = some lane5 ∧ lane5.figures = .assured 100 200 ∧
      toPort? 1 = some lane5.port ∧ (s.leg 0).lanes[(255 : Byte).toFin] = none ∧
      (((withDrop .serving).putLane { lane5 with figures := .fixed 9, credit := none }).leg 0).lanes[(0 : Byte).toFin] =
        some { lane5 with figures := .fixed 9, credit := none } := by decide +kernel

theorem witness_SleepAndWakeQueueOrders :
    let s := withDrop .serving
    s.takes 1 = true ∧ (s.drop 0 5).state = .serving ∧ (s.drop 0 5).cleanSinceWake = true ∧
      (s.drop 0 5).sleepCancelled = false ∧ (s.leg 0).orders = [] ∧ plainRoom (s.leg 0).orders = true ∧
      ((withDrop .dormant).drop 0 5).state = .dormant ∧ hasOrder ((withDrop .dormant).leg 0).orders 5 .wake = false ∧
      hasOrder [OrderEntry.queued .wake (some 5)] 5 .wake = true ∧ ((withDrop .lost).drop 0 5).state ≠ .dormant := by decide +kernel

theorem witness_BandPeriodAndQuotaRequests :
    let s := ((withDrop .serving).putMeter (meterWith 5)).enrolFirst (enrolled 0 (some (0, 5)))
    lit.takes 1 = true ∧ toLeg? 3 = some 3 ∧ (1 : Byte) ≠ 0 ∧ lit.blocks.bandPlan = [] ∧
      (∃ l : Leg, (8 : Byte).getLsbD l.val = true) ∧ (∀ l : Leg, (0xF0 : Byte).getLsbD l.val = false) ∧
      s.takes 1 = true ∧ (s.blocks.enrolWhere fun e => e.account == (77 : BitVec 32).toNat) = some 0 ∧
      s.blocks.enrol[(0 : Fin 512)] = some (enrolled 0 (some (0, 5))) ∧ s.meter 0 5 = some (meterWith 5) ∧
      (meterWith 5).account = 77 ∧ (meterWith 5).overQuota = false ∧ (5 : BitVec 64).toNat ≤ (meterWith 5).quotaUsed ∧
      (lit.enrolFirst (enrolled 0 none)).blocks.enrol[(0 : Fin 512)] = some (enrolled 0 none) ∧ (enrolled 0 none).binding = none := by
  decide +kernel

theorem witness_JournalRequests :
    (lit.putJournal twoEntries).takes 1 = true ∧ 1 ≤ (8 : Byte).toNat ∧ (8 : Byte).toNat ≤ 8 ∧
      (∀ d : Drop, (lit.putJournal twoEntries).meter 0 d = none) ∧
      (∀ d : Drop, (lit.putJournal twoEntries).meter 3 d = none) := by decide +kernel

/-- R188: a release reaches no further than the entries that have been read. -/
theorem test_release_stops_at_the_cursor :
    ((Work.start (lit.putJournal twoEntries).blocks).releaseEntries 2).blocks.journal.entries.map JournalEntry.seq = [2] := by
  decide +kernel

theorem witness_HeldClosesAndRetirementsComplete :
    let m := { meterWith 5 with pending := some (.host, ⟨0, 0⟩) }
    ((withDrop .serving).putMeter m).meter 0 5 = some m ∧ ((withDrop .serving).putMeter m).blocks.journal.room = true ∧
      (∀ d : Drop, d ≠ 5 → ((withDrop .serving).putMeter m).meter 0 d = none) ∧
      ((withDrop .retiring).drop 0 5).state = .retiring ∧ (withDrop .retiring).meter 0 5 = none := by decide +kernel

theorem witness_MetersChargeAndClose :
    let w := Work.start ((withDrop .serving).putMeter (meterWith 1099511627775)).blocks
    w.meter 0 5 = some (meterWith 1099511627775) ∧ (meterWith 0).pending = none ∧ (meterWith 0).usage = false ∧
      (meterWith 0).flags = MeterFlags.clear ∧ CloseCause.host.ending = false ∧ CloseCause.drain.ending = true ∧
      (meterWith 5).usage = true ∧ { MeterFlags.clear with outage := true } ≠ MeterFlags.clear ∧ Journal.reset.room = true ∧
      { Journal.reset with nextSeq := 4294967296 }.room = false := by
  decide +kernel

/-! ### Further clauses of the statements: operands and states that meet them -/

/-- `s` with a journal that has no number left for an entry. -/
def State.noRoom (s : State) : State := s.putJournal { Journal.reset with nextSeq := 4294967296 }

theorem witness_FaultsTakeLegsOutOfService_in_draining_and_off :
    ((litLeg .draining).leg 0).control.state = .draining ∧ (lit.leg 0).control.state = .off := by decide

theorem witness_LegOffStartsDraining_by_meter :
    let s := (withDrop .serving).putMeter (meterWith 3)
    ((withDrop .serving).drop 0 5).state ≠ .vacant ∧ ((withDrop .serving).drop 0 5).state ≠ .retiring ∧
      (withDrop .serving).meter 0 5 = none ∧ s.meter 0 5 = some (meterWith 3) ∧ (meterWith 3).usage = true ∧
      s.noRoom.blocks.journal.room = false ∧ ((withDrop .retiring).drop 0 5).state = .retiring := by decide +kernel

/-- Leg 0 in ON under the reach span 3,000, with a FIXED lane of 1,700 beats. -/
def heavyLeg : State :=
  ((withDrop .serving).putLane { lane5 with figures := .fixed 1700, credit := none }).control fun c =>
    { c with settings := { c.settings with reach := 3000 } }

theorem witness_SetReachStartsRetiming_by_entry_state_and_refusal :
    ((withDrop .found).drop 0 5).state = .found ∧ ((withDrop .quarantined).drop 0 5).state = .quarantined ∧
      ((withDrop .ranging).drop 0 5).state.heard = false ∧ (withDrop .serving).takes 1 = true ∧ 3 < (4 : Byte).toNat ∧
      (624 : BitVec 16).toNat < 625 ∧ 6250 < (6251 : BitVec 16).toNat ∧ (lit.leg 0).control.state ≠ .on ∧
      MonitorState.hunting.searching = true ∧ (6250 : BitVec 16).toNat = ((withDrop .serving).leg 0).control.settings.reach ∧
      fixedLimitsHold (heavyLeg.leg 0).lanes 3000 = true ∧ fixedLimitsHold (heavyLeg.leg 0).lanes 6250 = false ∧
      48 ≤ (((withDrop .serving).putOrders (List.replicate 48 (OrderEntry.queued .wake (some 5)))).leg 0).orders.length := by
  decide +kernel

/-- A RESTART is taken while the record at the head is in transfer. -/
theorem witness_TransactionsFeedAndDrainThePort_at_a_restart :
    let s := after .readOpcode (after (.identify 1) lit)
    s.takes 1 = true ∧ s.blocks.restartRoom = true ∧ s.port.outbound.map OutRecord.inTransfer = [true] := by decide +kernel

theorem witness_LostHoldExpires_from_hushed_and_in_a_search :
    let s := (litLeg .on).putDrop 5 { entryIn .hushed with resume := some ⟨.lost, some 1, some (.lost .silent), false, false⟩ }
    let m := { meterWith 3 with pending := some (.period, ⟨0, 0⟩) }
    (s.drop 0 5).state = .hushed ∧ (s.drop 0 5).resume = some ⟨.lost, some 1, some (.lost .silent), false, false⟩ ∧
      Journal.reset.room = true ∧ (s.putMeter (meterWith 3)).meter 0 5 = some (meterWith 3) ∧
      (s.putMeter m).meter 0 5 = some m ∧ m.usage = true ∧ (s.leg 0).monitor.endsWithout 5 = false ∧
      ((searching .hunting (stepRead .control 0)).leg 0).monitor.endsWithout 5 = true ∧
      ((searching .verifying (stepRead .control 0)).leg 0).monitor.endsWithout 5 = true ∧
      ((searching .verifying (stepRead .control 0)).leg 0).monitor.step = some (stepRead .control 0) := by decide +kernel

theorem witness_HuntsEndInTheirVerdict_without_candidates :
    let s := (searching .hunting (stepRead .control 15)).putDrop 5 { entryIn .serving with missed := 7 }
    let m := ((searching .hunting { stepRead .split 15 with set := [5] }).leg 0).monitor
    ((stepRead .split 15).observe m report18).readsLit m = decide ((5 : Drop) ∈ [(5 : Drop)]) ∧ m.candidates = some [5] ∧
      { m with candidates := some [] }.candidates = some [] ∧ (s.leg 0).monitor.state.searching = true ∧
      (s.drop 0 5).state.heard = true ∧ 7 ≤ (s.drop 0 5).missed ∧ (s.leg 0).orders.length < 48 ∧
      (s.leg 0).monitor.endsWithout 5 = true ∧
      { m with candidates := some [4, 5] }.endsWithout 5 = false := by decide +kernel

theorem witness_DismissRetiresTheDrop_in_a_search :
    let s := searching .hunting (stepRead .control 0)
    (s.drop 0 5).state = .serving ∧ (s.leg 0).monitor.endsWithout 5 = true ∧ (s.leg 0).orders.length < 47 ∧
      plainCount (s.leg 0).orders < 40 := by decide +kernel

theorem witness_LaneRequestsChangeTheirLane_by_class_and_refusal :
    let s := withDrop .awaiting
    readFigures 0 9 0 = some (.fixed 9) ∧ readFigures 1 100 9000 = some (.assured 100 8000) ∧
      readFigures 2 64 1 = some (.surplus 64 1) ∧ readFigures 3 1 1 = none ∧ readFigures 2 65 1 = none ∧
      s.takes 1 = true ∧ (s.drop 0 5).state = .awaiting ∧ ((withDrop .dormant).drop 0 5).state = .dormant ∧
      ((withDrop .lost).drop 0 5).state = .lost ∧ toDrop? 5 = some 5 ∧ 127 < (128 : Byte).toNat ∧ 3 < (4 : Byte).toNat ∧
      plainRoom (List.replicate 40 (OrderEntry.queued .wake (some 6))) = false ∧
      hasQueued (List.replicate 40 (OrderEntry.queued .wake (some 6))) 5 .bindLanes = false ∧
      hasQueued [OrderEntry.queued (.bindLanes none) (some 5)] 5 .bindLanes = true ∧
      (∀ k : Fin 256, (Vector.replicate 256 (some lane5))[k] ≠ none) ∧ lane5.figures.classByte = 1 := by decide +kernel

/-- A FIXED lane of 1,700 beats breaks the limits of the longest reach, and fits under 3,000 beats. -/
theorem witness_LaneRequestsChangeTheirLane_at_the_ceiling :
    let t := (heavyLeg.leg 0).lanes
    ¬(fixedSum t + 16 * fixedDrops t ≤ 8000 - (6250 + 80) ∧ fixedDrops t ≤ 32) ∧
      fixedSum t + 16 * fixedDrops t ≤ 8000 - (3000 + 80) ∧ fixedDrops t ≤ 32 ∧
      ({ lane5 with figures := .fixed 9, credit := none } : Lane).fixedBeats ≤ 9 := by decide +kernel

theorem witness_SleepAndWakeQueueOrders_with_a_sleep_under_way :
    let s := (withDrop .serving).putOrders [awaitingOrder (.sleep 16) 1 0]
    let u := (withDrop .serving).putOrders [OrderEntry.queued (.sleep 16) (some 5)]
    (s.drop 0 5).state = .serving ∧ (∃ e ∈ (s.leg 0).orders, e.target = some 5 ∧ e.order.kind = .sleep ∧ e.awaiting = true) ∧
      (∃ e ∈ (u.leg 0).orders, e.target = some 5 ∧ e.order.kind = .sleep) ∧
      ¬(∃ e ∈ (u.leg 0).orders, e.target = some 5 ∧ e.order.kind = .sleep ∧ e.awaiting = true) ∧
      plainRoom (s.leg 0).orders = true ∧ plainRoom (List.replicate 40 (OrderEntry.queued .wake (some 6))) = false ∧
      ({ entryIn .serving with sleepCancelled := true } : DropEntry).sleepCancelled = true := by decide +kernel

/-- The journal of two entries is a good one. -/
theorem two_entries_ok : twoEntries.Ok :=
  { consecutive := fun i h => by
      have : i = 0 ∨ i = 1 := by simp [twoEntries] at h; omega
      rcases this with rfl | rfl <;> rfl
    first := by decide, watermark := by decide }

theorem witness_JournalRequests_with_held_meters :
    let m := { meterWith 5 with pending := some (.host, ⟨0, 0⟩) }
    let s := ((withDrop .serving).putMeter m).putJournal twoEntries
    s.takes 1 = true ∧ s.meter 0 5 = some m ∧ m.pending = some (.host, ⟨0, 0⟩) ∧ 1 < (2 : Byte).toNat ∧ 8 < (9 : Byte).toNat ∧
      twoEntries.armed = true := by decide +kernel

theorem witness_HeldClosesAndRetirementsComplete_with_an_ending_close :
    let m := { meterWith 5 with pending := some (.drain, ⟨0, 0⟩) }
    let s := (withDrop .retiring).putMeter m
    s.meter 0 5 = some m ∧ m.pending = some (.drain, ⟨0, 0⟩) ∧ s.blocks.journal.room = true ∧ (s.drop 0 5).state = .retiring ∧
      ∀ d : Drop, d ≠ 5 → s.meter 0 d = none := by decide +kernel

theorem witness_MetersChargeAndClose_at_the_quota :
    let w := Work.start (((withDrop .serving).putMeter (meterWith 5)).enrolFirst (enrolled 9 (some (0, 5)))).blocks
    w.meter 0 5 = some (meterWith 5) ∧ w.blocks.quotaOf 77 = some 9 ∧ (meterWith 5).overQuota = false ∧
      w.blocks.quotaBands[(0 : Fin 4)] = true ∧ 9 ≤ (meterWith 5).quotaUsed + 4 := by decide +kernel

theorem witness_BoundariesAdvanceCountersAndBlocks_with_closes :
    let s := (withDrop .serving).putMeter (meterWith 5)
    let u := s.withBlocks { s.blocks with period := 1, time := { s.blocks.time with round := 4095 } }
    s.blocks.time.part = .ready ∧ s.meter 0 5 = some (meterWith 5) ∧ (s.leg 0).fifo = [] ∧ (s.leg 0).orders = [] ∧
      (s.drop 0 5).hold = none ∧ (s.drop 0 5).resume = none ∧ u.boundary.round = 0 ∧ u.blocks.period ≠ 0 ∧
      u.boundary.cycle ≠ 0 ∧ u.blocks.period ∣ u.boundary.cycle ∧ s.boundary.round ≠ 0 ∧
      s.blocks.journal.entries.length + 512 ≤ 1024 ∧ s.blocks.journal.nextSeq + 512 ≤ 4294967296 ∧
      s.noRoom.blocks.journal.room = false := by decide +kernel

theorem witness_AnnounceIsMatched_by_class_and_place :
    let s := (litLeg .on).receive (mapFor (some ⟨.discovery, 6330⟩) none)
    let heard : Stranger := ⟨9, .unknown, ⟨0, 0⟩, ⟨0, 1⟩, 255⟩
    let elsewhere := { enrolled 0 none with allowed := some 1 }
    (s.enrolFirst elsewhere).blocks.enrol[(0 : Fin 512)] = some elsewhere ∧ elsewhere.allowed = some 1 ∧
      ((s.enrolFirst elsewhere).blocks.enrolWhere fun e => e.serial == announce9.serial) = some 0 ∧
      heard.serial = announce9.serial ∧ 8 ≤ (List.replicate 8 { heard with serial := 8 }).length ∧
      (enrolled 0 (some (1, 5))).binding = some (1, 5) ∧ (1 : Leg) ≠ 0 ∧
      (∀ d : Drop, (({ (s.leg 0) with drops := Vector.replicate 128 (entryIn .serving) } : LegRecord).drops[d]).state ≠ .vacant) := by
  decide +kernel

/-- R115, R116: one lit beat behind the only burst is its tail, the next one but one is stray. -/
theorem test_round_report :
    let m : InFlight := ⟨mapFor (some ⟨.watch, 64⟩) none, 6250, 0, 0, 0, false, false⟩
    let r := m.report [⟨17, true, 9⟩, ⟨1, false, 9⟩, ⟨1, true, 9⟩, ⟨7981, false, 9⟩]
    r.tails = [(5, 1)] ∧ r.stray = 1 ∧ r.probeCount = none ∧ r.samples = [(.idle, 9), (.watch, 9)] := by decide +kernel

theorem witness_EchoesCompleteOrders_of_a_hushed_drop :
    let e := awaitingOrder (.stepPower 2) 1 0
    let back := fun (st : DropState) => (⟨st, none, none, false, false⟩ : Resume)
    let s := fun st => (clean5 .serving [e]).putDrop 5 { entryIn .hushed with resume := some (back st) }
    ((s .serving).leg 0).orders = [] ++ e :: [] ∧ ((s .serving).drop 0 5).state = .hushed ∧ e.order = .stepPower 2 ∧
      ((s .serving).drop 0 5).resume = some (back .serving) ∧ (back .serving).state ≠ .trimming ∧
      ((s .trimming).drop 0 5).state = .hushed ∧ ((s .trimming).drop 0 5).resume = some (back .trimming) ∧
      (back .trimming).state = .trimming := by decide +kernel

/-- R49, R53, R70, R71: the echo of a HUSHED drop's step takes the order away and moves its power; in trim the count stands. -/
theorem test_echo_of_a_hushed_step :
    let s := fun st => (clean5 .serving [awaitingOrder (.stepPower 2) 1 0]).putDrop 5
      { entryIn .hushed with power := 16, trimCount := 1, resume := some ⟨st, none, none, false, false⟩ }
    let t := fun st => (Work.start (s st).blocks).deliverEcho 0 5 (some 3)
    ((t .serving).leg 0).orders = [] ∧ ((t .serving).drop 0 5).power = 18 ∧ ((t .serving).drop 0 5).trimCount = 2 ∧
      ((t .trimming).leg 0).orders = [] ∧ ((t .trimming).drop 0 5).power = 18 ∧ ((t .trimming).drop 0 5).trimCount = 1 := by
  decide +kernel

/-! ### What the round boundary counts -/

theorem witness_LegStateCommandsChangeTheLeg_at_the_boundary :
    let left := fun st n => (litLeg st).control fun c => { c with roundsLeft := n }
    let seen := (litLeg .fault).control fun c => { c with faultSeen := true }
    (left .preparing 64).blocks.time.part = .ready ∧ (left .preparing 64).blocks.time.Ok ∧
      ((left .preparing 64).leg 0).control.state = .preparing ∧ ((left .preparing 64).leg 0).control.roundsLeft ≠ 0 ∧
      ((left .preparing 0).leg 0).control.roundsLeft = 0 ∧ ((left .retiming 1).leg 0).control.state = .retiming ∧
      ((left .retiming 1).leg 0).control.roundsLeft ≠ 0 ∧ ((left .retiming 0).leg 0).control.roundsLeft = 0 ∧
      (((left .retiming 0).monitor fun m => { m with state := .watching, owedLearning := true }).leg 0).monitor.state = .watching ∧
      ((litLeg .fault).leg 0).control.state = .fault ∧ ((litLeg .fault).leg 0).control.faultSeen = false ∧
      ((litLeg .fault).leg 0).control.laserFault = false ∧ (seen.leg 0).control.faultSeen = true ∧
      ((litLeg .on).leg 0).control.state = .on :=
  ⟨by decide, lit_time_ok 0 (by decide), by decide, by decide, by decide, by decide, by decide, by decide, by decide, by decide,
    by decide, by decide, by decide, by decide⟩

set_option maxRecDepth 100000 in
/-- R10: the 64 rounds of PREPARING count down, the laser on from the first. -/
theorem test_preparing_counts_down :
    let t := after .roundBoundary ((litLeg .preparing).control fun c => { c with roundsLeft := 64, txen := false })
    (t.leg 0).control.roundsLeft = 63 ∧ (t.leg 0).control.txen = true ∧ (t.leg 0).control.state = .preparing := by decide +kernel

theorem witness_LostHoldExpires_at_the_boundary :
    let lost := fun n => (litLeg .on).putDrop 5 { entryIn .lost with hold := some n, reason := some (.lost .silent) }
    let hushed := fun n =>
      (litLeg .on).putDrop 5 { entryIn .hushed with resume := some ⟨.lost, some n, some (.lost .silent), false, false⟩ }
    (lost 2).blocks.time.part = .ready ∧ (lost 2).blocks.time.Ok ∧ ((lost 2).drop 0 5).lostHold = some 2 ∧
      ((lost 2).drop 0 5).state = .lost ∧ ((lost 2).leg 0).monitor.asks = [] ∧ ((hushed 2).drop 0 5).lostHold = some 2 ∧
      ((hushed 2).drop 0 5).state = .hushed ∧ ((hushed 2).leg 0).monitor.state.searching = false ∧
      ((lost 1).drop 0 5).lostHold = some 1 ∧ ((hushed 1).drop 0 5).lostHold = some 1 ∧ (lost 1).meter 0 5 = none ∧
      ((lost 1).putMeter (meterWith 3)).meter 0 5 = some (meterWith 3) ∧ (meterWith 3).pending = none ∧ (meterWith 3).usage = true ∧
      (meterWith 0).usage = false ∧ (lost 1).blocks.journal.entries.length + 512 ≤ 1024 ∧
      (lost 1).blocks.journal.nextSeq + 512 ≤ 4294967296 ∧ (lost 1).noRoom.blocks.journal.room = false ∧
      (((lost 1).monitor fun m => { m with state := .hunting, candidates := some [5] }).leg 0).monitor.candidates = some [5] :=
  ⟨by decide, lit_time_ok 0 (by decide), by decide, by decide, by decide, by decide, by decide, by decide, by decide, by decide,
    by decide +kernel, by decide +kernel, by decide, by decide +kernel, by decide +kernel, by decide, by decide, by decide, by decide⟩

/-- A leg in ON whose monitor searches, with drop 5 DORMANT at its last round before a wake check. -/
def searchingDormant : State :=
  (searching .hunting (stepRead .split 5)).putDrop 5 { entryIn .dormant with wakeInterval := some 64, wakeCount := some 1 }

set_option maxRecDepth 100000 in
/-- R58, R92, R123, R142: a boundary counts the rounds since the last discovery window, the DORMANT drop has its burst and its
countdown starts again, and the step's rounds elapsed rise. -/
theorem test_boundary_counts :
    let t := after .roundBoundary searchingDormant
    (t.leg 0).control.state = .on ∧ (t.leg 0).monitor.state = .hunting ∧ (t.leg 0).schedule.roundsSince = 1 ∧
      (t.drop 0 5).wakeCount = some 64 ∧ (t.leg 0).monitor.step.map ProbeStep.elapsed = some 19 ∧
      (t.leg 0).keptMap.map (fun m => m.bursts.map Burst.drop) = some [5] := by decide +kernel

theorem witness_BoundaryChecksFallDue_at_the_boundary :
    let s := searchingDormant
    let off := fun n => (litLeg .on).monitor fun m => { m with state := .holdoff, holdOffLeft := some n }
    let suspect := fun first => (litLeg .on).monitor fun m => { m with state := .suspect, suspicion := some first }
    s.blocks.time.part = .ready ∧ s.blocks.time.Ok ∧ (s.drop 0 5).state = .dormant ∧ (s.leg 0).orders = [] ∧
      (s.leg 0).monitor.asks = [] ∧ (s.drop 0 5).wakeCount = some 1 ∧ (s.leg 0).monitor.state.searching = true ∧
      (s.leg 0).monitor.step = some (stepRead .split 5) ∧ ((off 2).leg 0).monitor.state = .holdoff ∧
      ((off 2).leg 0).monitor.holdOffLeft = some 2 ∧ ((off 1).leg 0).monitor.holdOffLeft = some 1 ∧
      ((off 1).leg 0).control.state ≠ .retiming ∧ ((suspect ⟨0, 1⟩).leg 0).monitor.state = .suspect ∧
      ((suspect ⟨0, 1⟩).leg 0).monitor.suspicion = some ⟨0, 1⟩ ∧
      (⟨0, 1⟩ : Stamp).roundsTo (suspect ⟨0, 1⟩).boundary ≤ MonitorSettings.reset.confirmWindow ∧
      MonitorSettings.reset.confirmWindow < (⟨4294967294, 0⟩ : Stamp).roundsTo (suspect ⟨4294967294, 0⟩).boundary :=
  ⟨by decide, lit_time_ok 0 (by decide), by decide, by decide, by decide, by decide, by decide, by decide, by decide, by decide,
    by decide, by decide, by decide, by decide, by decide, by decide⟩

/-- A leg in ON and a SERVING drop 5 with one order, which awaits its echo. -/
def waitingFor (o : Order) (sends waited : Nat) : State := (withDrop .serving).putOrders [awaitingOrder o sends waited]

/-- Such a leg's queue is a good one for every echoed order of a plain priority. -/
theorem waiting_orders_ok (o : Order) (sends waited : Nat) (plain : (OrderEntry.queued o (some 5)).priority ≠ .urgent)
    (own : o.kind.priority ≠ .urgent) (echoed : o.kind.echoed = true) : ((waitingFor o sends waited).leg 0).OrdersOk := by
  have orders : ((waitingFor o sends waited).leg 0).orders = [awaitingOrder o sends waited] := rfl
  have urgent : (awaitingOrder o sends waited).priority ≠ .urgent := plain
  refine { all := ?_, plain := ?_, urgent := ?_, echoed := ?_, single := ?_, oldest := ?_ }
  all_goals simp only [orders]
  · simp
  · exact (List.length_filter_le _ _).trans (by simp)
  · exact fun e h => by rw [List.mem_singleton.mp h]; exact iff_of_false urgent own
  · exact fun e h _ => by rw [List.mem_singleton.mp h]; exact echoed
  · exact fun d => (List.length_filter_le _ _).trans (Nat.le_refl 1)
  · intro i j e x hi hj _ hij
    have := (List.getElem?_eq_some_iff.mp hj).1
    simp only [List.length_singleton] at this
    omega

theorem witness_OrdersAreRetriedResentOrFail_at_the_boundary :
    let s := waitingFor (.stepPower 2)
    let of := fun o => waitingFor o 3 3
    ((s 1 2).leg 0).OrdersOk ∧ (s 1 2).blocks.time.Ok ∧ (s 1 2).blocks.time.part = .ready ∧ ((s 1 2).leg 0).control.state = .on ∧
      awaitingOrder (.stepPower 2) 1 2 ∈ ((s 1 2).leg 0).orders ∧ (awaitingOrder (.stepPower 2) 1 2).target = some 5 ∧
      (awaitingOrder (.stepPower 2) 1 2).awaiting = true ∧ (awaitingOrder (.stepPower 2) 1 2).lastSent ≠ some (s 1 2).boundary.round ∧
      ((s 1 2).drop 0 5).state ≠ .hushed ∧ ((s 1 2).drop 0 5).state ≠ .lost ∧ (awaitingOrder (.stepPower 2) 1 2).waited < 3 ∧
      ((s 2 3).leg 0).OrdersOk ∧ 3 ≤ (awaitingOrder (.stepPower 2) 2 3).waited ∧ (awaitingOrder (.stepPower 2) 2 3).sends < 3 ∧
      ((s 2 3).leg 0).orders = [awaitingOrder (.stepPower 2) 2 3] ∧ ((s 2 3).leg 0).monitor.asks = [] ∧ ((s 2 3).leg 0).owed = [] ∧
      ((s 2 3).leg 0).monitor.state.searching = false ∧ ((s 3 3).leg 0).OrdersOk ∧ 3 ≤ (awaitingOrder (.stepPower 2) 3 3).sends ∧
      ((of (.sleep 16)).leg 0).OrdersOk ∧ ((of (.bindLanes none)).leg 0).OrdersOk ∧ ((of (.setDelay none)).leg 0).OrdersOk ∧
      (((of (.setDelay none)).putDrop 5 { entryIn .found with origin := some .new }).drop 0 5).state = .found :=
  ⟨waiting_orders_ok _ _ _ (by decide) (by decide) (by decide), lit_time_ok 0 (by decide), by decide, by decide, by decide, by decide,
    by decide, by decide, by decide, by decide, by decide, waiting_orders_ok _ _ _ (by decide) (by decide) (by decide), by decide,
    by decide, by decide, by decide, by decide, by decide, waiting_orders_ok _ _ _ (by decide) (by decide) (by decide), by decide,
    waiting_orders_ok _ _ _ (by decide) (by decide) (by decide), waiting_orders_ok _ _ _ (by decide) (by decide) (by decide),
    waiting_orders_ok _ _ _ (by decide) (by decide) (by decide), by decide⟩

/-- Leg 0 in ON with drop 5 in the state given, and with the monitor's orders, the owed orders and the queue given. -/
def owing (st : DropState) (asks : List MonitorAsk) (owed : List OwedItem) (q : List OrderEntry) : State :=
  (withDrop st).mapLeg 0 fun r => { r with owed := owed, orders := q, monitor := { r.monitor with asks := asks } }

theorem witness_OrdersAreRetriedResentOrFail_of_what_found_no_room :
    let bind : OwedItem := ⟨5, .bindLanes⟩
    let items : List OwedItem := [⟨5, .stepPower 2⟩, bind, ⟨6, .setDelay⟩]
    let full := List.replicate 48 (OrderEntry.queued .dismiss (some 7))
    let plain := List.replicate 40 (OrderEntry.queued (.sleep 16) (some 7))
    let some5 := owing .serving [.mute 6, .unhush] [] full
    let owed := owing .serving [] items []
    some5.blocks.time.part = .ready ∧ (some5.leg 0).owed = [] ∧
      (∀ a ∈ (some5.leg 0).monitor.asks, a = .unhush ∨ ∃ c, a = .mute c) ∧ 48 ≤ (some5.leg 0).orders.length ∧
      (owed.leg 0).monitor.asks = [] ∧ (owed.leg 0).owed.Pairwise (fun i j => i.sameKind j.drop j.kind = false) ∧
      (owed.leg 0).orders = [] ∧ ((owing .serving [] [bind] [OrderEntry.queued (.bindLanes none) (some 5)]).leg 0).owed = [bind] ∧
      (OrderEntry.queued (.bindLanes none) (some 5)).order.kind = .bindLanes ∧
      (OrderEntry.queued (.bindLanes none) (some 5)).awaiting = false ∧
      (∀ e ∈ full, ¬(e.target = some 5 ∧ e.order.kind = .bindLanes ∧ e.awaiting = false)) ∧ 40 ≤ plainCount plain ∧ plain.length < 48 :=
  ⟨by decide, by decide, fun a h => (List.mem_cons.mp h).elim (fun h => .inr ⟨6, h⟩) fun h => .inl (List.mem_singleton.mp h), by decide,
    by decide, by decide, by decide, by decide, by decide, by decide, by decide, by decide, by decide⟩

theorem witness_OrdersAreRetriedResentOrFail_of_a_step :
    let hush := owing .serving [.stepHush [5] 4] [] []
    let back : Resume := ⟨.trimming, none, none, false, true⟩
    let unhush := (owing .serving [.stepUnhush none] [] []).putDrop 5 { entryIn .hushed with resume := some back }
    (hush.leg 0).monitor.asks = [.stepHush [5] 4] ∧ (hush.leg 0).owed = [] ∧ (hush.leg 0).orders.length < 48 ∧
      (hush.drop 0 5).state.hushable = true ∧ ((hush.putLane lane5).leg 0).lanes[(0 : Fin 256)] = some lane5 ∧
      lane5.state = .active ∧ lane5.owner ∈ [(5 : Drop)] ∧ (unhush.leg 0).monitor.asks = [.stepUnhush none] ∧
      (unhush.drop 0 5).state = .hushed ∧ (unhush.drop 0 5).resume = some back ∧ back.state ≠ .serving ∧
      ((some (5 : Drop) == none) = false) := by decide +kernel

/-- R142, R144: the HUSH_SET of a step asked for again hushes its set when it is queued. -/
theorem test_step_hush_is_queued :
    let t := after (.orderRetry 0) (owing .serving [.stepHush [5] 4] [] [])
    (t.drop 0 5).state = .hushed ∧ (t.leg 0).orders.map OrderEntry.order = [.hushSet [5] 4] ∧ (t.leg 0).monitor.asks = [] := by
  decide +kernel

theorem witness_WindowOutcomesAndMissesAreCounted_at_the_eighth_miss :
    let s := ((litLeg .on).putDrop 5 { entryIn .serving with missed := 7 }).receive (mapFor none none)
    (s.leg 0).inFlight = ⟨mapFor none none, 6250, 0, 0, 0, false, false⟩ :: [] ∧ (s.drop 0 5).state.heard = true ∧
      7 ≤ (s.drop 0 5).missed ∧ ((after (.grantedWindowEnd 0 ⟨false, none⟩) s).drop 0 5).state = .lost := by decide +kernel

theorem witness_MissAndDriftLimitsAct_in_the_window :
    let f := keepalive5 200 none false false
    let s := ((litLeg .on).putDrop 5 { entryIn .serving with outOfBand := 15 }).receive (mapFor none none)
    (s.leg 0).inFlight = ⟨mapFor none none, 6250, 0, 0, 0, false, false⟩ :: [] ∧ classify ⟨5, 0, 16, []⟩ ⟨true, some f⟩ = .clean ∧
      f.header.echo = none ∧ f.header.dyingGasp = false ∧ (s.drop 0 5).state = .serving ∧ 15 ≤ (s.drop 0 5).outOfBand ∧
      ¬((s.leg 0).control.settings.trimLow ≤ 200 ∧ 200 ≤ (s.leg 0).control.settings.trimHigh) ∧ (s.leg 0).orders = [] ∧
      (s.leg 0).owed = [] ∧ appliedStep 96 160 200 (s.drop 0 5).power ≠ 0 ∧ appliedStep 96 160 200 0 = 0 ∧
      plainRoom (s.leg 0).orders = true ∧
      plainRoom (List.replicate 40 (OrderEntry.queued (.sleep 16) (some 6))) = false := by decide +kernel

theorem witness_RoundReportFeedsTheSpan_at_the_last_round :
    let sp := { Span.fresh false ⟨0, 0⟩ with position := 31 }
    let s := (armed .suspect sp).receive (mapFor none none)
    let h := fun st (step : ProbeStep) => (((searching st step).receive { mapFor none none with round := ⟨0, 18⟩ }).leg 0)
    (s.leg 0).inFlight = ⟨mapFor none none, 6250, 0, 0, 0, false, false⟩ :: [] ∧ (s.leg 0).monitor.state = .suspect ∧
      (s.leg 0).monitor.span = some sp ∧ sp.countFrom.notAfter (mapFor none none).round = true ∧
      MonitorSettings.reset.watchSpan ≤ sp.position + 1 ∧ (h .hunting (stepRead .split 5)).monitor.state = .hunting ∧
      (h .hunting (stepRead .split 5)).monitor.step = some (stepRead .split 5) ∧ (stepRead .split 5).firstObs = some ⟨0, 3⟩ ∧
      (⟨0, 3⟩ : Stamp).roundsTo ⟨0, 18⟩ + 1 = MonitorSettings.reset.probeSpan ∧
      (⟨0, 4⟩ : Stamp).roundsTo ⟨0, 18⟩ + 1 < MonitorSettings.reset.probeSpan ∧
      MonitorSettings.reset.probeSpan ≤ (⟨0, 19⟩ : Stamp).roundsTo ⟨0, 18⟩ ∧
      (h .verifying (stepRead .verify 5)).monitor.state = .verifying ∧
      { Span.fresh false ⟨0, 9⟩ with position := 3 }.countFrom.notAfter (mapFor none none).round = false ∧
      MonitorState.holdoff ≠ .disarmed := by decide +kernel

/-- R45: of nine SLEEPs to nine drops the youngest is left out. -/
theorem witness_OrdersAreChosenAndSent_of_nine :
    let q := (List.finRange 9).map fun i => OrderEntry.queued (.sleep 16) (some (Fin.ofNat 128 i.val))
    let r := ((withDrop .serving).putOrders q).leg 0
    r.OrdersOk ∧ selectOrders true (fun _ => false) r.orders = [0, 1, 2, 3, 4, 5, 6, 7] :=
  ⟨{ all := by decide, plain := by decide, urgent := by decide, echoed := by decide, single := by decide +kernel
     oldest := oldest_of_places (by decide +kernel) }, by decide +kernel⟩

set_option maxRecDepth 100000 in
/-- R62: of the FOUND drops 5 and 9 of a leg in ON the boundary names drop 5. -/
theorem witness_FullMapFollowsItsStages_of_two_found_drops :
    let s := (withDrop .found).putDrop 9 { entryIn .found with serial := some 10, enrolRef := some 1 }
    let t := after .roundBoundary s
    (t.leg 0).control.state = .on ∧ (t.leg 0).monitor.state.searching = false ∧ (t.drop 0 9).state = .found ∧
      (t.drop 0 9).since ≠ t.now ∧ (t.leg 0).orders = [] ∧ (t.leg 0).owed = [] ∧ (t.leg 0).requests.ranging = some 5 := by
  decide +kernel

/-- Leg 0 in ON with ASSURED and SURPLUS lanes of drop 5 and a SURPLUS lane of drop 6, all with backlog. -/
def sharing : LegRecord :=
  let s := ((withDrop .serving).putDrop 6 { entryIn .serving with serial := some 10, enrolRef := some 1 }).putLane { lane5 with backlog := 4000 }
  let r := s.leg 0
  { r with
    lanes := (r.lanes.set 1 (some { lane5 with port := 2, figures := .surplus 1 2000, credit := none, backlog := 9000 })).set 2
      (some { lane5 with owner := 6, figures := .surplus 3 20, credit := none, backlog := 9000 }) }

/-- R98: drop 6's lane is cut to its peak of 20 beats, and lane 1 takes the rest by the second pass, up to its own peak. -/
theorem witness_GrantStagesShareTheRoom_in_two_passes :
    let b := buildGrants sharing (fun _ => false) 0 8000
    sharing.eligible 5 = true ∧ sharing.eligible 6 = true ∧ sharing.surplusLanes.map Prod.fst = [1, 2] ∧ 5 ∈ b.holders ∧ 6 ∈ b.holders ∧
      b.beats 2 = 20 ∧ b.beats 1 = 2000 ∧ b.refused = [] := by decide +kernel

theorem witness_refusals_of_requests :
    let s := withDrop .serving
    s.takes 7 = true ∧ 3 < (4 : Byte).toNat ∧ 127 < (128 : Byte).toNat ∧ 1 < (2 : Byte).toNat ∧
      (s.leg 0).lanes[(9 : Byte).toFin] = none ∧ s.meter 0 5 = none ∧ toLeg? 0 = some 0 ∧ toDrop? 5 = some 5 := by decide +kernel

/-- A serial that no entry of an empty enrolment list holds. -/
theorem witness_ReadingRequestsChangeNothing_of_an_absent_serial :
    ∀ (i : Fin 512) (e : EnrolEntry), lit.blocks.enrol[i] = some e → e.serial ≠ 9 := fun i e h => by
  rw [lit_enrols_none i] at h; cases h

theorem witness_TakeRequestRunsTheCommand_of_a_latched_port :
    let latched := fun r => { lit with port := { lit.port with latch := true, inbound := [r] } }
    (Instr.legOn 7 0 3125).request? = some (7, .legOn 0 3125) ∧ (Request.legOn 0 3125).wellFormed = true ∧
      hasPlace lit.port 7 = true ∧ hasPlace lit.port 0 = true ∧ Request.legOn 0 3125 ≠ .restart ∧ Request.legOn 0 3125 ≠ .status ∧
      Request.legOn 0 3125 ≠ .clearLatch ∧
      (latched ⟨kindOf (.legOn 0 3125), 7, bodyOf (.legOn 0 3125), false⟩).port.latch = true ∧
      kindOf .restart = 0x05 ∧ bodyOf .restart = [] ∧ (Instr.status 7).request? = some (7, .status) ∧
      (Instr.restart 7).request? = some (7, .restart) := by decide +kernel

set_option maxRecDepth 100000 in
theorem witness_RestartEmptiesThePart_at_the_watermark :
    let s := ((withDrop .serving).putMeter (meterWith 5)).putJournal { Journal.reset with watermark := 1, armed := true }
    s.takes 1 = true ∧ s.blocks.restartRoom = true ∧ s.blocks.journal.watermark ≤ s.blocks.journal.entries.length + 1 ∧
      s.blocks.journal.armed = true ∧ ((withDrop .serving).leg 0).control.state ≠ .off ∧
      (after (.restart 1) s).port.outbound.length = 3 := by decide +kernel

theorem witness_TakeRequestRunsTheCommand_of_a_bad_record :
    (∀ q : Request, kindOf q ≠ 0x06) ∧ (∃ q : Request, kindOf q = 0x10) ∧
      (∀ q : Request, kindOf q = 0x10 → (bodyOf q).length ≠ 1) ∧
      (∀ n : Byte, (List.replicate 23 (1 : Byte))[22]? = some n → (List.replicate 23 (1 : Byte)).length ≠ 23 + 5 * n.toNat) ∧
      Request.identify ≠ .status ∧ Request.identify ≠ .clearLatch ∧ (7 : Byte) ≠ 0 ∧ lit.port.outbound.length < 32 ∧
      32 ≤ (List.replicate 32 (⟨.notice ⟨none, none, ⟨0, 0⟩, .ready true⟩, false⟩ : OutRecord)).length ∧ lit.port.inbound = [] := by
  refine ⟨fun q => by cases q <;> simp [kindOf], ⟨.legOn 0 0, rfl⟩, fun q h => by cases q <;> simp_all [kindOf, bodyOf, put16], ?_, by decide,
    by decide, by decide, by decide, by decide, by decide⟩
  intro n h
  simp only [List.getElem?_replicate, Nat.reduceLT, ↓reduceIte, Option.some.injEq] at h
  subst h
  decide

theorem witness_FaultsTakeLegsOutOfService_with_lane_and_meter :
    let s := ((withDrop .serving).putLane lane5).putMeter (meterWith 5)
    (s.leg 0).control.state.live = true ∧ s.blocks.time.part = .ready ∧ (s.drop 0 5).state = .serving ∧
      (s.leg 0).lanes[(0 : Fin 256)] = some lane5 ∧ s.meter 0 5 = some (meterWith 5) := by decide +kernel

theorem witness_ReadingAndClearingRequests_while_locking :
    State.reset.blocks.time.part = .locking ∧ State.reset.port.latch = false ∧ State.reset.port.outbound.length < 32 ∧
      (1 : Byte) ≠ 0 := by decide

theorem witness_TransactionsFeedAndDrainThePort_with_no_record_in_transfer :
    (after (.identify 1) lit).port.outbound.map OutRecord.inTransfer = [false] := by decide +kernel

theorem witness_OrdersAreRetriedResentOrFail_by_kind :
    let e := awaitingOrder (.bindLanes none) 3 3
    let found := fun o => ((litLeg .on).putDrop 5 { entryIn .found with origin := some o }).drop 0 5
    (found (.reused 3000 .power)).origin = some (.reused 3000 .power) ∧ (found .new).origin = some .new ∧
      (awaitingOrder (.setDelay none) 3 3).order.kind = .setDelay ∧ (awaitingOrder .wake 3 3).order.kind = .wake ∧
      ((withDrop .dormant).drop 0 5).state = .dormant ∧ { e with retry := true }.retry = true ∧ e.retry = false ∧
      ((withDrop .awaiting).drop 0 5).state = .awaiting ∧ (awaitingOrder (.sleep 16) 3 3).order.kind = .sleep ∧
      ((withDrop .serving).drop 0 5).state = .serving ∧ ((withDrop .trimming).drop 0 5).state = .trimming ∧
      ((withDrop .quarantined).drop 0 5).state ≠ .hushed ∧ ((withDrop .hushed).drop 0 5).state = .hushed ∧
      ((withDrop .serving).leg 0).monitor.state.searching = false := by decide +kernel

/-- R114: two bursts that meet the conditions are no reply. -/
theorem test_two_replies_are_none :
    rangingReply (8000 - 6282) 5 [plainBurst 5 13848 [], plainBurst 5 14848 []] = none ∧
      rangingReply (8000 - 6282) 5 [plainBurst 6 13848 [], plainBurst 5 14848 []] = some (1024, 128) := by decide

/-- R143: at 16 observation rounds 8 lit ones read lit and 7 do not. -/
theorem test_half_the_rounds_read_lit :
    let m := ((searching .hunting (stepRead .split 8)).leg 0).monitor
    (stepRead .split 8).readsLit m = true ∧ (stepRead .split 7).readsLit m = false := by decide +kernel

theorem witness_SuspicionIsConfirmedAndNarrowed_behind_a_lit_check :
    let s := (searching .verifying (stepRead .verify 15)).monitor fun m => { m with keptCounts := some ⟨4, 0, 2, 0⟩ }
    let m := (s.leg 0).monitor
    m.state = .verifying ∧ m.step = some (stepRead .verify 15) ∧ m.suspectDrop = some 5 ∧ m.keptCounts = some ⟨4, 0, 2, 0⟩ ∧
      m.lastObserves report18.round = true ∧ (s.leg 0).orders.length < 48 ∧
      ((stepRead .verify 15).observe m report18).readsLit m = true := by decide +kernel

theorem witness_BandPeriodAndQuotaRequests_at_a_stamp :
    let at' : Stamp := ⟨0, 128⟩
    let plan : List BandEntry := [⟨0, ⟨0, 64⟩⟩, ⟨2, at'⟩]
    let n := (0 * 4096 + 65 + 63) / 64 * 64
    at' = (if (⟨n / 4096 % 4294967296, n % 4096⟩ : Stamp).le ⟨0, 0⟩ = true then (⟨0, 0⟩ : Stamp).nextBlock
        else ⟨n / 4096 % 4294967296, n % 4096⟩) ∧
      (lit.withBlocks { lit.blocks with bandPlan := plan }).takes 1 = true ∧ (∃ e ∈ plan, e.boundary = at') ∧
      plan.Pairwise (fun x y => x.boundary.le y.boundary = true ∧ x.boundary ≠ y.boundary) ∧ 3 < (4 : Byte).toNat ∧ (4 : Byte) ≠ 0xFF ∧
      8 ≤ (List.replicate 8 (⟨0, ⟨0, 64⟩⟩ : BandEntry)).length ∧ (∀ e ∈ List.replicate 8 (⟨0, ⟨0, 64⟩⟩ : BandEntry), e.boundary ≠ at') := by
  decide

/-- R180: in cycle 0 a period of 7 is next closed at cycle 7, and past the wrap at the length itself. -/
theorem test_next_periodic_close : nextClose 0 7 = some 7 ∧ nextClose 4294967295 7 = some 7 ∧ nextClose 5 0 = none := by decide

theorem witness_BandPeriodAndQuotaRequests_of_a_meter_over_quota :
    let m := { meterWith 5 with overQuota := true }
    let s := ((withDrop .serving).putMeter m).enrolFirst (enrolled 4 (some (0, 5)))
    s.takes 1 = true ∧ (s.blocks.enrolWhere fun e => e.account == (77 : BitVec 32).toNat) = some 0 ∧
      s.blocks.enrol[(0 : Fin 512)] = some (enrolled 4 (some (0, 5))) ∧ s.meter 0 5 = some m ∧ m.account = 77 ∧ m.overQuota = true ∧
      m.quotaUsed < (6 : BitVec 64).toNat ∧ (5 : BitVec 64).toNat ≤ m.quotaUsed := by decide +kernel

theorem witness_BandPeriodAndQuotaRequests_of_no_account :
    (78 : BitVec 32) ≠ 0 ∧ ∀ (i : Fin 512) (e : EnrolEntry), lit.blocks.enrol[i] = some e → e.account ≠ (78 : BitVec 32).toNat :=
  ⟨by decide, fun i e h => by rw [lit_enrols_none i] at h; cases h⟩

/-- A meter HELD for want of room: the journal has no number left. -/
theorem witness_StepKeepsJournalConsecutive_with_a_held_meter :
    let m := { meterWith 5 with pending := some (.host, ⟨0, 0⟩), flags := { MeterFlags.clear with extended := true } }
    let s := ((withDrop .serving).putMeter m).noRoom
    s.meter 0 5 = some m ∧ s.blocks.HeldOk := by
  intro m s
  have room : s.blocks.journal.room = false := by decide +kernel
  have all : ∀ (l : Leg) (d : Drop), s.blocks.legs[l].meters[d].all (fun m => m.flags.extended) = true := by decide +kernel
  refine ⟨by decide +kernel, ⟨fun h => by simp [room] at h, fun l d m h _ => ?_⟩⟩
  have := all l d
  rw [h] at this
  simpa using this

/-! ### Clauses of the later reviews -/

/-- R2, R16: a pulse of LASER_FAULT before the first lock is no fault seen in round 0; one while lock is lost later is seen in the
interrupted round (log 55). -/
theorem test_first_lock_watches_the_laser_faults_afresh :
    let pulsed := fun s => after .lockReached (after (.laserFaultReleased 0) (after (.laserFaultAsserted 0) s))
    let later := after .lossOfLock (after .lockReached State.reset)
    ((pulsed State.reset).leg 0).control.faultSeen = false ∧
      ((after .lockReached (after (.laserFaultAsserted 0) State.reset)).leg 0).control.faultSeen = true ∧
      later.blocks.time.part = .locking ∧ later.blocks.time.everLocked = true ∧ ((pulsed later).leg 0).control.faultSeen = true := by
  decide +kernel

/-- R16: a leg put in service in round 0 and faulted by a loss of lock recovers at the end of round 0, whatever LASER_FAULT showed before
the first lock. -/
theorem test_pulse_before_lock_does_not_delay_recovery :
    let lock := after .lockReached (after (.laserFaultReleased 0) (after (.laserFaultAsserted 0) State.reset))
    let t := after (.faultRecovery 0) (after .lockReached (after .lossOfLock (after (.legOn 1 0 3125) lock)))
    (t.leg 0).control.state = .preparing := by
  decide +kernel

/-- R184: of two meters with usage the journal has room for one: the first drop's close is written, the second's is HELD for DRAIN; a meter
HELD for a PERIOD close is HELD for DRAIN at its own stamp. -/
theorem witness_LegOffStartsDraining_by_room :
    let entries : List JournalEntry := List.replicate 1023
      ⟨1, 77, 0, 5, ⟨0, 0⟩, ⟨0, 0⟩, Vector.replicate 4 0, Vector.replicate 4 0, 0, .host, MeterFlags.clear⟩
    let s := (((withDrop .serving).putMeter (meterWith 5)).putDrop 6 (entryIn .serving)).putJournal
      { Journal.reset with entries := entries, nextSeq := 1024 }
    let s := s.mapLeg 0 fun r => { r with meters := r.meters.set 6 (some (meterWith 9)) }
    let held := (withDrop .serving).putMeter { meterWith 5 with pending := some (.period, ⟨0, 0⟩) }
    let t := after (.legOff 1 0) s
    s.takes 1 = true ∧ min (1024 - s.blocks.journal.entries.length) (4294967296 - s.blocks.journal.nextSeq) = 1 ∧
      (t.drop 0 5).state = .vacant ∧ t.meter 0 5 = none ∧ (t.drop 0 6).state = .retiring ∧
      (t.meter 0 6).bind Meter.pending = some (.drain, ⟨0, 0⟩) ∧ (t.blocks.journal.entries.drop 1023).map JournalEntry.drop = [5] ∧
      held.meter 0 5 = some { meterWith 5 with pending := some (.period, ⟨0, 0⟩) } ∧
      ((after (.legOff 1 0) held).meter 0 5).bind Meter.pending = some (.drain, ⟨0, 0⟩) ∧
      { meterWith 0 with pending := some (.host, ⟨0, 0⟩) }.usage = false := by decide +kernel

/-- R193: a record for each cause, at the bounds of its test. -/
theorem witness_TransactionsFeedAndDrainThePort_by_cause :
    [[], [2], [0, 1], [3, 0xFF], [3, 0xFE], [0, 2, 1, 7, 0], [0, 2, 1, 7, 0, 0, 0], [0, 2, 1, 7, 0, 0]].map judgeRecord =
      [.short, .short, .length, .length, .short, .short, .long, .crc].map .inl := by decide +kernel

/-- R193: the last two bytes of the CRC record are not the checksum of the others; those of a good record are. -/
theorem witness_TransactionsFeedAndDrainThePort_by_checksum :
    let good := frameRecord 0x01 7 []
    ([0, 2, 1, 7, 0, 0] : List Byte).drop 4 ≠ put16 (crc16 [0, 2, 1, 7]) ∧ good.length = 2 + 4 ∧
      good.drop 4 = put16 (crc16 (good.take 4)) ∧ judgeRecord good = .inr (0x01, 7, []) := by decide +kernel

set_option maxRecDepth 100000 in
/-- R93, R99, R132: at the first observation round of a control step a probe window is placed; the burst of drop 9, which has a FIXED
lane, lies before those of drops 8 and 6, taken in rotation order from the pointer 7; drop 4 has none, and its run rises. -/
theorem witness_FullMapFollowsItsStages_of_an_observation_round :
    let s := ([4, 6, 8, 9] : List Drop).foldl (fun s d => s.putDrop d { entryIn .serving with noBurst := if d = 4 then 2 else 7 }) (litLeg .on)
    let s := (s.putLane { lane5 with owner := 9, figures := .fixed 10, credit := none }).mapLeg 0 fun r => { r with pointer := 7 }
    let s := s.monitor fun m =>
      { m with state := .hunting, candidates := some [4], step := some ⟨.control, 1, [], 1, 0, 0, 0, some ⟨0, 1⟩⟩ }
    let t := after .roundBoundary s
    s.blocks.time.part = .ready ∧ (t.leg 0).control.state = .on ∧ (t.leg 0).requests.probe = true ∧
      (t.leg 0).monitor.state = .hunting ∧ (⟨0, 1⟩ : Stamp).roundsTo t.now < (t.leg 0).monitor.settings.probeSpan ∧
      (t.leg 0).keptMap.map (fun m => (m.bursts.map Burst.drop, m.pointerBefore, m.window)) = some ([9, 8, 6], 7, some ⟨.probe, 256⟩) ∧
      (t.drop 0 9).noBurst = 0 ∧ (t.drop 0 8).noBurst = 0 ∧ (t.drop 0 4).noBurst = 3 := by decide +kernel

/-- R92: the reasons for a keepalive, and the drops that get one behind a FIXED burst, in room for one. -/
theorem witness_GrantStagesShareTheRoom_by_keepalive :
    let r := fun (st : DropState) (f : DropEntry → DropEntry) q => (((litLeg .on).putDrop 5 (f (entryIn st))).putOrders q).leg 0
    let two := ((((withDrop .trimming).putDrop 3 (entryIn .trimming)).putDrop 9 (entryIn .serving)).putLane
      { lane5 with owner := 9, figures := .fixed 10, credit := none }).leg 0
    let b := ((⟨two.lanes, 57, [], [], []⟩ : Build).stage1 two).stage2 two 0
    (r .trimming id []).wantsKeepalive 1 5 = true ∧ (r .serving (fun e => { e with noBurst := 8 }) []).wantsKeepalive 1 5 = true ∧
      (r .awaiting (fun e => { e with noBurst := 7 }) []).wantsKeepalive 1 5 = false ∧
      (r .dormant (fun e => { e with wakeCount := some 0 }) []).wantsKeepalive 1 5 = true ∧
      (r .found id [awaitingOrder (.setDelay none) 1 0]).wantsKeepalive 1 5 = true ∧
      (r .found id [awaitingOrder (.setDelay none) 1 0]).wantsKeepalive 4000 5 = false ∧
      (r .found id [awaitingOrder (.setDelay none) 2 0]).wantsKeepalive 4000 5 = true ∧
      (r .hushed id [awaitingOrder (.setDelay none) 1 0]).wantsKeepalive 1 5 = false ∧
      (r .serving id [awaitingOrder (.sleep 16) 1 0]).eligible 5 = false ∧ two.eligible 9 = true ∧
      b.holders = [9, 3] ∧ b.room = 15 := by decide +kernel

/-- R110: the four ways a segment's reading ends, each behind one frame; R109, R111: a unit fault, and the frames of a lane the drop no
longer holds. -/
theorem witness_CleanWindowDelivers_by_frame :
    let m := { emptyMap 0 ⟨0, 7⟩ with empty := false, bursts := [⟨5, 0, 20, [⟨1, 0, 2⟩, ⟨2, 1, 2⟩]⟩] }
    let s := ((withDrop .serving).putLane lane5).receive m
    let f := plainBurst 5 80 [0, 3, 7, 8, 9, 0, 4, 1, 0, 1, 7, 0, 1, 8, 0, 0]
    let t := after (.grantedWindowEnd 0 ⟨true, some { f with header := { f.header with unitFault := true } }⟩) s
    readFrames 5 [0, 2, 1, 2, 9] = ([[1, 2]], 0) ∧ readFrames 7 [0, 2, 1, 2, 0, 0, 9] = ([[1, 2]], 0) ∧
      readFrames 7 [0, 2, 1, 2, 0x20, 0, 9] = ([[1, 2]], 1) ∧ readFrames 7 [0, 2, 1, 2, 0, 2, 9] = ([[1, 2]], 1) ∧
      classify ⟨5, 0, 20, [⟨1, 0, 2⟩, ⟨2, 1, 2⟩]⟩ ⟨true, some f⟩ = .clean ∧ f.header.unitFault = false ∧
      (t.leg 0).uplink.map UplinkFrame.data = [[7, 8, 9]] ∧ (t.leg 0).stats.upDiscarded = 3 ∧ (t.leg 0).stats.unitFaults = 1 ∧
      ((t.leg 0).histories[(5 : Drop)]).fault = some ⟨true, some ⟨0, 7⟩⟩ := by decide +kernel

/-- R74, R83, R87: templates that fit and that do not, and REUSED drops without a meter, with and without a lane. -/
theorem witness_CleanBurstsJudgeTheUnit_without_a_meter :
    let e := { entryIn .trimming with origin := some (.reused 9 .power) }
    let s := (((clean5 .trimming []).enrolFirst (enrolled 0 (some (0, 5)))).putDrop 5 e)
    let held := s.putLane lane5
    let t := after (.grantedWindowEnd 0 ⟨true, some (keepalive5 128 none false false)⟩) held
    (s.leg 0).HasRoomFor 5 [.assured 100 200] ∧ ¬(s.leg 0).HasRoomFor 5 [.fixed 1655] ∧ (s.leg 0).HasRoomFor 5 [.fixed 1654] ∧
      (s.drop 0 5).origin ≠ some .new ∧ s.meter 0 5 = none ∧ (s.leg 0).lanes.all Option.isNone = true ∧ (s.drop 0 5).enrolRef = some 0 ∧
      s.blocks.enrol[(0 : Fin 512)] = some (enrolled 0 (some (0, 5))) ∧ (held.leg 0).lanes[(0 : Fin 256)] = some lane5 ∧
      (t.drop 0 5).state = .serving ∧ (t.meter 0 5).map Meter.account = some 77 ∧
      (t.leg 0).lanes[(0 : Fin 256)] = some { lane5 with state := .binding, backlog := 0 } ∧
      (t.leg 0).orders = [OrderEntry.queued (.bindLanes none) (some 5)] := by
  unfold LegRecord.HasRoomFor
  decide +kernel

/-- R64, R66, R67: a SET_DELAY that finds no room is owed; an attempt is abandoned in a hunt, behind a change of reach, and where the entry
is no longer RANGING. -/
theorem witness_RangingWindowMeasures_without_room_and_abandoned :
    let m := mapFor (some ⟨.ranging, 6282⟩) (some ⟨9, 5, false, 7968⟩)
    let s := ((litLeg .on).putDrop 5 { entryIn .ranging with origin := some .new }).receive m
    let full := s.putOrders (List.replicate 40 (OrderEntry.queued (.sleep 16) (some 7)))
    let hunt := s.monitor fun m => { m with state := .hunting }
    let moved := s.mapLeg 0 fun r => { r with inFlight := r.inFlight.map fun m => { m with reachChanged := true } }
    let ended := fun s => after (.rangingWindowEnd 0 [plainBurst 5 13848 []]) s
    (s.drop 0 5).state = .ranging ∧ plainRoom (full.leg 0).orders = false ∧ ((ended full).leg 0).owed = [⟨5, .setDelay⟩] ∧
      ((ended full).drop 0 5).rtt = some 24 ∧ (hunt.leg 0).monitor.state.searching = true ∧ ((ended hunt).drop 0 5).state = .found ∧
      ((ended hunt).drop 0 5).rtt = some 100 ∧ ((ended moved).drop 0 5).rangingAttempts = 0 ∧ ((ended moved).leg 0).orders = [] ∧
      ((s.putDrop 5 (entryIn .retiring)).drop 0 5).state ≠ .ranging := by decide +kernel

/-- R135: a learning span without samples sets no reference, and the next learns again. -/
theorem witness_SpanEndIsEvaluated_without_samples :
    let sp := { Span.fresh true ⟨0, 0⟩ with position := 31, counts := ⟨9, 9, 9, 9⟩ }
    let s := (armed .watching sp).monitor fun m => { m with reference := none }
    let t := after (.spanEnd 0 { report9 with samples := [] }) s
    sp.learning = true ∧ (s.leg 0).monitor.settings.watchSpan ≤ sp.position + 1 ∧ sp.countFrom.notAfter report9.round = true ∧
      (t.leg 0).monitor.state = .watching ∧ (t.leg 0).monitor.reference = none ∧
      (t.leg 0).monitor.span.map Span.learning = some true := by decide +kernel

/-- R141: each way into HUNTING behind tails: mixed, TAIL disabled, not tripped, and a drop that cannot be checked. -/
theorem witness_SuspicionIsConfirmedAndNarrowed_by_tails :
    let sp := { Span.fresh false ⟨0, 0⟩ with position := 31, counts := ⟨4, 0, 2, 0⟩, tailDrop := some 5 }
    let s := fun (d : DropState) (sp : Span) (n : Nat) => ((armed .suspect sp).putDrop 5 (entryIn d)).monitor fun m =>
      { m with suspicion := some ⟨0, 9⟩, settings := { m.settings with thresholds := { m.settings.thresholds with tail := n } } }
    let r : RoundReport := ⟨⟨0, 265⟩, 0, none, [], [(.idle, 9)], 0, 0⟩
    let into := fun s => ((after (.spanEnd 0 r) s).leg 0).monitor.state
    into (s .serving sp 2) = .verifying ∧ into (s .serving { sp with mixed := true } 2) = .hunting ∧ into (s .serving sp 0) = .hunting ∧
      into (s .serving sp 3) = .hunting ∧ into (s .retiring sp 2) = .hunting ∧ into (s .quarantined sp 2) = .hunting := by decide +kernel

/-- R38, R43: with 47 orders the UNHUSH_ALL of a search that ends takes the last place; with 48 a LOST drop's leaving has it asked for. -/
theorem witness_DismissRetiresTheDrop_in_a_full_queue :
    let q := fun n => List.replicate n (OrderEntry.queued .mute (some 7))
    let s := (searching .hunting (stepRead .control 0)).putOrders (q 47)
    let lost := (((searching .hunting (stepRead .control 0)).putDrop 5 { entryIn .lost with hold := some 9 }).putOrders (q 48))
    (s.leg 0).monitor.endsWithout 5 = true ∧ plainCount (s.leg 0).orders < 40 ∧ (s.leg 0).orders.length < 48 ∧ s.takes 1 = true ∧
      ((after (.dismiss 1 0 5) s).leg 0).orders = q 47 ++ [OrderEntry.queued .unhushAll none] ∧
      (lost.leg 0).monitor.endsWithout 5 = true ∧ ((after (.dismiss 1 0 5) lost).leg 0).orders = q 48 ∧
      ((after (.dismiss 1 0 5) lost).leg 0).monitor.asks = [.unhush] := by decide +kernel

/-! ### Payloads and the rotation pointer -/

/-- R157: two frames end to end, each behind its 4 byte times of head, and fill of value 0 from behind the last to the end of the round. -/
theorem test_payload_carries_frames_then_fill :
    let h : RoundHeader := ⟨7, 0, 0, none, none, [], []⟩
    let r : DownstreamRound := ⟨h, [⟨5, false, [0xA1, 0xA2]⟩, ⟨9, true, [0xB1]⟩]⟩
    h.length = 20 ∧ r.payloadAt 0 = some (.head 5 false 2 0) ∧ r.payloadAt 3 = some (.head 5 false 2 3) ∧
      r.payloadAt 4 = some (.data 0xA1) ∧ r.payloadAt 5 = some (.data 0xA2) ∧ r.payloadAt 6 = some (.head 9 true 1 0) ∧
      r.payloadAt 10 = some (.data 0xB1) ∧ r.payloadAt 11 = some (.fill 0) ∧ r.payloadAt 127979 = some (.fill 0) ∧
      r.payloadAt 127980 = none := by decide +kernel

/-- R98, R101: drop 5, whose over-quota owner has no allowance, is admitted in stage 4, gets no beats and is refused, which moves the
pointer on to the next non-VACANT drop, 6, and not to drop 5; a drop refused in stage 4, with room 31, holds the pointer. -/
theorem test_pointer_goes_by_the_marks_of_stages_3_and_4 :
    let surplus : Lane := { lane5 with figures := .surplus 1 20, credit := none, backlog := 100 }
    let r := (((withDrop .serving).putLane surplus).putDrop 6 (entryIn .serving)).leg 0
    let r := { r with pointer := 5, control := { r.control with settings := { r.control.settings with upThrottle := 0 } } }
    let shut := (fullMap r (fun d => d == 5) ⟨0, 9⟩ none none).1
    let full := (fullMap r (fun _ => false) ⟨0, 9⟩ (some ⟨.probe, 7969⟩) none).1
    shut.refused = [5] ∧ shut.bursts.map (fun b => (b.drop, b.length)) = [(5, 16)] ∧ pointerMarks r 9 8000 = [] ∧ shut.pointerAfter = 6 ∧
      full.refused = [5] ∧ full.bursts = [] ∧ pointerMarks r 9 31 = [5] ∧ full.pointerAfter = 5 := by decide +kernel

/-- R96, R98, R101: in 40 beats drop 5 is admitted in stage 4 and drop 6 refused there; drop 5, without allowance, is marked behind the
second pass, and the pointer goes to drop 6 (log 43). -/
theorem test_pointer_passes_a_drop_of_stage_5_over :
    let surplus : Lane := { lane5 with figures := .surplus 1 20, credit := none, backlog := 100 }
    let r := (((withDrop .serving).putLane surplus).putDrop 6 (entryIn .serving)).leg 0
    let r := { r with
      pointer := 5
      control := { r.control with settings := { r.control.settings with upThrottle := 0 } }
      lanes := r.lanes.set 1 (some { surplus with owner := 6 }) }
    let m := (fullMap r (fun d => d == 5) ⟨0, 9⟩ (some ⟨.probe, 7960⟩) none).1
    m.refused = [5, 6] ∧ m.bursts.map Burst.drop = [5] ∧ pointerMarks r 9 40 = [6] ∧ m.pointerAfter = 6 := by decide +kernel

/-- R106, R66: an entry returned from RANGING to FOUND keeps its window history (log 56). -/
theorem test_return_to_found_keeps_the_history :
    let m := mapFor (some ⟨.ranging, 6282⟩) (some ⟨9, 5, false, 7968⟩)
    let s := ((litLeg .on).putDrop 5 { entryIn .ranging with origin := some .new }).receive m
    let s := s.mapLeg 0 fun r => { r with histories := r.histories.set 5 { History.empty with recent := [.clean], cleanRun := 1 } }
    let t := after (.rangingWindowEnd 0 []) s
    (t.drop 0 5).state = .found ∧ ((t.leg 0).histories[(5 : Drop)]).recent = [.clean] := by decide +kernel
end Sys2Proof.Machine
end

section
set_option Elab.async false -- one theorem after another: side by side they ask for more threads than the check's memory limit grants
/-! PROOFS. What the commands do to the blocks, said once: the events taken now, the events taken at the next boundary, the requests, and
the step rule by which a property of the blocks is kept by every step. -/

namespace Sys2Proof
open Machine

/-- The commands that are events taken now, with their work. -/
inductive Instr.Now : Instr → (Work → Work) → Prop
  | lock : Now .lockReached Work.lock
  | unlock : Now .lossOfLock Work.unlock
  | pulse : Now .pulseCapture Work.pulse
  | laserFault (l : Leg) : Now (.laserFaultAsserted l) fun w => w.laserFault l
  | laserFree (l : Leg) : Now (.laserFaultReleased l) fun w => w.mapControl l fun c => { c with laserFault := false }
  | windowEnds (l : Leg) (x : WindowLight) : Now (.grantedWindowEnd l x) fun w => w.windowEnds l x
  | lastMiss (l : Leg) (d : Drop) : Now (.missedCountLimit l d) fun w => w.lastMiss l d
  | lastDrift (l : Leg) (d : Drop) (v : Byte) : Now (.outOfBandRunLimit l d v) fun w => w.lastDrift l d v.toNat
  | discoveryEnds (l : Leg) (x : FrameLight) (as : List FoundAnnounce) :
      Now (.discoveryWindowEnd l x as) fun w => w.discoveryEnds l x as
  | rangingEnds (l : Leg) (bs : List FoundBurst) : Now (.rangingWindowEnd l bs) fun w => w.rangingEnds l bs
  | roundReceived (l : Leg) (x : FrameLight) : Now (.receiveRoundEnd l x) fun w => w.roundReceived l x
  | spanEnds (l : Leg) (r : RoundReport) : Now (.spanEnd l r) fun w => w.spanEnds l r
  | stepReads (l : Leg) (r : RoundReport) : Now (.stepReading l r) fun w => w.stepReads l r
  | frameArrives (tag : BitVec 32) (data : List Byte) : Now (.downstreamFrameArrival tag data) fun w => w.frameArrives tag data
  | writeHeld : Now .heldCloseWrite Work.writeHeld
  | completeRetirement (l : Leg) (d : Drop) : Now (.retiringVacated l d) fun w => w.completeRetirement l d
  | drained (l : Leg) : Now (.legDrained l) fun w => w.drained l

/-- The commands taken at the boundary that ends the round in progress, with their work (log 2). -/
inductive Instr.AtBoundary : Instr → (Work → Work) → Prop
  | endPreparing (l : Leg) : AtBoundary (.preparingEnd l) fun w => w.endPreparing l
  | endRetiming (l : Leg) : AtBoundary (.retimingEnd l) fun w => w.endRetiming l
  | recover (l : Leg) : AtBoundary (.faultRecovery l) fun w => w.recover l
  | holdExpires (l : Leg) (d : Drop) : AtBoundary (.lostHoldExpiry l d) fun w => w.holdExpires l d
  | discoveryDue (l : Leg) : AtBoundary (.discoveryDue l) fun w => w.discoveryDue l
  | wakeCheckDue (l : Leg) (d : Drop) : AtBoundary (.wakeCheckDue l d) fun w => w.wakeCheckDue l d
  | resendFallsDue (l : Leg) (d : Drop) : AtBoundary (.echoWaitResendDue l d) fun w => w.resendFallsDue l d
  | waitFails (l : Leg) (d : Drop) : AtBoundary (.orderFailed l d) fun w => w.waitFails l d
  | retryOrders (l : Leg) : AtBoundary (.orderRetry l) fun w => w.retryOrders l
  | suspectTimeout (l : Leg) : AtBoundary (.suspectTimeout l) fun w => w.suspectTimeout l
  | holdoffExpires (l : Leg) : AtBoundary (.holdoffExpiry l) fun w => w.holdoffExpires l

end Sys2Proof

namespace Sys2Proof.Machine

theorem exec_of_now {c : Instr} {f : Work → Work} (h : c.Now f) (s : State) : exec c s = .next (event f s) := by
  cases h <;> exact Eq.refl _

theorem exec_of_atBoundary {c : Instr} {f : Work → Work} (h : c.AtBoundary f) (s : State) : exec c s = whileReady f s := by
  cases h <;> exact Eq.refl _

theorem exec_of_request {c : Instr} {tag : Byte} {q : Request} (h : c.request? = some (tag, q)) (s : State) :
    exec c s = serve (kindOf q) tag (runRequest q) s := by
  unfold Instr.request? at h
  split at h
  all_goals cases h
  all_goals rfl

/-- The commands that are neither an event nor a request: the pin reset, the boundaries and the transactions of the port. -/
theorem Instr.kind_cases (c : Instr) :
    (∃ f, c.Now f) ∨ (∃ f, c.AtBoundary f) ∨ (∃ tag q, c.request? = some (tag, q)) ∨
      c = .pinReset ∨ c = .roundBoundary ∨ c = .announcementBlockBoundary ∨ c = .cycleBoundary ∨
      (∃ bytes, c = .writeTransactionEnd bytes) ∨ (∃ o, c = .badOpcodeTransaction o) ∨ c = .readOpcode ∨
      (∃ whole, c = .readTransactionEnd whole) ∨ c = .takeRequest := by
  cases c
  any_goals exact .inl ⟨_, by constructor⟩
  any_goals exact .inr (.inl ⟨_, by constructor⟩)
  any_goals exact .inr (.inr (.inl ⟨_, _, rfl⟩))
  all_goals exact .inr (.inr (.inr (by simp)))

/-- The blocks with the counters of the next round (R1). -/
def Blocks.atNextRound (b : Blocks) : Blocks := { b with time := b.time.nextRound }

/-- The blocks after a pin reset that leaves the LASER_FAULT inputs as the pins have them (R2, R17; log 16). -/
def Blocks.pinReset (b : Blocks) : Blocks :=
  { Blocks.reset with
    legs := Vector.ofFn fun l : Leg =>
      { LegRecord.reset l with
        control :=
          { (LegRecord.reset l).control with
            laserFault := b.legs[l].control.laserFault, faultSeen := b.legs[l].control.laserFault } } }

/-- The blocks after one more beat of a round (R1, log 4). -/
def Blocks.nextBeat (b : Blocks) : Blocks := { b with time := { b.time with beat := b.time.beat + 1 } }

theorem roundBoundary_blocks (s : State) :
    (roundBoundary s).blocks =
      if s.blocks.time.part = .ready then (Work.boundary (Work.start s.blocks.atNextRound)).blocks else s.blocks := by
  unfold roundBoundary
  split
  · exact event_blocks _ _
  · exact Eq.refl _

/-- What a command of the port that is no request leaves: the blocks. -/
theorem handOver_blocks (kind tag : Byte) (mark : Bool) (h : Handler) (s : State) :
    (handOver kind tag mark h s).blocks = s.blocks ∨
      (handOver kind tag mark h s).blocks = (h s.port (Work.start s.blocks)).work.blocks := by
  unfold handOver
  dsimp only
  split
  · exact .inl rfl
  · split
    · exact .inl rfl
    · exact .inr rfl

/-- A property of the blocks that holds behind the pin reset, and that beats, boundaries, events and requests each keep. -/
structure Blocks.Kept (P : Blocks → Prop) : Prop where
  pinReset   : ∀ b, P b → P b.pinReset
  beat       : ∀ b, P b → b.time.beat < 7999 → P b.nextBeat
  boundary   : ∀ b, P b → b.time.part = .ready → P (Work.boundary (Work.start b.atNextRound)).blocks
  now        : ∀ c f b, Instr.Now c f → P b → P (f (Work.start b)).blocks
  atBoundary : ∀ c f b, Instr.AtBoundary c f → P b → b.time.part = .ready → P (f (Work.atNextBoundary b)).blocks
  request    : ∀ q p b, P b → P (runRequest q p (Work.start b)).work.blocks

section
variable {P : Blocks → Prop} (hP : Blocks.Kept P) {s t : State}
include hP

theorem Blocks.Kept.roundBoundary (h : P s.blocks) : P (roundBoundary s).blocks := by
  rw [roundBoundary_blocks]
  split
  · next hr => exact hP.boundary _ h hr
  · exact h

theorem Blocks.Kept.handOver (kind tag : Byte) (mark : Bool) (q : Request) (h : P s.blocks) :
    P (handOver kind tag mark (runRequest q) s).blocks := by
  rcases handOver_blocks kind tag mark (runRequest q) s with e | e <;> rw [e]
  · exact h
  · exact hP.request q _ _ h

theorem Blocks.Kept.takeRecord (r : InRecord) (h : P s.blocks) : P (takeRecord r s).blocks := by
  unfold Machine.takeRecord
  split
  · exact h
  · exact h
  · exact hP.handOver _ _ _ _ h

/-- Every command keeps what beats, boundaries, events and requests keep. -/
theorem Blocks.Kept.exec {c : Instr} (h : P s.blocks) (he : exec c s = .next t) : P t.blocks := by
  rcases Instr.kind_cases c with ⟨f, hf⟩ | ⟨f, hf⟩ | ⟨tag, q, hq⟩ | rfl | rfl | rfl | rfl | ⟨bytes, rfl⟩ | ⟨o, rfl⟩ | rfl |
    ⟨whole, rfl⟩ | rfl
  · rw [exec_of_now hf] at he
    obtain rfl := Host.Outcome.next.inj he
    exact hP.now c f _ hf h
  · rw [exec_of_atBoundary hf, whileReady] at he
    obtain rfl := Host.Outcome.next.inj he
    split
    · next hr => exact hP.atBoundary c f _ hf h hr
    · exact h
  · rw [exec_of_request hq, serve] at he
    obtain rfl := Host.Outcome.next.inj he
    split
    · exact hP.handOver _ _ _ _ h
    · exact h
  · obtain rfl := Host.Outcome.next.inj he
    exact hP.pinReset _ h
  · obtain rfl := Host.Outcome.next.inj he
    exact hP.roundBoundary h
  · obtain rfl := Host.Outcome.next.inj he
    split
    · exact hP.roundBoundary h
    · exact h
  · obtain rfl := Host.Outcome.next.inj he
    split
    · exact hP.roundBoundary h
    · exact h
  · obtain rfl := Host.Outcome.next.inj he
    exact h
  · obtain rfl := Host.Outcome.next.inj he
    split <;> exact h
  · obtain rfl := Host.Outcome.next.inj he
    exact h
  · obtain rfl := Host.Outcome.next.inj he
    exact h
  · obtain rfl := Host.Outcome.next.inj he
    split
    · split
      · exact hP.takeRecord _ h
      · exact h
    · exact h

/-- Every step keeps what beats, boundaries, events and requests keep. -/
theorem Blocks.Kept.step (h : P s.blocks) (he : step s = .next t) : P t.blocks := by
  unfold Machine.step at he
  split at he
  · obtain rfl := Host.Outcome.next.inj he
    unfold idleBeat
    split
    · split
      · exact hP.roundBoundary h
      · next hb => exact hP.beat _ h (by omega)
    · exact h
  · next c cs _ => exact hP.exec (s := { s with pending := cs }) h he

end

end Sys2Proof.Machine
end

section
set_option Elab.async false -- one theorem after another: side by side they ask for more threads than the check's memory limit grants
/-! PROOFS. What a stretch of work on one leg may do, said once as a preorder: `Work.Runs l σ w₀ w`. The scope `σ` says what is allowed;
`Work.Reach` adds that an entry in use is one the scope allows, so that the guards of the operations can be used where they stand. -/

namespace Sys2Proof.Machine

/-! ### Lane tables that put no more load on the FIXED limits (R83) -/

/-- A lane stands for another without adding to the FIXED load: same owner, no more FIXED beats, FIXED only if the other is. -/
structure Lane.Under (y x : Lane) : Prop where
  owner : y.owner = x.owner
  beats : y.fixedBeats ≤ x.fixedBeats
  fixed : y.isFixed = true → x.isFixed = true

theorem Lane.Under.refl (x : Lane) : x.Under x := ⟨rfl, le_rfl, id⟩

theorem Lane.Under.trans {x y z : Lane} (h : z.Under y) (k : y.Under x) : z.Under x :=
  ⟨h.owner.trans k.owner, h.beats.trans k.beats, fun hz => k.fixed (h.fixed hz)⟩

/-- A lane with the owner and the figures of another. -/
theorem Lane.Under.of_eq {y x : Lane} (ho : y.owner = x.owner) (hf : y.figures = x.figures) : y.Under x :=
  ⟨ho, by simp [Lane.fixedBeats, hf], by simp [Lane.isFixed, hf]⟩

/-- A lane table that has no lane where another has none, and none that adds to its FIXED load. -/
def LanesUnder (t' t : Vector (Option Lane) 256) : Prop :=
  ∀ (n : Fin 256) (y : Lane), t'[n] = some y → ∃ x, t[n] = some x ∧ y.Under x

theorem LanesUnder.refl (t : Vector (Option Lane) 256) : LanesUnder t t := fun _ y h => ⟨y, h, .refl y⟩

theorem LanesUnder.trans {t t' t'' : Vector (Option Lane) 256} (h : LanesUnder t'' t') (k : LanesUnder t' t) : LanesUnder t'' t := by
  intro n z hz
  obtain ⟨y, hy, hzy⟩ := h n z hz
  obtain ⟨x, hx, hyx⟩ := k n y hy
  exact ⟨x, hx, hzy.trans hyx⟩

/-- A table under an empty one is empty. -/
theorem LanesUnder.empty {t' t : Vector (Option Lane) 256} (h : LanesUnder t' t) (ht : ∀ n : Fin 256, t[n] = none) (n : Fin 256) :
    t'[n] = none := by
  cases hy : t'[n] with
  | none => rfl
  | some y =>
    obtain ⟨x, hx, -⟩ := h n y hy
    simp [ht n] at hx

theorem LanesUnder.set_none {t : Vector (Option Lane) 256} (n : Fin 256) : LanesUnder (t.set n.val none) t := by
  intro m y hy
  by_cases hm : n.val = m.val
  · simp [hm] at hy
  · exact ⟨y, by simpa [Vector.getElem_set, hm] using hy, .refl y⟩

theorem LanesUnder.set_some {t : Vector (Option Lane) 256} {n : Fin 256} {x y : Lane} (hx : t[n] = some x) (h : y.Under x) :
    LanesUnder (t.set n.val (some y)) t := by
  intro m z hz
  by_cases hm : n.val = m.val
  · obtain rfl : n = m := Fin.ext hm
    obtain rfl : y = z := by simpa using hz
    exact ⟨x, hx, h⟩
  · exact ⟨z, by simpa [Vector.getElem_set, hm] using hz, .refl z⟩

/-- A table whose lanes are each changed within their owner and figures. -/
theorem LanesUnder.map {t : Vector (Option Lane) 256} (f : Lane → Lane) (h : ∀ x, (f x).Under x) :
    LanesUnder (t.map fun o => o.map f) t := by
  intro n y hy
  simp only [Fin.getElem_fin, Vector.getElem_map, Option.map_eq_some_iff] at hy
  obtain ⟨x, hx, rfl⟩ := hy
  exact ⟨x, hx, h x⟩

theorem LanesUnder.filter {t : Vector (Option Lane) 256} (p : Lane → Bool) : LanesUnder (t.map fun o => o.filter p) t := by
  intro n y hy
  simp only [Fin.getElem_fin, Vector.getElem_map, Option.filter_eq_some_iff] at hy
  exact ⟨y, hy.1, .refl y⟩

theorem mem_laneList {t : Vector (Option Lane) 256} {x : Lane} : x ∈ laneList t ↔ ∃ n : Fin 256, t[n] = some x := by
  simp only [laneList, List.mem_filterMap, id, exists_eq_right, Vector.mem_toList_iff, Vector.mem_iff_getElem, Fin.exists_iff,
    Fin.getElem_fin]

/-- The FIXED sum, place by place. -/
theorem fixedSum_eq (t : Vector (Option Lane) 256) :
    fixedSum t = (t.toList.map fun o => (o.map Lane.fixedBeats).getD 0).sum := by
  change ((t.toList.filterMap fun o => o).map Lane.fixedBeats).sum = _
  induction t.toList with
  | nil => rfl
  | cons o os ih => cases o <;> simp [ih]

theorem fixedSum_le {t' t : Vector (Option Lane) 256} (h : LanesUnder t' t) : fixedSum t' ≤ fixedSum t := by
  rw [fixedSum_eq, fixedSum_eq]
  refine List.Forall₂.sum_le_sum (List.forall₂_map_left_iff.mpr (List.forall₂_map_right_iff.mpr ?_))
  refine List.forall₂_iff_get.mpr ⟨by simp, fun i hi hj => ?_⟩
  have hi : i < 256 := by simpa using hi
  simp only [List.get_eq_getElem, Vector.getElem_toList]
  cases hy : t'[i] with
  | none => simp
  | some y =>
    obtain ⟨x, hx, hxy⟩ := h ⟨i, hi⟩ y hy
    have hx : t[i] = some x := hx
    simpa [hx] using hxy.beats

theorem fixedDrops_le {t' t : Vector (Option Lane) 256} (h : LanesUnder t' t) : fixedDrops t' ≤ fixedDrops t := by
  refine List.Sublist.length_le (List.monotone_filter_right _ fun d hd => ?_)
  simp only [List.any_eq_true, Bool.and_eq_true, beq_iff_eq] at hd ⊢
  obtain ⟨y, hy, hf, ho⟩ := hd
  obtain ⟨n, hn⟩ := mem_laneList.mp hy
  obtain ⟨x, hx, hyx⟩ := h n y hn
  exact ⟨x, mem_laneList.mpr ⟨n, hx⟩, hyx.fixed hf, hyx.owner ▸ ho⟩

theorem fixedLimitsHold_iff {t : Vector (Option Lane) 256} {reach : Nat} :
    fixedLimitsHold t reach = true ↔ fixedSum t + 16 * fixedDrops t ≤ fixedLimit reach ∧ fixedDrops t ≤ 32 := by
  simp only [fixedLimitsHold, Bool.and_eq_true, decide_eq_true_eq]
  rfl

/-- The FIXED limits pass to a table that adds no load. -/
theorem fixedLimitsHold_of_under {t' t : Vector (Option Lane) 256} {reach : Nat} (h : LanesUnder t' t)
    (ht : fixedLimitsHold t reach = true) : fixedLimitsHold t' reach = true := by
  rw [fixedLimitsHold_iff] at ht ⊢
  have hs := fixedSum_le h
  have hd := fixedDrops_le h
  exact ⟨by omega, by omega⟩

/-! ### The control record but for the end of draining -/

/-- A control record with DRAINING read as OFF: what every operation of a drop leaves of it, since the last entry that becomes VACANT
ends DRAINING (R13). -/
def LegControl.service (c : LegControl) : LegControl :=
  if c.state = .draining then { c with state := .off, cause := none, roundsLeft := 0 } else c

theorem LegControl.service_of_ne {c : LegControl} (h : c.state ≠ .draining) : c.service = c := if_neg h

@[simp] theorem LegControl.service_settings (c : LegControl) : c.service.settings = c.settings := by
  unfold LegControl.service; split <;> rfl

@[simp] theorem LegControl.service_txen (c : LegControl) : c.service.txen = c.txen := by
  unfold LegControl.service; split <;> rfl

/-- A record with the service of one in a state other than OFF and DRAINING is that one. -/
theorem LegControl.eq_of_service {c c' : LegControl} (h : c'.service = c.service) (hoff : c.state ≠ .off)
    (hdrain : c.state ≠ .draining) : c' = c := by
  rw [LegControl.service_of_ne hdrain] at h
  by_cases hd : c'.state = .draining
  · rw [LegControl.service, if_pos hd] at h
    exact absurd (congrArg LegControl.state h).symm hoff
  · rwa [LegControl.service_of_ne hd] at h

/-- Whether a leg is in OFF or DRAINING. -/
def LegState.closed : LegState → Bool
  | .off | .draining => true
  | _ => false

@[simp] theorem LegControl.service_closed (c : LegControl) : c.service.state.closed = c.state.closed := by
  unfold LegControl.service
  split
  · next h => simp [h, LegState.closed]
  · rfl

@[simp] theorem LegControl.service_live (c : LegControl) : c.service.state.live = c.state.live := by
  unfold LegControl.service
  split
  · next h => simp [h, LegState.live]
  · rfl

/-! ### The scope of a stretch of work -/

/-- The states of an entry in an emptied leg: VACANT and RETIRING (R12, R13). -/
def DropState.resting : DropState → Bool
  | .vacant | .retiring => true
  | _ => false

/-- What a stretch of work on a leg may do. -/
structure Scope where
  /-- An entry may leave VACANT and RETIRING, and lanes may be made. -/
  inUse : Prop
  /-- The monitor may change its state and its spans. -/
  armed : Prop
  /-- An order may begin to await its echo. -/
  sends : Prop
  /-- The stranger list may change. -/
  hears : Prop
  /-- The drops whose meters may change and be written. -/
  touches : Drop → Prop
  /-- The causes with which meters may be written. -/
  causes : CloseCause → Prop

/-- The scope in which everything is allowed. -/
def Scope.all : Scope := ⟨True, True, True, True, fun _ => True, fun _ => True⟩

/-- A monitor that is let be: it owes the learning span it owed, and out of a search it keeps its state and its span. -/
structure Monitor.Calm (m' m : Monitor) : Prop where
  owed : m'.owedLearning = m.owedLearning
  idle : m.state.searching = false → m'.state = m.state ∧ m'.span = m.span

/-- What the work of a drop leaves of a leg: the control record but for the end of DRAINING, the announcement block and its host bytes, the
round being sent, the maps and the FIFO. -/
def LegRecord.base (r : LegRecord) :
    LegControl × Vector Byte 64 × Vector Byte 40 × Option DownstreamRound × Option GrantMap × List InFlight × List Frame :=
  (r.control.service, r.block, r.hostBytes, r.sending, r.keptMap, r.inFlight, r.fifo)

/-- What a stretch of work in a scope makes of the record of its leg. -/
structure LegRecord.Steps (σ : Scope) (r r' : LegRecord) : Prop where
  base : r'.base = r.base := by rfl
  drops : σ.inUse ∨ ∀ d : Drop, r.drops[d].state.resting = true → r'.drops[d].state.resting = true := by exact .inr fun _ h => h
  lanes : LanesUnder r'.lanes r.lanes ∨
    σ.inUse ∧ (fixedLimitsHold r.lanes r.control.settings.reach = true →
      fixedLimitsHold r'.lanes r.control.settings.reach = true) := by exact .inl (.refl _)
  monitor : σ.armed ∨ r'.monitor.Calm r.monitor := by exact .inr ⟨rfl, fun _ => ⟨rfl, rfl⟩⟩
  orders : σ.sends ∨
    ∀ e ∈ r'.orders, e.awaiting = true → ∃ x ∈ r.orders, x.awaiting = true ∧ x.target = e.target := by
      exact .inr fun e he ha => ⟨e, he, ha, rfl⟩
  strangers : σ.hears ∨ r'.strangers = r.strangers := by exact .inr rfl
  meters : ∀ d : Drop, σ.touches d ∨ r.meters[d] = none ∨ r'.meters[d] = r.meters[d] := by exact fun _ => .inr (.inr rfl)

theorem LegRecord.Steps.refl (σ : Scope) (r : LegRecord) : r.Steps σ r := {}

theorem LegRecord.Steps.settings {σ : Scope} {r r' : LegRecord} (h : r.Steps σ r') : r'.control.settings = r.control.settings := by
  have := congrArg (·.1.settings) h.base
  simpa [LegRecord.base] using this

theorem LegRecord.Steps.trans {σ : Scope} {r r' r'' : LegRecord} (h : r.Steps σ r') (k : r'.Steps σ r'') : r.Steps σ r'' where
  base := k.base.trans h.base
  drops := by
    rcases h.drops with hu | h
    · exact .inl hu
    · exact k.drops.imp_right fun k d hd => k d (h d hd)
  lanes := by
    have kl := k.lanes
    rw [h.settings] at kl
    rcases h.lanes, kl with ⟨hl | ⟨hu, hl⟩, kl | ⟨ku, kl⟩⟩
    · exact .inl (kl.trans hl)
    · exact .inr ⟨ku, fun hr => kl (fixedLimitsHold_of_under hl hr)⟩
    · exact .inr ⟨hu, fun hr => fixedLimitsHold_of_under kl (hl hr)⟩
    · exact .inr ⟨hu, fun hr => kl (hl hr)⟩
  monitor := by
    rcases h.monitor with ha | h
    · exact .inl ha
    · refine k.monitor.imp_right fun k => ⟨k.owed.trans h.owed, fun hs => ?_⟩
      obtain ⟨h1, h2⟩ := h.idle hs
      obtain ⟨k1, k2⟩ := k.idle (h1 ▸ hs)
      exact ⟨k1.trans h1, k2.trans h2⟩
  orders := by
    rcases h.orders with hs | h
    · exact .inl hs
    · refine k.orders.imp_right fun k e he ha => ?_
      obtain ⟨x, hx, hxa, hxt⟩ := k e he ha
      obtain ⟨y, hy, hya, hyt⟩ := h x hx hxa
      exact ⟨y, hy, hya, hyt.trans hxt⟩
  strangers := by
    rcases h.strangers with hs | h
    · exact .inl hs
    · exact k.strangers.imp_right fun k => k.trans h
  meters d := by
    rcases h.meters d with ht | hn | h
    · exact .inl ht
    · exact .inr (.inl hn)
    · rw [← h]; exact k.meters d

/-- What work on leg `l` leaves and adds outside the leg: the stamp, the clock and every other leg stay, notices are raised behind those
raised, and journal entries are written behind those written. -/
structure Work.Logs (l : Leg) (σ : Scope) (w₀ w : Work) : Prop where
  outside : w.outside l = w₀.outside l
  raised : w₀.raised <+: w.raised
  cursor : w.blocks.journal.cursor = w₀.blocks.journal.cursor ∧ w.blocks.journal.watermark = w₀.blocks.journal.watermark
  written : ∃ new, w.blocks.journal.entries = w₀.blocks.journal.entries ++ new ∧
    w.blocks.journal.nextSeq = w₀.blocks.journal.nextSeq + new.length ∧
    ∀ e ∈ new, e.leg = l ∧ σ.touches e.drop ∧ σ.causes e.cause ∧ e.stop = w₀.stamp

theorem Work.Logs.refl (l : Leg) (σ : Scope) (w : Work) : w.Logs l σ w := ⟨rfl, List.prefix_refl _, ⟨rfl, rfl⟩, [], by simp⟩

theorem Work.Logs.stamp {l : Leg} {σ : Scope} {w₀ w : Work} (h : w₀.Logs l σ w) : w.stamp = w₀.stamp := Work.outside_stamp h.outside

theorem Work.Logs.trans {l : Leg} {σ : Scope} {w₀ w₁ w₂ : Work} (h : w₀.Logs l σ w₁) (k : w₁.Logs l σ w₂) : w₀.Logs l σ w₂ where
  outside := k.outside.trans h.outside
  raised := h.raised.trans k.raised
  cursor := ⟨k.cursor.1.trans h.cursor.1, k.cursor.2.trans h.cursor.2⟩
  written := by
    obtain ⟨xs, hx, hs, hw⟩ := h.written
    obtain ⟨ys, ky, ks, kw⟩ := k.written
    refine ⟨xs ++ ys, by simp [ky, hx], by simp [ks, hs, Nat.add_assoc], fun e he => ?_⟩
    rcases List.mem_append.mp he with he | he
    · exact hw e he
    · have := kw e he
      rwa [h.stamp] at this

/-- A change of the leg's record adds nothing outside it. -/
theorem Work.Logs.mapLeg {l : Leg} {σ : Scope} {w₀ w : Work} {f : LegRecord → LegRecord} (h : w₀.Logs l σ w) :
    w₀.Logs l σ (w.mapLeg l f) := h.trans ⟨w.mapLeg_outside l f, List.prefix_refl _, ⟨rfl, rfl⟩, [], by simp⟩

theorem Work.Logs.raise {l : Leg} {σ : Scope} {w₀ w : Work} {a : Option Leg} {b : Option Drop} {n : NoticeBody}
    (h : w₀.Logs l σ w) : w₀.Logs l σ (w.raise a b n) := h.trans ⟨rfl, List.prefix_append _ _, ⟨rfl, rfl⟩, [], by simp⟩

/-- What a stretch of work in a scope on leg `l` makes of the work: what it adds outside the leg, and the leg's record within the scope. -/
structure Work.Runs (l : Leg) (σ : Scope) (w₀ w : Work) : Prop extends Work.Logs l σ w₀ w where
  leg : (w₀.leg l).Steps σ (w.leg l)

theorem Work.Runs.refl (l : Leg) (σ : Scope) (w : Work) : w.Runs l σ w := ⟨.refl l σ w, .refl _ _⟩

theorem Work.Runs.trans {l : Leg} {σ : Scope} {w₀ w₁ w₂ : Work} (h : w₀.Runs l σ w₁) (k : w₁.Runs l σ w₂) : w₀.Runs l σ w₂ :=
  ⟨h.toLogs.trans k.toLogs, h.leg.trans k.leg⟩

/-- The work `w` was reached from `w₀` in a scope on leg `l`, and an entry in use on the leg is one the scope allows. -/
structure Work.Reach (l : Leg) (σ : Scope) (w₀ w : Work) : Prop where
  runs : w₀.Runs l σ w
  used : ∀ d : Drop, (w.drop l d).state.resting = false → σ.inUse

namespace Work.Reach

variable {l : Leg} {σ : Scope} {w₀ w : Work}

/-- Nothing done yet, in a scope that allows entries in use. -/
theorem refl (hu : σ.inUse) : Reach l σ w w := ⟨.refl l σ w, fun _ _ => hu⟩

/-- Nothing done yet, where the scope allows entries in use if there is one. -/
theorem start (h : ∀ d : Drop, (w.drop l d).state.resting = false → σ.inUse) : Reach l σ w w := ⟨.refl l σ w, h⟩

theorem stamp (h : Reach l σ w₀ w) : w.stamp = w₀.stamp := h.runs.stamp

theorem step {w' : Work} (h : Reach l σ w₀ w) (k : w.Runs l σ w') : Reach l σ w₀ w' where
  runs := h.runs.trans k
  used d hd := by
    rcases k.leg.drops with hu | hk
    · exact hu
    · refine h.used d ?_
      cases hr : (w.drop l d).state.resting with
      | false => rfl
      | true => exact absurd (hk d hr) (by rw [show (w'.leg l).drops[d] = w'.drop l d from rfl, hd]; simp)

/-- A change of the leg's record within the scope. -/
theorem mapLeg {f : LegRecord → LegRecord} (h : Reach l σ w₀ w) (hf : (w.leg l).Steps σ (f (w.leg l)) := by exact {}) :
    Reach l σ w₀ (w.mapLeg l f) :=
  h.step
    { outside := mapLeg_outside w l f
      leg := by rwa [leg_mapLeg_self]
      raised := List.prefix_refl _
      cursor := ⟨rfl, rfl⟩
      written := ⟨[], by simp⟩ }

theorem raise {a : Option Leg} {b : Option Drop} {n : NoticeBody} (h : Reach l σ w₀ w) : Reach l σ w₀ (w.raise a b n) :=
  h.step
    { outside := rfl
      leg := .refl _ _
      raised := List.prefix_append _ _
      cursor := ⟨rfl, rfl⟩
      written := ⟨[], by simp⟩ }

theorem mapEnrol {i : Fin 512} {f : EnrolEntry → EnrolEntry} (h : Reach l σ w₀ w) : Reach l σ w₀ (w.mapEnrol i f) :=
  h.step
    { outside := rfl
      leg := .refl _ _
      raised := List.prefix_refl _
      cursor := ⟨rfl, rfl⟩
      written := ⟨[], by simp⟩ }

/-- The armed flag of the journal changed. -/
theorem mapArmed {b : Bool} (h : Reach l σ w₀ w) : Reach l σ w₀ (w.mapJournal fun j => { j with armed := b }) :=
  h.step
    { outside := rfl
      leg := .refl _ _
      raised := List.prefix_refl _
      cursor := ⟨rfl, rfl⟩
      written := ⟨[], by simp⟩ }

theorem mapDrop {d : Drop} {f : DropEntry → DropEntry} (h : Reach l σ w₀ w)
    (hf : σ.inUse ∨ ((w.drop l d).state.resting = true → (f (w.drop l d)).state.resting = true) := by exact .inr id) :
    Reach l σ w₀ (w.mapDrop l d f) :=
  h.mapLeg
    { drops := hf.imp_right fun hf c hc => by
        by_cases hdc : d.val = c.val
        · obtain rfl : d = c := Fin.ext hdc
          simpa [Work.drop] using hf hc
        · simpa [Vector.getElem_set, hdc] using hc }

theorem setMeter {d : Drop} {m : Option Meter} (h : Reach l σ w₀ w) (hd : σ.touches d ∨ w.meter l d = none) :
    Reach l σ w₀ (w.setMeter l d m) :=
  h.mapLeg
    { meters := fun c => by
        by_cases hdc : d.val = c.val
        · obtain rfl : d = c := Fin.ext hdc
          exact hd.imp_right .inl
        · exact .inr (.inr (by simp [hdc])) }

theorem mapLanesOf {d : Drop} {f : Lane → Lane} (h : Reach l σ w₀ w) (hf : ∀ x, (f x).Under x) :
    Reach l σ w₀ (w.mapLanesOf l d f) :=
  h.mapLeg
    { lanes := .inl (.map _ fun x => by
        split
        · exact hf x
        · exact .refl x) }

theorem mapMonitor {f : Monitor → Monitor} (h : Reach l σ w₀ w)
    (hf : σ.armed ∨ (f (w.leg l).monitor).Calm (w.leg l).monitor := by exact .inr ⟨rfl, fun _ => ⟨rfl, rfl⟩⟩) :
    Reach l σ w₀ (w.mapMonitor l f) :=
  h.mapLeg { monitor := hf }

theorem mapStats {f : WindowStats → WindowStats} (h : Reach l σ w₀ w) : Reach l σ w₀ (w.mapStats l f) := h.mapLeg

theorem setState {d : Drop} {st : DropState} (h : Reach l σ w₀ w) (hu : σ.inUse) : Reach l σ w₀ (w.setState l d st) :=
  h.mapDrop (.inl hu)

theorem raiseDropState {d : Drop} {m : Option Bool} (h : Reach l σ w₀ w) : Reach l σ w₀ (w.raiseDropState l d m) := h.raise

/-- What every operation of a fold keeps reached. -/
theorem foldl {α : Type} {xs : List α} {f : Work → α → Work} (h : Reach l σ w₀ w)
    (hf : ∀ w, ∀ x ∈ xs, Reach l σ w₀ w → Reach l σ w₀ (f w x)) : Reach l σ w₀ (xs.foldl f w) :=
  List.foldlRecOn xs f h fun _ hb x hx => hf _ x hx hb

theorem forDrops {ds : List Drop} {f : Drop → Work → Work} (h : Reach l σ w₀ w)
    (hf : ∀ w, ∀ d ∈ ds, Reach l σ w₀ w → Reach l σ w₀ (f d w)) : Reach l σ w₀ (forDrops ds f w) := h.foldl hf

end Work.Reach

end Sys2Proof.Machine
end

section
set_option Elab.async false -- one theorem after another: side by side they ask for more threads than the check's memory limit grants
/-! PROOFS. Every operation on a leg stays in its scope: one lemma per operation, in the order of the model's definitions. -/

namespace Sys2Proof.Machine

/-! ### The lanes of a drop changed within their owner and figures -/

theorem Lane.suspend_under (x : Lane) : x.suspend.Under x := by
  unfold Lane.suspend; split
  · exact .refl x
  · exact .of_eq rfl rfl

theorem Lane.ownerServes_under (x : Lane) : x.ownerServes.Under x := by
  unfold Lane.ownerServes; split
  · exact .of_eq rfl rfl
  · exact .refl x

theorem Lane.ownerLeaves_under (x : Lane) : x.ownerLeaves.Under x := by
  unfold Lane.ownerLeaves; split
  · exact x.suspend_under
  · exact .refl x

theorem Lane.noCredit_under (x : Lane) : x.noCredit.Under x := .of_eq rfl rfl

theorem Lane.ownerGone_under (x : Lane) : x.ownerGone.Under x := x.suspend.noCredit_under.trans x.suspend_under

theorem Lane.rebind_under (x : Lane) : x.rebind.Under x := .of_eq rfl rfl

theorem Lane.bound_under (x : Lane) (b : Bool) : (x.bound b).Under x := by
  unfold Lane.bound; split
  · split
    · exact .of_eq rfl rfl
    · exact x.suspend_under
  · exact .refl x

/-! ### What does not touch the monitor -/

section
variable (w : Work) (l : Leg) (d : Drop)

@[simp] theorem Work.openMeter_monitor : ((w.openMeter l d).leg l).monitor = (w.leg l).monitor := by
  unfold Work.openMeter; split
  · simp [Work.setMeter_eq]
  · rfl

@[simp] theorem Work.toServing_monitor : ((w.toServing l d).leg l).monitor = (w.leg l).monitor := by
  simp [Work.toServing, Work.mapLanesOf, Work.mapDrop_eq]

@[simp] theorem Work.wakeUp_monitor : ((w.wakeUp l d).leg l).monitor = (w.leg l).monitor := by
  simp only [Work.wakeUp, Work.raiseDropState, Work.raise_leg, Work.removeOrders, Work.mapDrop_eq, Work.leg_mapLeg_self,
    Work.toServing_monitor]

@[simp] theorem Work.unhushDrop_monitor : ((w.unhushDrop l d).leg l).monitor = (w.leg l).monitor := by
  unfold Work.unhushDrop
  split
  · rfl
  · split
    · split <;> simp
    · dsimp only
      split <;> simp [Work.raiseDropState, Work.mapLanesOf, Work.mapDrop_eq]

@[simp] theorem Work.unhushAll_monitor (keep : Option Drop) : ((w.unhushAll l keep).leg l).monitor = (w.leg l).monitor :=
  forDrops_keeps (fun w => (w.leg l).monitor) _ _ (fun c w => w.unhushDrop_monitor l c) w

@[simp] theorem Work.dropStepAsks_monitor_state : ((w.dropStepAsks l).leg l).monitor.state = (w.leg l).monitor.state := by
  simp [Work.dropStepAsks, Work.mapMonitor_eq]

@[simp] theorem Work.queueUnhush_monitor_state : ((w.queueUnhush l).leg l).monitor.state = (w.leg l).monitor.state := by
  unfold Work.queueUnhush; split <;> simp [Work.queueOrder_eq, Work.mapMonitor_eq]

end

/-! ### Orders that await nothing new -/

theorem orders_filter {q : List OrderEntry} (p : OrderEntry → Bool) :
    ∀ e ∈ q.filter p, e.awaiting = true → ∃ x ∈ q, x.awaiting = true ∧ x.target = e.target :=
  fun e he ha => ⟨e, List.mem_of_mem_filter he, ha, rfl⟩

theorem orders_map {q : List OrderEntry} (f : OrderEntry → OrderEntry)
    (hf : ∀ e, (f e).awaiting = true → e.awaiting = true ∧ (f e).target = e.target) :
    ∀ e ∈ q.map f, e.awaiting = true → ∃ x ∈ q, x.awaiting = true ∧ x.target = e.target := by
  intro e he ha
  obtain ⟨x, hx, rfl⟩ := List.mem_map.mp he
  obtain ⟨h1, h2⟩ := hf x ha
  exact ⟨x, hx, h1, h2.symm⟩

theorem OrderEntry.tick_awaiting (e : OrderEntry) (k : Nat) (p : Drop → Bool) : (e.tick k p).awaiting = e.awaiting := by
  unfold OrderEntry.tick; split <;> rfl

theorem OrderEntry.tick_target (e : OrderEntry) (k : Nat) (p : Drop → Bool) : (e.tick k p).target = e.target := by
  unfold OrderEntry.tick; split <;> rfl

/-! ### The stages of an operation, named -/

/-- The end of a search but for the monitor's record: the verdict's notice, the UNHUSH_ALL and the return of the HUSHED entries (R149). -/
def Work.endSearch (w : Work) (l : Leg) (verdict : NoticeBody) : Work :=
  (((w.raise (some l) none verdict).dropStepAsks l).queueUnhush l).unhushAll l none

theorem Work.endSearch_monitor_state (w : Work) (l : Leg) (n : NoticeBody) :
    ((w.endSearch l n).leg l).monitor.state = (w.leg l).monitor.state := by
  unfold Work.endSearch
  rw [unhushAll_monitor, queueUnhush_monitor_state, dropStepAsks_monitor_state, raise_leg]

/-- The end of a hunt is the end of the search, then HOLDOFF with the verdict recorded (R149). -/
theorem Work.endHunt_eq (w : Work) (l : Leg) (conclusive : Bool) : ∃ verdict last,
    w.endHunt l conclusive = (w.endSearch l verdict).mapMonitor l fun m =>
      { m.idle .holdoff with holdOffLeft := some (m.settings.holdOff * 4096), lastVerdict := last } := ⟨_, _, rfl⟩

/-- A retirement up to the close of its meter (R34). -/
def Work.enterRetiring (w : Work) (l : Leg) (d : Drop) (reason : RetireReason) : Work :=
  ((((w.mapLeg l fun r => { r with lanes := r.lanes.map fun o => o.filter fun x => x.owner != d }).purge l d).mapDrop l d fun e =>
      { e with
        state := .retiring, since := w.stamp, reason := some (.retire reason), hold := none, origin := none, resume := none,
        awaitingCause := none, wakeInterval := none, wakeCount := none, sleepCancelled := false }).raiseDropState l d).departure l d

/-- A retirement is its entry to RETIRING, the close of its meter, and the vacancy that a complete close brings (R34, R35). -/
theorem Work.retire_eq (w : Work) (l : Leg) (d : Drop) (reason : RetireReason) :
    w.retire l d reason =
      if (w.drop l d).state.resting then w
      else
        let c := (w.enterRetiring l d reason).closeMeter l d reason.closeCause
        if c.2 then c.1.vacate l d else c.1 := by
  unfold Work.retire
  have h : ((w.drop l d).state == .vacant || (w.drop l d).state == .retiring) = (w.drop l d).state.resting := by
    cases (w.drop l d).state <;> rfl
  simp only [h]
  rfl

namespace Work.Reach

variable {l : Leg} {σ : Scope} {w₀ w : Work} {d : Drop}

/-! ### Orders and owed orders -/

theorem queueOrder {e : OrderEntry} (h : Reach l σ w₀ w) (he : e.awaiting = false := by rfl) : Reach l σ w₀ (w.queueOrder l e) :=
  h.mapLeg
    { orders := .inr fun x hx ha => by
        rcases List.mem_append.mp hx with hx | hx
        · exact ⟨x, hx, ha, rfl⟩
        · obtain rfl := List.mem_singleton.mp hx
          simp [he] at ha }

theorem removeOrders {k : OrderKind} (h : Reach l σ w₀ w) : Reach l σ w₀ (w.removeOrders l d k) :=
  h.mapLeg { orders := .inr (orders_filter _) }

theorem purge (h : Reach l σ w₀ w) : Reach l σ w₀ (w.purge l d) := h.mapLeg { orders := .inr (orders_filter _) }

theorem generate {k : OwedKind} (h : Reach l σ w₀ w) : Reach l σ w₀ (w.generate l d k) := by
  unfold Work.generate
  split
  · exact h
  · split
    · exact h.queueOrder
    · split
      · exact h
      · exact h.mapLeg

/-! ### Meters and the journal -/

theorem judgeLevel (h : Reach l σ w₀ w) : Reach l σ w₀ w.judgeLevel := by
  unfold Work.judgeLevel
  dsimp only
  split
  · exact h.mapArmed
  · split
    · exact h.mapArmed.raise
    · exact h

theorem writeEntry {m : Meter} {c : CloseCause} (h : Reach l σ w₀ w) (ht : σ.touches d) (hc : σ.causes c) :
    Reach l σ w₀ (w.writeEntry l d m c) :=
  judgeLevel <| h.step
    { outside := rfl
      leg := .refl _ _
      raised := List.prefix_refl _
      cursor := ⟨rfl, rfl⟩
      written := ⟨_, rfl, rfl, by simpa using ⟨ht, hc⟩⟩ }

theorem afterWritten {m : Meter} {c : CloseCause} (h : Reach l σ w₀ w) (ht : σ.touches d) :
    Reach l σ w₀ (w.afterWritten l d m c) := by
  unfold Work.afterWritten
  split <;> exact h.setMeter (.inl ht)

theorem closeMeter {c : CloseCause} (h : Reach l σ w₀ w) (ht : σ.touches d) (hc : σ.causes c) :
    Reach l σ w₀ (w.closeMeter l d c).1 := by
  unfold Work.closeMeter
  split
  · exact h
  · split
    · split
      · split <;> exact h.setMeter (.inl ht)
      · exact h
    · split
      · exact h.setMeter (.inl ht)
      · split
        · exact h.setMeter (.inl ht)
        · split
          · exact (h.writeEntry ht hc).afterWritten ht
          · exact (h.setMeter (.inl ht)).raise

theorem judgeQuota (h : Reach l σ w₀ w) (ht : σ.touches d) : Reach l σ w₀ (w.judgeQuota l d) := by
  unfold Work.judgeQuota
  split
  · exact h
  · split
    · exact h
    · split
      · exact (h.setMeter (.inl ht)).raise
      · exact h

theorem charge {up : Bool} {n : Nat} {b : Fin 4} (h : Reach l σ w₀ w) (ht : σ.touches d) : Reach l σ w₀ (w.charge l d up n b) := by
  unfold Work.charge
  split
  · exact h
  · exact (h.setMeter (.inl ht)).judgeQuota ht

theorem shedBytes {n : Nat} (h : Reach l σ w₀ w) (ht : σ.touches d) : Reach l σ w₀ (w.shedBytes l d n) := by
  unfold Work.shedBytes
  split
  · exact h
  · exact h.setMeter (.inl ht)

theorem outage (h : Reach l σ w₀ w) (ht : σ.touches d) : Reach l σ w₀ (w.outage l d) := by
  unfold Work.outage
  split
  · exact h
  · exact h.setMeter (.inl ht)

theorem openMeter (h : Reach l σ w₀ w) : Reach l σ w₀ (w.openMeter l d) := by
  unfold Work.openMeter
  split
  · next hm _ => exact h.setMeter (.inr hm)
  · exact h

theorem clearQuota {n : Nat} (h : Reach l σ w₀ w) (ht : σ.touches d) : Reach l σ w₀ (w.clearQuota l d n) := by
  unfold Work.clearQuota
  split
  · exact h
  · split
    · exact h.setMeter (.inl ht)
    · exact h

/-! ### Vacancy and service -/

theorem drained (h : Reach l σ w₀ w) : Reach l σ w₀ (w.drained l) := by
  unfold Work.drained
  split
  · next hd =>
    have hd : (w.leg l).control.state = .draining := by simp at hd; exact hd.1
    exact (h.mapLeg { base := by simp [LegRecord.base, LegControl.service, hd] }).raise
  · exact h

theorem vacate (h : Reach l σ w₀ w) : Reach l σ w₀ (w.vacate l d) := by
  unfold Work.vacate
  refine drained (raiseDropState (mapLeg (mapDrop ?_ (.inr fun _ => rfl))))
  split
  · exact h.mapEnrol
  · exact h

theorem toServing (h : Reach l σ w₀ w) (hu : σ.inUse) : Reach l σ w₀ (w.toServing l d) :=
  ((h.mapDrop (.inl hu)).mapLanesOf Lane.ownerServes_under).openMeter

theorem wakeUp (h : Reach l σ w₀ w) (hu : σ.inUse) : Reach l σ w₀ (w.wakeUp l d) :=
  (((h.toServing hu).mapDrop).removeOrders).raiseDropState

theorem unhushDrop (h : Reach l σ w₀ w) (hu : σ.inUse) : Reach l σ w₀ (w.unhushDrop l d) := by
  unfold Work.unhushDrop
  split
  · exact h
  · split
    · split
      · exact h.wakeUp hu
      · exact h.toServing hu
    · dsimp only
      split
      · exact ((h.mapDrop (.inl hu)).mapLanesOf Lane.noCredit_under).raiseDropState
      · exact (h.mapDrop (.inl hu)).mapLanesOf Lane.noCredit_under

theorem unhushAll {keep : Option Drop} (h : Reach l σ w₀ w) : Reach l σ w₀ (w.unhushAll l keep) :=
  h.forDrops fun w' d hd k => k.unhushDrop <| h.used d <| by
    have hs : (w.drop l d).state = .hushed := by
      simpa [Work.hushedDrops, LegRecord.dropsWhere, Work.drop] using (List.mem_filter.mp (List.mem_of_mem_filter hd)).2
    rw [hs]; rfl

/-! ### The end of a hunt, loss, retirement, quarantine -/

theorem dropStepAsks (h : Reach l σ w₀ w) : Reach l σ w₀ (w.dropStepAsks l) := h.mapMonitor

theorem queueUnhush (h : Reach l σ w₀ w) : Reach l σ w₀ (w.queueUnhush l) := by
  unfold Work.queueUnhush
  split
  · exact h.queueOrder
  · exact h.mapMonitor

theorem endSearch {n : NoticeBody} (h : Reach l σ w₀ w) : Reach l σ w₀ (w.endSearch l n) := by
  have k := (dropStepAsks (raise (a := some l) (b := none) (n := n) h)).queueUnhush
  unfold Work.endSearch
  exact k.unhushAll

theorem endHunt {b : Bool} (h : Reach l σ w₀ w) (hs : σ.armed ∨ (w.leg l).monitor.state.searching = true) :
    Reach l σ w₀ (w.endHunt l b) := by
  obtain ⟨verdict, last, e⟩ := endHunt_eq w l b
  have k : Reach l σ w₀ (w.endSearch l verdict) := h.endSearch
  have hs : σ.armed ∨ ((w.endSearch l verdict).leg l).monitor.state.searching = true := by
    rwa [endSearch_monitor_state w l verdict]
  rw [e]
  generalize w.endSearch l verdict = v at k hs
  exact k.mapMonitor (hs.imp_right fun hs => ⟨rfl, fun hn => absurd (hs.symm.trans hn) (by decide)⟩)

theorem departure (h : Reach l σ w₀ w) : Reach l σ w₀ (w.departure l d) := by
  unfold Work.departure
  dsimp only
  split
  · next hm =>
    split
    · split
      · split
        · exact endHunt h.mapMonitor (.inr (by simp [mapMonitor_eq, hm, MonitorState.searching]))
        · exact h.mapMonitor
      · exact h
    · exact h
  · next hm =>
    split
    · exact h.endHunt (.inr (by rw [hm]; rfl))
    · exact h
  · exact h

theorem lose {reason : LostReason} {saved : Option Nat} (h : Reach l σ w₀ w) (hu : σ.inUse) (ht : σ.touches d) :
    Reach l σ w₀ (w.lose l d reason saved) :=
  (((((h.mapLanesOf Lane.ownerGone_under).outage ht).purge).mapDrop (.inl hu)).raiseDropState).departure

theorem loseByOrigin (h : Reach l σ w₀ w) (hu : σ.inUse) (ht : σ.touches d) : Reach l σ w₀ (w.loseByOrigin l d) := by
  unfold Work.loseByOrigin
  split <;> exact h.lose hu ht

theorem enterRetiring {reason : RetireReason} (h : Reach l σ w₀ w) (hu : σ.inUse) : Reach l σ w₀ (w.enterRetiring l d reason) :=
  ((((h.mapLeg { lanes := .inl (.filter _) }).purge).mapDrop (.inl hu)).raiseDropState).departure

theorem retire {reason : RetireReason} (h : Reach l σ w₀ w) (ht : σ.touches d) (hc : σ.causes reason.closeCause) :
    Reach l σ w₀ (w.retire l d reason) := by
  rw [retire_eq]
  split
  · exact h
  · next hr =>
    have k := (h.enterRetiring (d := d) (reason := reason) (h.used d (by simpa using hr))).closeMeter ht hc
    dsimp only
    split
    · exact k.vacate
    · exact k

theorem quarantine (h : Reach l σ w₀ w) (hu : σ.inUse) (ht : σ.touches d) : Reach l σ w₀ (w.quarantine l d) := by
  unfold Work.quarantine
  refine raiseDropState (outage (mapLanesOf ?_ Lane.ownerGone_under) ht)
  split
  · exact ((h.mapDrop (.inl hu)).purge).queueOrder
  · exact ((h.mapDrop (.inl hu)).purge).mapMonitor

end Work.Reach

end Sys2Proof.Machine
end

section
set_option Elab.async false -- one theorem after another: side by side they ask for more threads than the check's memory limit grants
/-! PROOFS. The operations of the Order Sender, the Rogue Monitor, the Grant Scheduler, the Burst Receiver and the requests stay in their
scope. -/

namespace Sys2Proof.Machine

/-! ### Lanes made from templates (R79, R87) -/

theorem unbindLane_awaits (n : Fin 256) (q : List OrderEntry) :
    ∀ e ∈ unbindLane n q, e.awaiting = true → ∃ x ∈ q, x.awaiting = true ∧ x.target = e.target :=
  orders_map _ fun _ ha => ⟨ha, rfl⟩

theorem Work.createLane_awaits (w : Work) (l : Leg) (x : Lane) :
    ∀ e ∈ ((w.createLane l x).leg l).orders, e.awaiting = true →
      ∃ y ∈ (w.leg l).orders, y.awaiting = true ∧ y.target = e.target := by
  unfold Work.createLane
  rw [Work.leg_mapLeg_self]
  dsimp only
  split
  · exact unbindLane_awaits _ _
  · exact fun e he ha => ⟨e, he, ha, rfl⟩

/-- Lanes created one after another: the table with each put in the lowest free place, and orders that await no more than before. -/
theorem Work.createLanes_eq (w : Work) (l : Leg) (xs : List Lane) : ∃ q,
    (∀ e ∈ q, e.awaiting = true → ∃ x ∈ (w.leg l).orders, x.awaiting = true ∧ x.target = e.target) ∧
    xs.foldl (fun w x => w.createLane l x) w =
      w.mapLeg l fun r => { r with lanes := xs.foldl (fun t x => putLane x t) r.lanes, orders := q } := by
  induction xs generalizing w with
  | nil => exact ⟨(w.leg l).orders, fun e he ha => ⟨e, he, ha, rfl⟩, (w.mapLeg_id l).symm⟩
  | cons x xs ih =>
    obtain ⟨q, hq, e⟩ := ih (w.createLane l x)
    refine ⟨q, fun e he ha => ?_, ?_⟩
    · obtain ⟨y, hy, hya, hyt⟩ := hq e he ha
      obtain ⟨z, hz, hza, hzt⟩ := w.createLane_awaits l x y hy hya
      exact ⟨z, hz, hza, hzt.trans hyt⟩
    · rw [List.foldl_cons, e, Work.createLane, Work.mapLeg_mapLeg]
      rfl

/-- A lane that is not FIXED, put in a table, adds nothing to its FIXED figures. -/
theorem fixedLimitsHold_putLane {t : Vector (Option Lane) 256} {x : Lane} {reach : Nat} (hx : x.isFixed = false)
    (h : fixedLimitsHold t reach = true) : fixedLimitsHold (putLane x t) reach = true := by
  unfold putLane
  split
  · next n hn =>
    have hb : x.fixedBeats = 0 := by
      unfold Lane.fixedBeats
      unfold Lane.isFixed at hx
      split at hx <;> simp_all
    have hsum : fixedSum (t.set n.val (some x)) ≤ fixedSum t := by
      rw [fixedSum_eq, fixedSum_eq]
      refine List.Forall₂.sum_le_sum (List.forall₂_map_left_iff.mpr (List.forall₂_map_right_iff.mpr ?_))
      refine List.forall₂_iff_get.mpr ⟨by simp, fun i hi hj => ?_⟩
      simp only [List.get_eq_getElem, Vector.getElem_toList, Vector.getElem_set]
      split
      · simp [hb]
      · exact le_rfl
    have hdrops : fixedDrops (t.set n.val (some x)) ≤ fixedDrops t := by
      refine List.Sublist.length_le (List.monotone_filter_right _ fun d hd => ?_)
      simp only [List.any_eq_true, Bool.and_eq_true, beq_iff_eq] at hd ⊢
      obtain ⟨y, hy, hf, ho⟩ := hd
      obtain ⟨m, hm⟩ := mem_laneList.mp hy
      simp only [Fin.getElem_fin, Vector.getElem_set] at hm
      split at hm
      · obtain rfl := Option.some.inj hm
        simp [hx] at hf
      · exact ⟨y, mem_laneList.mpr ⟨m, hm⟩, hf, ho⟩
    rw [fixedLimitsHold_iff] at h ⊢
    exact ⟨by omega, by omega⟩
  · exact h

theorem fixedLimitsHold_putLanes {xs : List Lane} {t : Vector (Option Lane) 256} {reach : Nat} (hx : ∀ x ∈ xs, x.isFixed = false)
    (h : fixedLimitsHold t reach = true) : fixedLimitsHold (xs.foldl (fun t x => putLane x t) t) reach = true :=
  List.foldlRecOn xs (fun t x => putLane x t) (motive := fun t => fixedLimitsHold t reach = true) h
    fun _ ht x hm => fixedLimitsHold_putLane (hx x hm) ht

/-- The lanes of a template list for a drop. -/
def freshLanes (d : Drop) (ts : List LaneFigures) : List Lane := (templatePorts ts).map fun pf => Lane.fresh d pf.1 pf.2

/-- Templates that fit keep the FIXED limits (R87). -/
theorem fixedLimitsHold_freshLanes {r : LegRecord} {d : Drop} {ts : List LaneFigures} (hfit : templatesFit r d ts = true)
    (h : fixedLimitsHold r.lanes r.control.settings.reach = true) :
    fixedLimitsHold ((freshLanes d ts).foldl (fun t x => putLane x t) r.lanes) r.control.settings.reach = true := by
  simp only [templatesFit, Bool.and_eq_true, Bool.or_eq_true] at hfit
  obtain ⟨-, hno | hfit⟩ := hfit
  · refine fixedLimitsHold_putLanes (fun x hx => ?_) h
    obtain ⟨⟨p, f⟩, hpf, rfl⟩ := List.mem_map.mp hx
    have hf : f ∈ ts := (List.of_mem_zip hpf).2
    simp only [Bool.not_eq_true', List.any_eq_false] at hno
    have := hno f hf
    unfold Lane.isFixed Lane.fresh
    split at this <;> simp_all
  · simpa [freshLanes, List.foldl_map] using hfit

@[simp] theorem Work.createLanes_eq_fresh (w : Work) (l : Leg) (d : Drop) (ts : List LaneFigures) :
    (templatePorts ts).foldl (fun w pf => w.createLane l (Lane.fresh d pf.1 pf.2)) w =
      (freshLanes d ts).foldl (fun w x => w.createLane l x) w := by
  simp [freshLanes, List.foldl_map]

/-- The orders at some positions sent one after another, with their places (R41, R47, R48). -/
def Work.sendAll (w : Work) (l : Leg) (is : List Nat) : Work × List OrderPlace :=
  is.foldl (fun acc i => ((acc.1.sendOrder l i).1, acc.2 ++ (acc.1.sendOrder l i).2)) (w, [])

/-- The positions that a round's 8 order places take on a leg (R45). -/
def LegRecord.chosen (r : LegRecord) : List Nat := selectOrders (r.control.state == .on) r.isHushed r.orders

theorem Work.sendOrders_eq (w : Work) (l : Leg) :
    w.sendOrders l =
      ((w.sendAll l (w.leg l).chosen).1.mapLeg l fun r => { r with orders := r.orders.filter fun e => !e.spent },
        (w.sendAll l (w.leg l).chosen).2) := rfl

namespace Work.Reach

variable {l : Leg} {σ : Scope} {w₀ w : Work} {d : Drop}

/-! ### Admission (R73 to R75) -/

theorem createLanes {ts : List LaneFigures} (h : Reach l σ w₀ w) (hu : σ.inUse) (hfit : templatesFit (w.leg l) d ts = true) :
    Reach l σ w₀ ((freshLanes d ts).foldl (fun w x => w.createLane l x) w) := by
  obtain ⟨q, hq, e⟩ := Work.createLanes_eq w l (freshLanes d ts)
  rw [e]
  exact h.mapLeg { lanes := .inr ⟨hu, fixedLimitsHold_freshLanes hfit⟩, orders := .inr hq }

theorem serveDrop {m : Option Bool} (h : Reach l σ w₀ w) (hu : σ.inUse) : Reach l σ w₀ (w.serveDrop l d m) :=
  (h.toServing hu).raiseDropState

theorem awaitDrop {c : AwaitingCause} (h : Reach l σ w₀ w) (hu : σ.inUse) : Reach l σ w₀ (w.awaitDrop l d c) :=
  ((h.mapDrop (.inl hu)).raiseDropState).raise

theorem admitByMode (h : Reach l σ w₀ w) (hu : σ.inUse) : Reach l σ w₀ (w.admitByMode l d) := by
  unfold Work.admitByMode
  split
  · split
    · exact h.serveDrop hu
    · exact h.awaitDrop hu
  · exact h.awaitDrop hu

theorem admitFresh (h : Reach l σ w₀ w) (hu : σ.inUse) : Reach l σ w₀ (w.admitFresh l d) := by
  unfold Work.admitFresh
  simp only [createLanes_eq_fresh]
  split
  · next hfit =>
    have k := h.createLanes hu hfit
    split
    · exact k.admitByMode hu
    · exact k.generate.admitByMode hu
  · exact h.awaitDrop hu

theorem rebindLanes (h : Reach l σ w₀ w) : Reach l σ w₀ (w.rebindLanes l d) := by
  unfold Work.rebindLanes
  split
  · exact h
  · exact (h.mapLanesOf Lane.rebind_under).generate

theorem trimEnds {b : Bool} (h : Reach l σ w₀ w) (hu : σ.inUse) : Reach l σ w₀ (w.trimEnds l d b) := by
  have k : Reach l σ w₀ (w.mapDrop l d fun e => { e with marginal := b }) := h.mapDrop
  unfold Work.trimEnds
  dsimp only
  split
  · exact k.admitFresh hu
  · split
    · exact k.rebindLanes.serveDrop hu
    · split
      · exact k.admitFresh hu
      · exact k.rebindLanes.admitByMode hu

/-! ### Hushing and asks (R43, R144) -/

theorem hushDrop (h : Reach l σ w₀ w) : Reach l σ w₀ (w.hushDrop l d) := by
  unfold Work.hushDrop
  dsimp only
  split
  · next hh =>
    have hu : σ.inUse := h.used d (by cases hs : (w.drop l d).state <;> simp_all [DropState.hushable, DropState.resting])
    split
    · exact (h.mapDrop (.inl hu)).mapLanesOf Lane.ownerLeaves_under
    · exact h.mapDrop (.inl hu)
  · exact h

theorem applyHush {set : List Drop} (h : Reach l σ w₀ w) : Reach l σ w₀ (w.applyHush l set) :=
  h.forDrops fun w c _ k => by
    split
    · exact k.hushDrop
    · split
      · next hs => exact k.unhushDrop (k.used c (by rw [beq_iff_eq.mp hs]; rfl))
      · exact k

theorem doAsk {a : MonitorAsk} (h : Reach l σ w₀ w) : Reach l σ w₀ (w.doAsk l a) := by
  unfold Work.doAsk
  split
  · cases a with
    | stepHush set n => exact h.queueOrder.applyHush
    | stepUnhush keep => exact h.queueOrder.unhushAll
    | mute d => exact h.queueOrder
    | unhush => exact h.queueOrder
  · exact h.mapMonitor

theorem retryAsks (h : Reach l σ w₀ w) : Reach l σ w₀ (w.retryAsks l) := h.mapMonitor.foldl fun _ _ _ k => k.doAsk

theorem retryOwed (h : Reach l σ w₀ w) : Reach l σ w₀ (w.retryOwed l) :=
  foldl (h.mapLeg (f := fun r => { r with owed := [] })) fun _ _ _ k => k.generate

theorem retryOrders (h : Reach l σ w₀ w) : Reach l σ w₀ (w.retryOrders l) := h.retryAsks.retryOwed

/-! ### Waits and failures (R50 to R52) -/

theorem applyFailure {k : OrderKind} {o : FailOutcome} (h : Reach l σ w₀ w) (hu : σ.inUse) (ht : σ.touches d) :
    Reach l σ w₀ (w.applyFailure l d k o) := by
  unfold Work.applyFailure
  split
  · split
    · exact h.loseByOrigin hu ht
    · exact h.lose hu ht
  · split
    · exact h.trimEnds hu
    · exact h.mapDrop
  · split
    · exact h.removeOrders.mapDrop
    · exact h
  · exact h
  · exact h

theorem failOrder (h : Reach l σ w₀ w) (hu : σ.inUse) (ht : σ.touches d) : Reach l σ w₀ (w.failOrder l d) := by
  unfold Work.failOrder
  split
  · exact h
  · refine applyFailure (raise (h.mapLeg { orders := .inr ?_ })) hu ht
    dsimp only
    split
    · refine orders_map _ fun e ha => ?_
      split at ha
      · cases ha
      · next hf => exact ⟨ha, by rw [if_neg hf]⟩
    · exact orders_filter _

theorem settleWaits (h : Reach l σ w₀ w) (hu : σ.inUse)
    (ht : ∀ e ∈ (w.leg l).orders, e.awaiting = true → ∀ d, e.target = some d → σ.touches d) : Reach l σ w₀ (w.settleWaits l) := by
  unfold Work.settleWaits
  refine forDrops (h.mapLeg { orders := .inr (orders_map _ fun e ha => ⟨?_, e.tick_target _ _⟩) }) fun w' d hd k =>
    k.failOrder hu ?_
  · rwa [OrderEntry.tick_awaiting] at ha
  · obtain ⟨e, he, hf⟩ := List.mem_filterMap.mp hd
    rw [leg_mapLeg_self] at he
    obtain ⟨x, hx, rfl⟩ := List.mem_map.mp he
    rw [OrderEntry.tick_target] at hf
    split at hf
    · next c hc =>
      split at hf
      · next hfail =>
        obtain rfl := Option.some.inj hf
        refine ht x hx ?_ c hc
        simp only [OrderEntry.failing, OrderEntry.tick_awaiting, Bool.and_eq_true] at hfail
        exact hfail.1.1.1.2
      · cases hf
    · cases hf

/-! ### The selection of a round (R45 to R48) -/

theorem sendOrder {i : Nat} (h : Reach l σ w₀ w) (hs : σ.sends) : Reach l σ w₀ (w.sendOrder l i).1 := by
  unfold Work.sendOrder
  dsimp only
  split
  · exact h
  · split
    · dsimp only
      exact mapDrop (h.mapLeg { orders := .inl hs })
    · dsimp only
      split
      · exact mapMonitor (h.mapLeg { orders := .inl hs })
      · exact h.mapLeg { orders := .inl hs }

theorem sendAll {is : List Nat} (h : Reach l σ w₀ w) (hs : σ.sends) : Reach l σ w₀ (w.sendAll l is).1 := by
  unfold Work.sendAll
  exact List.foldlRecOn is _ (motive := fun acc : Work × List OrderPlace => Reach l σ w₀ acc.1) h fun _ k _ _ => k.sendOrder hs

theorem sendOrders (h : Reach l σ w₀ w) (hs : σ.sends) : Reach l σ w₀ (w.sendOrders l).1 := by
  rw [sendOrders_eq]
  dsimp only
  exact mapLeg (h.sendAll hs) { orders := .inl hs }

/-! ### Echoes and completions (R49, R53) -/

theorem toDormant {n : Nat} (h : Reach l σ w₀ w) (hu : σ.inUse) : Reach l σ w₀ (w.toDormant l d n) :=
  ((h.mapDrop (.inl hu)).mapLanesOf fun x => (x.ownerLeaves.noCredit_under).trans x.ownerLeaves_under).raiseDropState

theorem applyCompletion {e : OrderEntry} (h : Reach l σ w₀ w) : Reach l σ w₀ (w.applyCompletion l d e) := by
  unfold Work.applyCompletion
  dsimp only
  split
  · split
    · next hf => exact (h.mapDrop (.inl (h.used d (by rw [beq_iff_eq.mp hf]; rfl)))).raiseDropState
    · exact h
  · exact h.mapDrop (.inr fun hr => by rwa [DropEntry.powerStepped_state])
  · refine h.foldl fun w n _ k => k.mapLeg { lanes := .inl ?_ }
    cases hx : (w.leg l).lanes[n] with
    | none => exact .set_none n
    | some x =>
      refine .set_some hx ?_
      dsimp only
      split
      · exact x.bound_under _
      · exact .refl x
  · split
    · next hs =>
      rw [Bool.and_eq_true, beq_iff_eq] at hs
      exact h.toDormant (h.used d (by rw [hs.1]; rfl))
    · split
      · exact h.mapDrop
      · exact h
  · split
    · next hs => exact h.wakeUp (h.used d (by rw [beq_iff_eq.mp hs]; rfl))
    · split
      · exact h.mapDrop
      · split
        · exact h.mapDrop
        · exact h
  · exact h

theorem deliverEcho {e : Option (Fin 16)} (h : Reach l σ w₀ w) : Reach l σ w₀ (w.deliverEcho l d e) := by
  rcases w.deliverEcho_cases l d e with ⟨-, k⟩ | ⟨q, w', -, rfl, -, k⟩ | ⟨q, x, w', -, rfl, -, -, -, -, k⟩ <;> rw [k]
  · exact h
  · exact h.mapLeg
  · exact applyCompletion (mapLeg h.mapLeg { orders := .inr (orders_filter _) })

/-! ### The Rogue Monitor (R130 to R151) -/

theorem beginSpan {b : Bool} (h : Reach l σ w₀ w) (ha : σ.armed) : Reach l σ w₀ (w.beginSpan l b) := by
  unfold Work.beginSpan
  split <;> exact h.mapMonitor (.inl ha)

theorem raiseSuspect {c : Signatures} {x : Option Drop} (h : Reach l σ w₀ w) : Reach l σ w₀ (w.raiseSuspect l c x) := h.raise

theorem startStep {k : StepKind} (h : Reach l σ w₀ w) : Reach l σ w₀ (w.startStep l k) := by
  unfold Work.startStep
  cases k with
  | control => exact h.mapMonitor
  | fullHush => exact h.mapMonitor.doAsk
  | split => exact h.mapMonitor.doAsk
  | verify => exact h.mapMonitor.doAsk
  | finalControl => exact h.mapMonitor.doAsk

theorem confirm {sp : Span} (h : Reach l σ w₀ w) (ha : σ.armed) : Reach l σ w₀ (w.confirm l sp) := by
  unfold Work.confirm
  split
  · exact startStep (raiseSuspect (h.mapMonitor (.inl ha)))
  · exact startStep (raiseSuspect (h.mapMonitor (.inl ha)))

theorem confirmCulprit (h : Reach l σ w₀ w) (ha : σ.armed) (hu : σ.inUse) (ht : σ.touches d) :
    Reach l σ w₀ (w.confirmCulprit l d) :=
  beginSpan (mapMonitor (raise (h.dropStepAsks.quarantine hu ht)) (.inl ha)) ha

theorem narrow {cs : List Drop} (h : Reach l σ w₀ w) (ha : σ.armed) : Reach l σ w₀ (w.narrow l cs) := by
  have k : Reach l σ w₀ (w.mapMonitor l fun m => { m with candidates := some cs }) := h.mapMonitor
  unfold Work.narrow
  split
  · exact k.endHunt (.inl ha)
  · exact k.startStep
  · exact k.startStep

theorem huntAfterCheck (h : Reach l σ w₀ w) (ha : σ.armed) : Reach l σ w₀ (w.huntAfterCheck l) := by
  unfold Work.huntAfterCheck
  exact startStep (raiseSuspect (h.mapMonitor (.inl ha)))

theorem applyReading {s : ProbeStep} {lit : Bool} (h : Reach l σ w₀ w) (ha : σ.armed) (hu : σ.inUse) (ht : ∀ d, σ.touches d) :
    Reach l σ w₀ (w.applyReading l s lit) := by
  unfold Work.applyReading
  dsimp only
  split
  · split
    · exact h.startStep
    · exact h.endHunt (.inl ha)
  · split
    · exact h.huntAfterCheck ha
    · split
      · exact h.confirmCulprit ha hu (ht _)
      · exact h.endHunt (.inl ha)
  · split
    · exact h.endHunt (.inl ha)
    · split
      · exact h.endHunt (.inl ha)
      · exact h.startStep
  · split
    · exact h.endHunt (.inl ha)
    · exact h.narrow ha
  · split <;> exact h.narrow ha
  · split
    · exact h.endHunt (.inl ha)
    · exact h.startStep
  · split
    · exact h.confirmCulprit ha hu (ht _)
    · exact h.endHunt (.inl ha)
    · exact h.endHunt (.inl ha)

theorem observeStep {r : RoundReport} (h : Reach l σ w₀ w) (ha : σ.armed) (hu : σ.inUse) (ht : ∀ d, σ.touches d) :
    Reach l σ w₀ (w.observeStep l r) := by
  unfold Work.observeStep
  dsimp only
  split
  · exact h
  · split
    · split
      · exact applyReading h.mapMonitor ha hu ht
      · exact h.mapMonitor
    · exact h

theorem endSpan {sp : Span} {t : Stamp} (h : Reach l σ w₀ w) (ha : σ.armed) : Reach l σ w₀ (w.endSpan l sp t) := by
  unfold Work.endSpan
  dsimp only
  split
  · split
    · exact raiseSuspect ((h.mapMonitor (.inl ha)).mapMonitor (.inl ha))
    · exact h.mapMonitor (.inl ha)
  · split
    · exact (h.mapMonitor (.inl ha)).confirm ha
    · exact h.mapMonitor (.inl ha)
  · exact h.mapMonitor (.inl ha)

theorem takeReport {r : RoundReport} (h : Reach l σ w₀ w) (ha : (w.leg l).monitor.state ≠ .disarmed → σ.armed ∧ σ.inUse)
    (ht : ∀ d, σ.touches d) : Reach l σ w₀ (w.takeReport l r) := by
  unfold Work.takeReport
  dsimp only
  split
  · next hm => exact h.observeStep (ha (by simp [hm])).1 (ha (by simp [hm])).2 ht
  · next hm => exact h.observeStep (ha (by simp [hm])).1 (ha (by simp [hm])).2 ht
  · split
    · exact h
    · next sp hc =>
      have hm : (w.leg l).monitor.state ≠ .disarmed := by
        intro hm
        simp [Monitor.counts, hm] at hc
      split
      · exact h.endSpan (ha hm).1
      · exact h.mapMonitor (.inl (ha hm).1)

theorem suspectTimeout (h : Reach l σ w₀ w) (ha : (w.leg l).monitor.state ≠ .disarmed → σ.armed) :
    Reach l σ w₀ (w.suspectTimeout l) := by
  unfold Work.suspectTimeout
  dsimp only
  split
  · next hm _ =>
    split
    · exact h.mapMonitor (.inl (ha (by simp [hm])))
    · exact h
  · exact h

theorem holdoffEnds (h : Reach l σ w₀ w) (ha : σ.armed) : Reach l σ w₀ (w.holdoffEnds l) :=
  beginSpan (h.mapMonitor (.inl ha)) ha

theorem holdoffTick (h : Reach l σ w₀ w) (ha : (w.leg l).monitor.state ≠ .disarmed → σ.armed) :
    Reach l σ w₀ (w.holdoffTick l) := by
  unfold Work.holdoffTick
  dsimp only
  split
  · next hm _ =>
    split
    · exact h.holdoffEnds (ha (by simp [hm]))
    · exact h.mapMonitor
  · exact h

theorem holdoffExpires (h : Reach l σ w₀ w) (ha : (w.leg l).monitor.state ≠ .disarmed → σ.armed) :
    Reach l σ w₀ (w.holdoffExpires l) := by
  unfold Work.holdoffExpires
  dsimp only
  split
  · next hm _ =>
    split
    · exact h.holdoffEnds (ha (by simp [hm]))
    · exact h
  · exact h

theorem stepTick (h : Reach l σ w₀ w) : Reach l σ w₀ (w.stepTick l) := h.mapMonitor

theorem resumeSpan (h : Reach l σ w₀ w) (ha : σ.armed) : Reach l σ w₀ (w.resumeSpan l) := by
  unfold Work.resumeSpan
  dsimp only
  split
  · exact (h.mapMonitor (.inl ha)).beginSpan ha
  · exact (h.mapMonitor (.inl ha)).beginSpan ha
  · exact h.mapMonitor (.inl ha)

theorem disarmByHost (h : Reach l σ w₀ w) (ha : σ.armed) : Reach l σ w₀ (w.disarmByHost l) := h.mapMonitor (.inl ha)

theorem abandonHunt (h : Reach l σ w₀ w) (ha : σ.armed) : Reach l σ w₀ (w.abandonHunt l) :=
  (unhushAll h.dropStepAsks.queueUnhush).disarmByHost ha

theorem rogueSettings {s : MonitorSettings} (h : Reach l σ w₀ w) (ha : (w.leg l).monitor.state ≠ .disarmed → σ.armed) :
    Reach l σ w₀ (w.rogueSettings l s) := by
  unfold Work.rogueSettings
  split
  · next hm => exact (h.mapMonitor (.inl (ha (by simp [hm])))).beginSpan (ha (by simp [hm]))
  · next hm => exact (h.mapMonitor (.inl (ha (by simp [hm])))).beginSpan (ha (by simp [hm]))
  · exact h.mapMonitor
  · exact h.mapMonitor

theorem arm (h : Reach l σ w₀ w) (ha : σ.armed) : Reach l σ w₀ (w.arm l) := (h.mapMonitor (.inl ha)).beginSpan ha

/-! ### The boundary's checks and the map's window -/

theorem awardWindow (h : Reach l σ w₀ w) (hu : σ.inUse) : Reach l σ w₀ (w.awardWindow l).1 := by
  unfold Work.awardWindow
  dsimp only
  split
  · exact h.mapLeg.setState hu
  · dsimp only
    exact mapLeg h.mapLeg
  · dsimp only
    exact h.mapLeg

theorem holdTick (h : Reach l σ w₀ w) (ht : σ.touches d) (hc : σ.causes .retire) : Reach l σ w₀ (w.holdTick l d) := by
  unfold Work.holdTick
  dsimp only
  split
  · split
    · exact h.retire ht hc
    · exact h.mapDrop
  · split
    · split
      · exact h.retire ht hc
      · exact h.mapDrop
    · exact h
  · exact h

theorem holdExpires (h : Reach l σ w₀ w) (ht : σ.touches d) (hc : σ.causes .retire) : Reach l σ w₀ (w.holdExpires l d) := by
  unfold Work.holdExpires
  dsimp only
  generalize Option.any _ _ = expired
  cases expired with
  | true => exact h.retire ht hc
  | false => exact h

theorem discoveryDue (h : Reach l σ w₀ w) : Reach l σ w₀ (w.discoveryDue l) :=
  h.mapLeg <| by
    split
    · exact {}
    · exact .refl _ _

theorem wakeCheckDue (h : Reach l σ w₀ w) : Reach l σ w₀ (w.wakeCheckDue l d) := by
  unfold Work.wakeCheckDue
  split
  · exact h.mapDrop
  · exact h

theorem bringDue {p : OrderEntry → Bool} (h : Reach l σ w₀ w) : Reach l σ w₀ (w.bringDue l d p) :=
  h.mapLeg
    { orders := .inr (orders_map _ fun e ha => by
        split at ha
        · next hp => exact ⟨ha, by rw [if_pos hp]⟩
        · next hp => exact ⟨ha, by rw [if_neg hp]⟩) }

theorem resendFallsDue (h : Reach l σ w₀ w) : Reach l σ w₀ (w.resendFallsDue l d) := by
  unfold Work.resendFallsDue
  split
  · exact h.bringDue
  · exact h

theorem waitFails (h : Reach l σ w₀ w) (hu : (w.leg l).control.state = .on → σ.inUse) (ht : σ.touches d) :
    Reach l σ w₀ (w.waitFails l d) := by
  unfold Work.waitFails
  split
  · next hon =>
    rw [Bool.and_eq_true, beq_iff_eq] at hon
    exact h.bringDue.failOrder (hu hon.1) ht
  · exact h

/-! ### The fill of a round (R164 to R166) -/

theorem discardDown {n : Nat} (h : Reach l σ w₀ w) : Reach l σ w₀ (w.discardDown l n) := h.mapStats

theorem sendFrame {f : Frame} (h : Reach l σ w₀ w) (ht : σ.touches f.drop) : Reach l σ w₀ (w.sendFrame l f) := by
  unfold Work.sendFrame
  dsimp only
  split
  · exact (h.mapLeg (f := fun r => { r with allowance := r.allowance.set f.drop.val (r.allowance[f.drop] - f.data.length) })).charge
      ht
  · exact h.charge ht

theorem fillFrames {fs sent : List Frame} {room : Nat} (h : Reach l σ w₀ w) (ht : ∀ f ∈ fs, σ.touches f.drop) :
    Reach l σ w₀ (fillFrames l fs room sent w).1 := by
  induction fs generalizing room sent w with
  | nil => exact h
  | cons f fs ih =>
    have hf := ht f (by simp)
    have hfs : ∀ f ∈ fs, σ.touches f.drop := fun f hm => ht f (by simp [hm])
    unfold Machine.fillFrames
    split
    · exact ih h.discardDown hfs
    · split
      · exact ih (h.shedBytes hf) hfs
      · split
        · exact h
        · exact ih (h.sendFrame hf) hfs

/-! ### Trim, drift and what a clean burst delivers (R69 to R72, R107 to R112) -/

theorem driftStep {n : Nat} (h : Reach l σ w₀ w) : Reach l σ w₀ (w.driftStep l d n) := by
  unfold Work.driftStep
  dsimp only
  split
  · exact mapDrop h.mapDrop
  · exact generate h.mapDrop

theorem judgeTrim {n : Nat} (h : Reach l σ w₀ w) (hu : σ.inUse) : Reach l σ w₀ (w.judgeTrim l d n) := by
  unfold Work.judgeTrim
  dsimp only
  split
  · exact h
  · split
    · exact h.trimEnds hu
    · split
      · exact h.trimEnds hu
      · exact h.generate

theorem judgeDrift {n : Nat} (h : Reach l σ w₀ w) : Reach l σ w₀ (w.judgeDrift l d n) := by
  unfold Work.judgeDrift
  dsimp only
  split
  · exact h.mapDrop
  · split
    · exact h
    · split
      · exact h.driftStep
      · exact h.mapDrop

theorem judgeBurst {n : Nat} (h : Reach l σ w₀ w) : Reach l σ w₀ (w.judgeBurst l d n) := by
  unfold Work.judgeBurst
  split
  · next hs => exact h.judgeTrim (h.used d (by rw [hs]; rfl))
  · exact h.judgeDrift
  · exact h

theorem takeStatus {x : BurstHeader} (h : Reach l σ w₀ w) (ht : σ.touches d) : Reach l σ w₀ (w.takeStatus l d x) := by
  unfold Work.takeStatus
  dsimp only
  split
  · next hs =>
    refine h.lose (h.used d ?_) ht
    cases hd : (w.drop l d).state <;> simp_all [DropState.heard, DropState.resting]
  · split
    · next hs =>
      rw [Bool.and_eq_true, beq_iff_eq] at hs
      exact h.wakeUp (h.used d (by rw [hs.2]; rfl))
    · exact h

theorem takeBacklog {b : Vector (BitVec 24) 4} (h : Reach l σ w₀ w) : Reach l σ w₀ (w.takeBacklog l d b) :=
  h.mapLanesOf fun _ => .of_eq rfl rfl

theorem takePayload {b : Burst} {p : List Byte} (h : Reach l σ w₀ w) (ht : σ.touches b.drop) :
    Reach l σ w₀ (w.takePayload l b p) := by
  unfold Work.takePayload
  dsimp only
  split
  · exact h.mapLeg
  · exact charge h.mapLeg ht

theorem afterWake {st : DropState} (h : Reach l σ w₀ w) : Reach l σ w₀ (w.afterWake l d st) := by
  unfold Work.afterWake
  split
  · exact h.mapDrop
  · exact h

theorem deliverClean {b : Burst} {f : FoundBurst} (h : Reach l σ w₀ w) (ht : σ.touches b.drop) :
    Reach l σ w₀ (w.deliverClean l b f) := by
  unfold Work.deliverClean
  dsimp only
  split
  · exact h.takePayload ht
  · refine afterWake (takePayload (takeBacklog (judgeBurst (takeStatus (h.deliverEcho.mapDrop (.inr fun hr => ?_)) ht))) ht)
    unfold DropEntry.heardClean
    split <;> exact hr

theorem missBurst (h : Reach l σ w₀ w) (ht : σ.touches d) : Reach l σ w₀ (w.missBurst l d) := by
  unfold Work.missBurst
  dsimp only
  split
  · next hs =>
    have hu : σ.inUse := h.used d (by cases hd : (w.drop l d).state <;> simp_all [DropState.heard, DropState.resting])
    split
    · exact lose h.mapDrop hu ht
    · exact h.mapDrop
  · exact h

theorem lastMiss (h : Reach l σ w₀ w) (ht : σ.touches d) : Reach l σ w₀ (w.lastMiss l d) := by
  unfold Work.lastMiss
  split
  · exact h.missBurst ht
  · exact h

theorem lastDrift {n : Nat} (h : Reach l σ w₀ w) : Reach l σ w₀ (w.lastDrift l d n) := by
  unfold Work.lastDrift
  dsimp only
  split
  · exact h.driftStep
  · exact h

/-! ### Strangers, matching and ranging (R25 to R29, R63 to R66) -/

theorem stranger {x : Serial} {y : StrangerWhy} {t : Stamp} (h : Reach l σ w₀ w) (hh : σ.hears) :
    Reach l σ w₀ (w.stranger l x y t) := by
  unfold Work.stranger
  dsimp only
  split
  · exact raise (h.mapLeg { strangers := .inl hh })
  · exact h.mapLeg { strangers := .inl hh }

theorem forget (h : Reach l σ w₀ w) : Reach l σ w₀ (w.forget l d) := h.mapLeg

theorem claim {i : Fin 512} {x : Serial} {n : Nat} (h : Reach l σ w₀ w) (hu : σ.inUse) : Reach l σ w₀ (w.claim l d i x n) :=
  raiseDropState (forget (h.mapEnrol.mapDrop (.inl hu)))

theorem refind {n : Nat} (h : Reach l σ w₀ w) (hu : σ.inUse) : Reach l σ w₀ (w.refind l d n) :=
  raiseDropState (forget (h.mapDrop (.inl hu)))

theorem matchAnnounce {t : Stamp} {x : Serial} {n : Nat} (h : Reach l σ w₀ w) (hu : σ.inUse) (hh : σ.hears) :
    Reach l σ w₀ (w.matchAnnounce l t x n) := by
  unfold Work.matchAnnounce
  split
  · exact h.stranger hh
  · split
    · exact h
    · split
      · split
        · split
          · exact h.refind hu
          · exact h.raise
        · exact h
        · exact h.raise
      · split
        · exact h.stranger hh
        · split
          · exact h.claim hu
          · exact h.raise

theorem rangingFails {c : RangingCause} (h : Reach l σ w₀ w) (hu : σ.inUse) (ht : σ.touches d) :
    Reach l σ w₀ (w.rangingFails l d c) := by
  unfold Work.rangingFails
  dsimp only
  split
  · exact setState h.mapDrop hu
  · split
    · exact vacate (raise h.mapDrop)
    · exact loseByOrigin (raise h.mapDrop) hu ht

theorem rangingReplied {a : Int} {n : Nat} (h : Reach l σ w₀ w) (hu : σ.inUse) (ht : σ.touches d) :
    Reach l σ w₀ (w.rangingReplied l d a n) := by
  unfold Work.rangingReplied
  dsimp only
  split
  · exact rangingFails h.mapDrop hu ht
  · exact generate (mapDrop (setState h.mapDrop hu))

theorem takeRanging {b : Bool} {r : Option (Int × Nat)} (h : Reach l σ w₀ w) (ht : σ.touches d) :
    Reach l σ w₀ (w.takeRanging l d b r) := by
  unfold Work.takeRanging
  split
  · exact h
  · next hs =>
    have hs : (w.drop l d).state = .ranging := by simpa using hs
    have hu : σ.inUse := h.used d (by rw [hs]; rfl)
    split
    · exact h.setState hu
    · split
      · exact h.rangingReplied hu ht
      · exact h.rangingFails hu ht

/-! ### Requests on drops and lanes -/

theorem reachDrop {n : Nat} {x : Int} (h : Reach l σ w₀ w) (ht : σ.touches d) : Reach l σ w₀ (w.reachDrop l n x d) := by
  have move : ∀ st, (w.drop l d).state = st → st.resting = false →
      Reach l σ w₀ (if (w.drop l d).rtt.any fun r => decide (r > 8 * n) then w.lose l d .outOfReach
        else w.mapDrop l d fun e => { e with eqd := e.eqd.map fun q => shiftDelay q x }) := by
    intro st hs hr
    split
    · exact h.lose (h.used d (by rw [hs, hr])) ht
    · exact h.mapDrop
  unfold Work.reachDrop
  dsimp only
  split
  · next hs => exact move _ hs rfl
  · next hs => exact move _ hs rfl
  · next hs => exact move _ hs rfl
  · next hs => exact move _ hs rfl
  · exact h.removeOrders
  · exact h.mapDrop
  · exact h

theorem dismiss (h : Reach l σ w₀ w) (ht : σ.touches d) (hc : σ.causes .retire) : Reach l σ w₀ (w.dismiss l d) := by
  unfold Work.dismiss
  dsimp only
  split
  · exact queueOrder (h.retire ht hc)
  · exact h.retire ht hc

theorem completeRetirement (h : Reach l σ w₀ w) (ht : σ.touches d) : Reach l σ w₀ (w.completeRetirement l d) := by
  unfold Work.completeRetirement
  split
  · exact (h.setMeter (.inl ht)).vacate
  · exact h

theorem removeLane {n : Fin 256} (h : Reach l σ w₀ w) : Reach l σ w₀ (w.removeLane l n d) :=
  generate (h.mapLeg { lanes := .inl (.set_none n), orders := .inr (unbindLane_awaits n _) })

theorem dropQueuedSleep (h : Reach l σ w₀ w) : Reach l σ w₀ (w.dropQueuedSleep l d) :=
  h.mapLeg { orders := .inr (orders_filter _) }

theorem release (h : Reach l σ w₀ w) (hu : σ.inUse) : Reach l σ w₀ (w.release l d) :=
  raiseDropState (forget (mapDrop (mapMonitor h.removeOrders) (.inl hu)))

theorem writeHeldMeter (h : Reach l σ w₀ w) (ht : σ.touches d) (hc : ∀ c, σ.causes c) : Reach l σ w₀ (w.writeHeldMeter l d) := by
  unfold Work.writeHeldMeter
  split
  · exact h
  · split
    · exact h
    · split
      · dsimp only
        split
        · exact ((h.writeEntry ht (hc _)).afterWritten ht).vacate
        · exact (h.writeEntry ht (hc _)).afterWritten ht
      · exact h

end Work.Reach

end Sys2Proof.Machine
end

section
set_option Elab.async false -- one theorem after another: side by side they ask for more threads than the check's memory limit grants
/-! PROOFS. Invariants of a leg's record. `LegKept scope I` lists what a property `I` of one leg's record must survive: work in its scope, and
the few changes that are no drop's or monitor's work (the control record, the maps, leaving service, RESTART). Every step then keeps `I` of
every leg. -/

namespace Sys2Proof.Machine

/-! ### The changes of a leg that are no work in a scope -/

/-- The changes of a control record that change nothing else of the leg. -/
inductive LegControl.Moves : LegControl → LegControl → Prop
  | levels (c : LegControl) (level seen : Bool) : Moves c { c with laserFault := level, faultSeen := seen }
  | settings (c : LegControl) (s : LegSettings) (h : s.reach = c.settings.reach) : Moves c { c with settings := s }
  | recover (c : LegControl) (h : c.state = .fault) : Moves c { c with state := .preparing, cause := none, roundsLeft := 64 }
  | prepared (c : LegControl) (h : c.state = .preparing) (h0 : c.roundsLeft = 0) :
      Moves c { c with state := .on, cause := none, roundsLeft := 0 }
  | retimed (c : LegControl) (h : c.state = .retiming) : Moves c { c with state := .on, cause := none, roundsLeft := 0 }
  | retiming (c : LegControl) (h : c.state = .on) : Moves c { c with state := .retiming, cause := none, roundsLeft := 4 }
  | drainFault (c : LegControl) (cause : FaultCause) (h : c.state = .draining) :
      Moves c { c with state := .fault, cause := some cause, roundsLeft := 0 }
  | round (c : LegControl) : Moves c c.beginRound
  | turnOn (c : LegControl) (n : Nat) (h : c.state = .off) (hn : 625 ≤ n ∧ n ≤ 6250) :
      Moves c
        { c with settings := { c.settings with reach := n }, state := .preparing, cause := none, roundsLeft := 64 }
  | turnOnFaulty (c : LegControl) (n : Nat) (h : c.state = .off) (hn : 625 ≤ n ∧ n ≤ 6250) :
      Moves c
        { c with settings := { c.settings with reach := n }, state := .fault, cause := some .laser, roundsLeft := 0 }

/-- A leg's record that enters a state out of service: laser off, queues and maps gone, monitor DISARMED (R12, R15). -/
def LegRecord.outOfService (r : LegRecord) (st : LegState) (cause : Option FaultCause) : LegRecord :=
  { r with
    control := { r.control with state := st, cause := cause, roundsLeft := 0, txen := false }
    sending := none, inFlight := [], keptMap := none, requests := WindowRequests.none, orders := [], owed := [], fifo := []
    stats := { r.stats with downDiscarded := saturate 4294967295 r.stats.downDiscarded r.fifo.length }
    monitor := Monitor.disarmed r.monitor.settings r.monitor.relearn r.monitor.lastVerdict }

/-- The record after a full build `b` of round `k`, its map not yet handed over (R89 to R101). -/
def LegRecord.afterBuild (r : LegRecord) (k : Stamp) (m : GrantMap) (b : Build) : LegRecord :=
  { r with
    drops := Vector.ofFn fun d : Drop => if b.holders.contains d then r.drops[d].buildEnds else r.drops[d]
    lanes := Vector.ofFn fun n : Fin 256 =>
      (b.lanes[n]).map fun x => if b.beats n > 0 then { x with lastGrant := some (k.round, b.beats n) } else x
    pointer := m.pointerAfter }

@[simp] theorem LegRecord.takeMap_control (r : LegRecord) (m : GrantMap) : (r.takeMap m).control = r.control := rfl

@[simp] theorem LegRecord.afterBuild_control (r : LegRecord) (k : Stamp) (m : GrantMap) (b : Build) :
    (r.afterBuild k m b).control = r.control := by
  unfold LegRecord.afterBuild
  rfl

/-- What a property of a leg's record must survive so that every step keeps it; `scope r` is the scope of the work on a leg with record
`r`. -/
structure LegKept (scope : LegRecord → Scope) (I : LegRecord → Prop) : Prop where
  free : ∀ r, (scope r).sends ∧ (scope r).hears ∧ (∀ d, (scope r).touches d) ∧ ∀ c, (scope r).causes c
  used : ∀ r, I r → ∀ d : Drop, r.drops[d].state.resting = false → (scope r).inUse
  armed : ∀ r, I r → r.monitor.state ≠ .disarmed → (scope r).armed ∧ (scope r).inUse
  lanes : ∀ r, I r → ∀ (n : Fin 256) x, r.lanes[n] = some x → (scope r).inUse
  live : ∀ r, I r → r.control.state.live = true → (scope r).armed ∧ (scope r).inUse
  receives : ∀ r, I r → r.inFlight ≠ [] → (scope r).inUse
  steps : ∀ r r', I r → r.Steps (scope r) r' → I r'
  idle : ∀ r block host sending fifo, I r → I { r with block := block, hostBytes := host, sending := sending, fifo := fifo }
  receive : ∀ r q, I r → (q.map InFlight.map).Sublist (r.inFlight.map InFlight.map) → I { r with inFlight := q }
  full : ∀ r isOver k q ranging mb, I r → r.control.state = .on →
    fullMap r isOver k (award q r.control.settings.reach) ranging = mb → I ((r.afterBuild k mb.1 mb.2).takeMap mb.1)
  empty : ∀ r p k, I r → r.control.state.live = true → I (r.takeMap (emptyMap p k))
  control : ∀ r c, I r → r.control.Moves c → I { r with control := c }
  respan : ∀ r n, I r → r.control.state = .on → 625 ≤ n ∧ n ≤ 6250 → fixedLimitsHold r.lanes n = true →
    I { r with control := { r.control with settings := { r.control.settings with reach := n } } }
  fault : ∀ r cause, I r → r.control.state.live = true → I (r.outOfService .fault cause)
  drain : ∀ (w : Work) (l : Leg), I (w.leg l) → (w.leg l).control.state.closed = false → I ((w.drainLeg l).leg l)
  restarted : ∀ r t, I r → I (r.restarted t)
  reset : ∀ l level, I
    { LegRecord.reset l with control := { (LegRecord.reset l).control with laserFault := level, faultSeen := level } }

/-! ### Equations of the operations that are no work in a scope -/

section
variable (w : Work) (l : Leg)

theorem Work.setLeg_eq (st : LegState) (cause : Option FaultCause) (n : Nat) :
    w.setLeg l st cause n =
      (w.mapLeg l fun r => { r with control := { r.control with state := st, cause := cause, roundsLeft := n } }).raise (some l) none
        (.legState st cause) := rfl

/-- A leg out of service, with its notice (R8, R12, R15). -/
theorem Work.leaveService_eq (st : LegState) (cause : Option FaultCause) :
    (w.setLeg l st cause).leaveService l =
      (w.mapLeg l fun r => r.outOfService st cause).raise (some l) none (.legState st cause) := by
  have h : ∀ (v : Work) (a : Option Leg) (b : Option Drop) (n : NoticeBody) (f : LegRecord → LegRecord),
      (v.raise a b n).mapLeg l f = (v.mapLeg l f).raise a b n := fun _ _ _ _ _ => rfl
  simp only [Work.leaveService, Work.emptyFifo, Work.discardDown, Work.disarmForLeg, Work.mapStats_eq, Work.mapMonitor_eq,
    Work.setLeg_eq, h, Work.mapLeg_mapLeg, Work.raise_leg, Work.leg_mapLeg_self]
  rfl

/-- The orders of a round settled, chosen and sent (R43 to R50). -/
def Work.ordersSent : Work × List OrderPlace :=
  ((if (w.leg l).control.state == .on then w.settleWaits l else w).retryOrders l).sendOrders l

/-- The round a leg begins, in its three parts: orders, map, assembly. -/
theorem Work.beginRound_eq :
    w.beginRound l =
      if (w.leg l).control.state.sends then
        (if (w.leg l).control.state == .on then (w.ordersSent l).1.buildFull l else (w.ordersSent l).1.buildEmpty l).assemble l
          (w.ordersSent l).2
      else w := by
  unfold Work.beginRound Work.ordersSent
  dsimp only

/-- The tail window awarded, and the counts that a full build moves at its start (R90, R93, R123). -/
def Work.windowAwarded : Work := (w.awardWindow l).1.mapLeg l fun r => { r with drops := r.drops.map DropEntry.buildStarts }

/-- The map of a full build and its grants. -/
def Work.mapBuilt : GrantMap × Build :=
  fullMap ((w.windowAwarded l).leg l) ((w.windowAwarded l).overQuota l) (w.windowAwarded l).stamp (w.awardWindow l).2.1
    (w.awardWindow l).2.2

theorem Work.buildFull_eq :
    w.buildFull l =
      (w.windowAwarded l).mapLeg l fun r =>
        (r.afterBuild (w.windowAwarded l).stamp (w.mapBuilt l).1 (w.mapBuilt l).2).takeMap (w.mapBuilt l).1 := by
  unfold Work.buildFull Work.windowAwarded Work.mapBuilt Work.windowAwarded
  dsimp only
  generalize w.awardWindow l = awarded
  generalize fullMap _ _ _ _ _ = built
  rfl

/-- The window awarded is the award of the requests of the round. -/
theorem Work.awardWindow_window :
    (w.awardWindow l).2.1 = award ((w.leg l).requestsAt w.stamp) (w.leg l).control.settings.reach := by
  unfold Work.awardWindow
  dsimp only
  split <;> rfl

/-- The frames of a round and the work behind its fill (R10, R164, R165). -/
def Work.filled (os : List OrderPlace) : Work × List Frame :=
  if (w.leg l).control.state == .preparing then (w, []) else w.fill l (128000 - (w.header l os (w.mapNow l)).length)

theorem Work.assemble_eq (os : List OrderPlace) :
    w.assemble l os =
      (w.filled l os).1.mapLeg l fun r => { r with sending := some ⟨w.header l os (w.mapNow l), (w.filled l os).2⟩ } := rfl

/-- The allowances set and the FIFO's frames decided, the FIFO not yet replaced (R164, R165). -/
def Work.drained? (room : Nat) : Work × List Frame × List Frame :=
  fillFrames l (w.leg l).fifo room []
    (w.mapLeg l fun r => { r with allowance := Vector.replicate 128 r.control.settings.downThrottle })

theorem Work.fill_eq (room : Nat) :
    w.fill l room = ((w.drained? l room).1.mapLeg l fun r => { r with fifo := (w.drained? l room).2.2 }, (w.drained? l room).2.1) := by
  unfold Work.fill Work.drained?
  simp only [Work.leg_mapLeg_self]

end

end Sys2Proof.Machine
end

section
set_option Elab.async false -- one theorem after another: side by side they ask for more threads than the check's memory limit grants
/-! PROOFS. Every event, every boundary and every request keeps a `LegKept` property of every leg. -/

namespace Sys2Proof.Machine

/-! ### More operations in their scope -/

namespace Work.Reach

variable {l : Leg} {σ : Scope} {w₀ w : Work} {d : Drop}

/-- What a leg fault makes of one entry, up to its states (R15). -/
theorem faultDrop (h : Reach l σ w₀ w) (ht : σ.touches d) : Reach l σ w₀ (w.faultDrop l d) := by
  have lose : ∀ st saved, (w.drop l d).state = st → st.resting = false → Reach l σ w₀ (w.lose l d .legFault saved) :=
    fun st saved hs hr => h.lose (h.used d (by rw [hs, hr])) ht
  unfold Work.faultDrop
  dsimp only
  split
  · next hs => exact lose _ _ hs rfl
  · next hs => exact lose _ _ hs rfl
  · next hs => exact lose _ _ hs rfl
  · next hs => exact lose _ _ hs rfl
  · next hs =>
    split
    · exact lose _ _ hs rfl
    · exact lose _ _ hs rfl
    · exact h.vacate
  · next hs =>
    split
    · exact lose _ _ hs rfl
    · exact lose _ _ hs rfl
    · exact h.vacate
  · exact h

theorem restartMeter (h : Reach l σ w₀ w) (ht : σ.touches d) (hc : σ.causes .restart) : Reach l σ w₀ (w.restartMeter l d) := by
  unfold Work.restartMeter
  split
  · exact h
  · split
    · exact (h.writeEntry ht hc).setMeter (.inl ht)
    · exact h.setMeter (.inl ht)

/-- A lane created where the FIXED limits allow it. -/
theorem createLane {x : Lane} (h : Reach l σ w₀ w) (hu : σ.inUse)
    (hx : x.isFixed = true → fixedLimitsHold (putLane x (w.leg l).lanes) (w.leg l).control.settings.reach = true) :
    Reach l σ w₀ (w.createLane l x) := by
  obtain ⟨q, hq, e⟩ := w.createLanes_eq l [x]
  rw [List.foldl_cons, List.foldl_nil] at e
  rw [e]
  refine h.mapLeg { lanes := .inr ⟨hu, fun hl => ?_⟩, orders := .inr hq }
  cases hf : x.isFixed with
  | true => exact hx hf
  | false => exact fixedLimitsHold_putLane hf hl

/-- A lane stored in the place of another, under it or where the FIXED limits allow it. -/
theorem storeLane {n : Fin 256} {x y : Lane} {b : Bool} (h : Reach l σ w₀ w) (hu : σ.inUse) (hx : (w.leg l).lanes[n] = some x)
    (hy : y.Under x ∨ fixedLimitsHold ((w.leg l).lanes.set n.val (some y)) (w.leg l).control.settings.reach = true) :
    Reach l σ w₀ (w.storeLane l n y b) := by
  have k : Reach l σ w₀ (w.mapLeg l fun r => { r with lanes := r.lanes.set n.val (some y) }) := by
    rcases hy with hy | hy
    · exact h.mapLeg { lanes := .inl (.set_some hx hy) }
    · exact h.mapLeg { lanes := .inr ⟨hu, fun _ => hy⟩ }
  unfold Work.storeLane
  dsimp only
  split
  · exact k.generate
  · exact k

end Work.Reach

/-- The control record of a leg in ON, PREPARING or RETIMING, or in FAULT, is not changed by work in a scope. -/
theorem Work.Reach.control_eq {l : Leg} {σ : Scope} {w₀ w : Work} (h : Reach l σ w₀ w)
    (hc : (w₀.leg l).control.state.closed = false) : (w.leg l).control = (w₀.leg l).control := by
  refine LegControl.eq_of_service (congrArg (·.1) h.runs.leg.base) (fun hs => ?_) (fun hs => ?_) <;> simp [hs, LegState.closed] at hc

theorem LegState.closed_of_live {st : LegState} (h : st.live = true) : st.closed = false := by
  cases st <;> first | rfl | cases h

theorem LegState.sends_eq_live (st : LegState) : st.sends = st.live := by cases st <;> rfl

@[simp] theorem Work.judgeLevel_leg (w : Work) (k : Leg) : w.judgeLevel.leg k = w.leg k := by
  unfold Work.judgeLevel
  dsimp only
  split
  · rfl
  · split <;> rfl

/-- The property `I` of every leg's record, and, where the clock is asked for, its counters and its ring in range. -/
structure Work.All (I : LegRecord → Prop) (clock : Prop) (w : Work) : Prop where
  legs : ∀ k : Leg, I (w.leg k)
  time : clock → w.blocks.time.Ok

theorem Work.All.mapLeg {I : LegRecord → Prop} {clock : Prop} {w : Work} {l : Leg} {f : LegRecord → LegRecord} (h : w.All I clock)
    (hf : I (f (w.leg l))) : (w.mapLeg l f).All I clock where
  legs k := by
    by_cases hk : k = l
    · subst hk
      rwa [Work.leg_mapLeg_self]
    · rw [Work.leg_mapLeg_of_ne w l k f hk]
      exact h.legs k
  time := h.time

theorem Work.All.raise {I : LegRecord → Prop} {clock : Prop} {w : Work} {a : Option Leg} {b : Option Drop} {n : NoticeBody} (h : w.All I clock) :
    (w.raise a b n).All I clock := ⟨h.legs, h.time⟩

theorem Work.All.forLegs {I : LegRecord → Prop} {clock : Prop} {w : Work} {f : Leg → Work → Work} (h : w.All I clock)
    (hf : ∀ l w, w.All I clock → (f l w).All I clock) : (forLegs f w).All I clock := forLegs_preserves (Work.All I clock) f hf w h

theorem Work.All.judgeLevel {I : LegRecord → Prop} {clock : Prop} {w : Work} (h : w.All I clock) : w.judgeLevel.All I clock := by
  unfold Work.judgeLevel
  dsimp only
  split
  · exact ⟨h.legs, h.time⟩
  · split
    · exact ⟨h.legs, h.time⟩
    · exact h

/-- The clock changed within its ranges. -/
theorem Work.All.mapTime {I : LegRecord → Prop} {clock : Prop} {w : Work} {f : Timebase → Timebase} (h : w.All I clock) (hf : w.blocks.time.Ok → (f w.blocks.time).Ok) :
    (w.mapTime f).All I clock := ⟨h.legs, fun c => hf (h.time c)⟩

theorem Timebase.Ok.capture {t : Timebase} (h : t.Ok) : t.capture.Ok where
  beat := h.beat
  round := h.round
  cycle := h.cycle
  ring := by
    have := h.ring
    simp only [Timebase.capture, List.length_drop, List.length_append, List.length_singleton]
    omega
  captures := by
    simp only [Timebase.capture]
    omega

theorem Timebase.Ok.nextRound {t : Timebase} (h : t.Ok) : t.nextRound.Ok where
  beat := Nat.zero_le _
  round := by
    have := h.round
    simp only [Timebase.nextRound]
    split <;> omega
  cycle := by
    have := h.cycle
    simp only [Timebase.nextRound]
    split <;> omega
  ring := h.ring
  captures := h.captures

theorem Work.All.pulse {I : LegRecord → Prop} {clock : Prop} {w : Work} (h : w.All I clock) : w.pulse.All I clock := by
  unfold Work.pulse
  dsimp only
  split
  · exact (h.mapTime .capture).raise
  · exact h

section
variable {scope : LegRecord → Scope} {I : LegRecord → Prop} {clock : Prop} (hK : LegKept scope I) {w : Work} {l : Leg} {d : Drop}
include hK

namespace LegKept

theorem sends (r : LegRecord) : (scope r).sends := (hK.free r).1

theorem hears (r : LegRecord) : (scope r).hears := (hK.free r).2.1

theorem touches (r : LegRecord) (d : Drop) : (scope r).touches d := (hK.free r).2.2.1 d

theorem causes (r : LegRecord) (c : CloseCause) : (scope r).causes c := (hK.free r).2.2.2 c

/-- Work on a leg begins in its scope. -/
theorem start (h : w.All I clock) : Work.Reach l (scope (w.leg l)) w w := .start fun d hd => hK.used _ (h.legs l) d hd

/-- Work in the scope of a leg keeps `I` of every leg. -/
theorem reach {w' : Work} (h : w.All I clock) (k : Work.Reach l (scope (w.leg l)) w w') : w'.All I clock where
  legs j := by
    by_cases hj : j = l
    · subst hj
      exact hK.steps _ _ (h.legs j) k.runs.leg
    · rw [Work.outside_leg k.runs.outside hj]
      exact h.legs j
  time := by
    rw [Work.outside_time k.runs.outside]
    exact h.time

theorem mapControl {f : LegControl → LegControl} (h : w.All I clock) (hf : (w.leg l).control.Moves (f (w.leg l).control)) :
    (w.mapControl l f).All I clock := h.mapLeg (hK.control _ _ (h.legs l) hf)

theorem setLeg {st : LegState} {c : Option FaultCause} {n : Nat} (h : w.All I clock)
    (hf : (w.leg l).control.Moves { (w.leg l).control with state := st, cause := c, roundsLeft := n }) : (w.setLeg l st c n).All I clock :=
  (hK.mapControl h hf).raise

/-! ### Leg states -/

theorem recover (h : w.All I clock) : (w.recover l).All I clock := by
  unfold Work.recover
  dsimp only
  split
  · next hc =>
    simp only [Bool.and_eq_true, beq_iff_eq] at hc
    exact hK.setLeg h (.recover _ hc.1.1)
  · exact h

theorem endPreparing (h : w.All I clock) : (w.endPreparing l).All I clock := by
  unfold Work.endPreparing
  dsimp only
  split
  · next hc =>
    simp only [Bool.and_eq_true, beq_iff_eq] at hc
    exact hK.setLeg h (.prepared _ hc.1 hc.2)
  · exact h

theorem endRetiming (h : w.All I clock) : (w.endRetiming l).All I clock := by
  unfold Work.endRetiming
  dsimp only
  split
  · next hc =>
    simp only [Bool.and_eq_true, beq_iff_eq] at hc
    have k : (w.setLeg l .on).All I clock := hK.setLeg h (.retimed _ hc.1)
    have hl : ((w.setLeg l .on).leg l).control.state.live = true := by simp [Work.setLeg_eq, LegState.live]
    exact hK.reach k ((hK.start k).resumeSpan (hK.live _ (k.legs l) hl).1)
  · exact h

theorem advanceLeg (h : w.All I clock) : (w.advanceLeg l).All I clock :=
  hK.mapControl (hK.endRetiming (hK.endPreparing (hK.recover h))) (.round _)

theorem faultLeg {cause : FaultCause} (h : w.All I clock) : (w.faultLeg l cause).All I clock := by
  have serve (hl : (w.leg l).control.state.live = true) :
      (forDrops allDrops (fun d w => w.faultDrop l d) (((w.setLeg l .fault (some cause)).leaveService l).unhushAll l none)).All I clock := by
    have k : ((w.setLeg l .fault (some cause)).leaveService l).All I clock := by
      rw [Work.leaveService_eq]
      exact (h.mapLeg (hK.fault _ (some cause) (h.legs l) hl)).raise
    exact hK.reach k ((hK.start k).unhushAll.forDrops fun _ d _ k => k.faultDrop (hK.touches _ d))
  unfold Work.faultLeg
  split
  · next hs => exact serve (by rw [hs]; rfl)
  · next hs => exact serve (by rw [hs]; rfl)
  · next hs => exact serve (by rw [hs]; rfl)
  · next hs => exact hK.setLeg h (.drainFault _ cause hs)
  · exact h
  · exact h

theorem drainLeg (h : w.All I clock) (hs : (w.leg l).control.state.closed = false) : (w.drainLeg l).All I clock where
  legs k := by
    by_cases hk : k = l
    · subst hk
      exact hK.drain w k (h.legs k) hs
    · rw [Work.outside_leg (w.drainLeg_outside l) hk]
      exact h.legs k
  time := by
    rw [Work.outside_time (w.drainLeg_outside l)]
    exact h.time

theorem legOn {n : Nat} (h : w.All I clock) (hs : (w.leg l).control.state = .off) (hn : 625 ≤ n ∧ n ≤ 6250) : (w.legOn l n).All I clock := by
  unfold Work.legOn
  dsimp only
  split
  · rw [Work.setLeg_eq, Work.mapLeg_mapLeg]
    exact (h.mapLeg (hK.steps _ _ (hK.control _ _ (h.legs l) (.turnOnFaulty _ n hs hn)) {})).raise
  · rw [Work.setLeg_eq, Work.mapLeg_mapLeg, Work.mapLeg_mapLeg]
    exact (h.mapLeg (hK.steps _ _ (hK.control _ _ (h.legs l) (.turnOn _ n hs hn)) {})).raise

theorem changeReach {n : Nat} {x : Int} (h : w.All I clock) (hs : (w.leg l).control.state = .on) (hn : 625 ≤ n ∧ n ≤ 6250)
    (hl : fixedLimitsHold (w.leg l).lanes n = true) : (w.changeReach l n x).All I clock := by
  unfold Work.changeReach
  dsimp only
  generalize hv : w.mapLeg l _ = v
  have hon : (v.leg l).control.state = .on := by rw [← hv]; simpa using hs
  have k : v.All I clock := by
    rw [← hv]
    refine h.mapLeg (hK.steps _ _ (hK.receive _ ((w.leg l).inFlight.map fun m => { m with reachChanged := true })
      (hK.respan _ n (h.legs l) hs hn hl) ?_) {})
    simp [Function.comp_def]
  have moved : Work.Reach l (scope (v.leg l)) v
      ((forDrops allDrops (fun d w => w.reachDrop l n x d) v).queueOrder l
        (.queued (.shiftDelay x (forDrops allDrops (fun d w => w.reachDrop l n x d) v).stamp.round) none)) :=
    ((hK.start k).forDrops fun _ d _ k => k.reachDrop (hK.touches _ d)).queueOrder
  have hc := moved.control_eq (by rw [hon]; rfl)
  have k := hK.reach k moved
  have k := hK.setLeg (st := .retiming) (c := none) (n := 4) k (by
    rw [hc]
    exact .retiming _ hon)
  refine hK.reach k ((hK.start k).mapMonitor (.inl (hK.live _ (k.legs l) ?_).1))
  simp [Work.setLeg_eq, LegState.live]

/-! ### The round boundary -/

theorem assemble {os : List OrderPlace} (h : w.All I clock) : (w.assemble l os).All I clock := by
  rw [Work.assemble_eq]
  have filled : (w.filled l os).1.All I clock := by
    unfold Work.filled
    split
    · exact h
    · rw [Work.fill_eq]
      dsimp only
      have k : (w.drained? l (128000 - (w.header l os (w.mapNow l)).length)).1.All I clock :=
        hK.reach h ((Work.Reach.mapLeg (f := fun r => { r with allowance := Vector.replicate 128 r.control.settings.downThrottle })
          (hK.start h)).fillFrames fun f _ => hK.touches _ f.drop)
      refine k.mapLeg ?_
      exact hK.idle _ _ _ _ _ (k.legs l)
  refine filled.mapLeg ?_
  exact hK.idle _ _ _ _ _ (filled.legs l)

theorem ordersSent_reach (h : w.All I clock) : Work.Reach l (scope (w.leg l)) w (w.ordersSent l).1 := by
  unfold Work.ordersSent
  refine (Work.Reach.retryOrders ?_).sendOrders (hK.sends _)
  split
  · next hon =>
    refine (hK.start h).settleWaits (hK.live _ (h.legs l) ?_).2 fun _ _ _ d _ => hK.touches _ d
    rw [beq_iff_eq.mp hon]; rfl
  · exact hK.start h

theorem buildEmpty (h : w.All I clock) (hs : (w.leg l).control.state.live = true) : (w.buildEmpty l).All I clock := by
  refine h.mapLeg (hK.empty { w.leg l with requests := WindowRequests.none } _ _ ?_ hs)
  exact hK.steps _ _ (h.legs l) {}

theorem windowAwarded_reach (h : w.All I clock) (hs : (w.leg l).control.state = .on) :
    Work.Reach l (scope (w.leg l)) w (w.windowAwarded l) := by
  have hu : (scope (w.leg l)).inUse := (hK.live _ (h.legs l) (by rw [hs]; rfl)).2
  exact Work.Reach.mapLeg (f := fun r => { r with drops := r.drops.map DropEntry.buildStarts }) ((hK.start h).awardWindow hu)
    { drops := .inl hu }

theorem buildFull (h : w.All I clock) (hs : (w.leg l).control.state = .on) : (w.buildFull l).All I clock := by
  have awarded := hK.windowAwarded_reach (l := l) h hs
  have hc := awarded.control_eq (by rw [hs]; rfl)
  have k := hK.reach h awarded
  rw [Work.buildFull_eq]
  refine k.mapLeg ?_
  unfold Work.mapBuilt
  rw [Work.awardWindow_window, ← hc]
  exact hK.full _ _ _ _ _ _ (k.legs l) (by rw [hc]; exact hs) rfl

theorem beginRound (h : w.All I clock) : (w.beginRound l).All I clock := by
  rw [Work.beginRound_eq]
  split
  · next hs =>
    rw [LegState.sends_eq_live] at hs
    have sent := hK.ordersSent_reach (l := l) h
    have hc := sent.control_eq (LegState.closed_of_live hs)
    have k := hK.reach h sent
    refine hK.assemble ?_
    split
    · next hon => exact hK.buildFull k (by rw [hc]; exact beq_iff_eq.mp hon)
    · exact hK.buildEmpty k (by rw [hc]; exact hs)
  · exact h

theorem schedule {r : LegRecord} {x : DiscoverySchedule} (h : I r) : I { r with schedule := x } := hK.steps _ _ h {}

theorem legBoundary (h : w.All I clock) : (w.legBoundary l).All I clock := by
  unfold Work.legBoundary
  have k := hK.reach h ((hK.start (l := l) h).holdoffTick fun hm => (hK.armed _ (h.legs l) hm).1)
  have k := hK.reach k ((hK.start (l := l) k).suspectTimeout fun hm => (hK.armed _ (k.legs l) hm).1)
  have k := hK.reach k (hK.start (l := l) k).stepTick
  have k := hK.advanceLeg (l := l) k
  have k := hK.reach k ((hK.start (l := l) k).forDrops (ds := allDrops) fun _ d _ k =>
    k.holdTick (hK.touches _ d) (hK.causes _ _))
  exact hK.beginRound (k.mapLeg (hK.schedule (k.legs l)))

theorem boundaryCloses (h : w.All I clock) : w.boundaryCloses.All I clock := by
  have k := h.forLegs (f := fun l v => forDrops allDrops (fun d v =>
      if w.blocks.periodDue w.stamp then (v.closeMeter l d .period).1
      else if v.blocks.hostClose[l] then (v.closeMeter l d .host).1 else v) v) fun l v h => by
    refine hK.reach (l := l) h ((hK.start h).forDrops fun v d _ k => ?_)
    split
    · exact k.closeMeter (hK.touches _ d) (hK.causes _ _)
    · split
      · exact k.closeMeter (hK.touches _ d) (hK.causes _ _)
      · exact k
  unfold Work.boundaryCloses
  dsimp only
  generalize forLegs _ w = v at k
  exact ⟨k.legs, k.time⟩

theorem blockBoundary (h : w.All I clock) : w.blockBoundary.All I clock := by
  have k : w.applyBand.All I clock := by
    unfold Work.applyBand
    dsimp only
    split <;> exact ⟨h.legs, h.time⟩
  unfold Work.blockBoundary Work.composeBlocks
  refine k.forLegs fun l w h => h.mapLeg ?_
  exact hK.idle _ _ _ _ _ (h.legs l)

theorem boundary (h : w.All I clock) : w.boundary.All I clock := by
  have k : (if w.stamp.round % 64 = 0 then w.blockBoundary else w).All I clock := by
    split
    · exact hK.blockBoundary h
    · exact h
  exact (hK.boundaryCloses k).forLegs fun _ _ h => hK.legBoundary h

/-! ### The events -/

theorem takeReport {r : RoundReport} (h : w.All I clock) : (w.takeReport l r).All I clock :=
  hK.reach h ((hK.start h).takeReport (fun hm => hK.armed _ (h.legs l) hm) (hK.touches _))

/-- The map being received changed in what was judged of it (R103). -/
theorem mapReceiving {f : InFlight → InFlight} {r : LegRecord} (h : I r) (hf : ∀ m, (f m).map = m.map) : I (r.mapReceiving f) := by
  refine hK.receive _ _ h ?_
  cases r.inFlight with
  | nil => exact List.Sublist.refl _
  | cons m ms => simp [hf]

theorem windowEnds {x : WindowLight} (h : w.All I clock) : (w.windowEnds l x).All I clock := by
  unfold Work.windowEnds
  split
  · next m b _ _ =>
    dsimp only
    have k : (w.mapLeg l fun r => r.keepOutcome b x m.map.round).All I clock :=
      h.mapLeg (hK.steps _ _ (hK.mapReceiving (f := fun m => m.judge (classify b x) (w.leg l).histories[b.drop].qualifies) (h.legs l)
        fun _ => rfl) {})
    split
    · exact hK.reach k ((hK.start k).deliverClean (hK.touches _ _))
    · exact hK.reach k ((hK.start k).missBurst (hK.touches _ _))
  · exact h

theorem discoveryEnds {light : FrameLight} {as : List FoundAnnounce} (h : w.All I clock) : (w.discoveryEnds l light as).All I clock := by
  unfold Work.discoveryEnds
  split
  · exact h
  · next m hm =>
    split
    · exact h
    · dsimp only
      generalize hv : w.mapLeg l _ = v
      have k : v.All I clock := by
        rw [← hv]
        exact h.mapLeg (hK.steps _ _ (hK.mapReceiving (f := fun m => { m with windowDone := true }) (h.legs l) fun _ => rfl) {})
      have hu : (scope (v.leg l)).inUse := by
        refine hK.receives _ (k.legs l) ?_
        rw [← hv, Work.leg_mapLeg_self]
        unfold LegRecord.receiving at hm
        cases hi : (w.leg l).inFlight with
        | nil => simp [hi] at hm
        | cons x xs => simp [LegRecord.windowReported, LegRecord.mapReceiving, hi]
      exact hK.reach k ((hK.start k).foldl fun _ _ _ k => k.matchAnnounce hu (hK.hears _))

theorem rangingEnds {bs : List FoundBurst} (h : w.All I clock) : (w.rangingEnds l bs).All I clock := by
  unfold Work.rangingEnds
  split
  · exact h
  · split
    · dsimp only
      generalize hv : w.mapLeg l _ = v
      have k : v.All I clock := by
        rw [← hv]
        exact h.mapLeg (hK.steps _ _ (hK.mapReceiving (f := fun m => { m with windowDone := true }) (h.legs l) fun _ => rfl) {})
      exact hK.reach k ((hK.start k).takeRanging (hK.touches _ _))
    · exact h

theorem roundReceived {light : FrameLight} (h : w.All I clock) : (w.roundReceived l light).All I clock := by
  unfold Work.roundReceived
  split
  · exact h
  · exact hK.takeReport (h.mapLeg (hK.receive _ _ (h.legs l) (by
      rw [List.map_drop]
      exact List.drop_sublist _ _)))

theorem writeHeld (h : w.All I clock) : w.writeHeld.All I clock :=
  h.forLegs fun _ _ h => hK.reach h ((hK.start h).forDrops fun _ d _ k => k.writeHeldMeter (hK.touches _ d) (hK.causes _))

theorem frameArrives {tag : BitVec 32} {data : List Byte} (h : w.All I clock) : (w.frameArrives tag data).All I clock := by
  unfold Work.frameArrives
  dsimp only
  split
  · exact h.mapLeg (hK.idle _ _ _ _ _ (h.legs _))
  · exact hK.reach h (hK.start h).discardDown

theorem lock (h : w.All I clock) : w.lock.All I clock := by
  have ht : w.blocks.time.Ok → ({ w.blocks.time with part := .ready, everLocked := true } : Timebase).Ok :=
    fun ⟨hb, hr, hc, hn, hp⟩ => ⟨hb, hr, hc, hn, hp⟩
  unfold Work.lock
  dsimp only
  split
  · split
    · exact (h.mapTime ht).raise
    · refine ((h.mapTime ht).forLegs fun l w h => hK.mapControl h ?_).raise
      exact .levels _ _ _
  · exact h

theorem unlock (h : w.All I clock) : w.unlock.All I clock := by
  unfold Work.unlock
  split
  · exact (h.mapTime fun ⟨hb, hr, hc, hn, hp⟩ => ⟨hb, hr, hc, hn, hp⟩).forLegs fun l w h => hK.faultLeg h
  · exact h

/-- Every event taken now keeps `I` of every leg. -/
theorem now {c : Instr} {f : Work → Work} (hc : c.Now f) (h : w.All I clock) : (f w).All I clock := by
  cases hc with
  | lock => exact hK.lock h
  | unlock => exact hK.unlock h
  | pulse => exact h.pulse
  | laserFault l => exact hK.faultLeg (hK.mapControl h (.levels _ _ _))
  | laserFree l => exact hK.mapControl h (.levels _ _ _)
  | windowEnds l x => exact hK.windowEnds h
  | lastMiss l d => exact hK.reach h ((hK.start h).lastMiss (hK.touches _ d))
  | lastDrift l d v => exact hK.reach h (hK.start h).lastDrift
  | discoveryEnds l x as => exact hK.discoveryEnds h
  | rangingEnds l bs => exact hK.rangingEnds h
  | roundReceived l x => exact hK.roundReceived h
  | spanEnds l r =>
    dsimp only [Work.spanEnds]
    split
    · exact hK.takeReport h
    · exact h
  | stepReads l r =>
    dsimp only [Work.stepReads]
    split
    · exact hK.takeReport h
    · exact h
  | frameArrives tag data => exact hK.frameArrives h
  | writeHeld => exact hK.writeHeld h
  | completeRetirement l d => exact hK.reach h ((hK.start h).completeRetirement (hK.touches _ d))
  | drained l => exact hK.reach h (hK.start h).drained

/-- Every event taken at the next boundary keeps `I` of every leg. -/
theorem atBoundary {c : Instr} {f : Work → Work} (hc : c.AtBoundary f) (h : w.All I clock) : (f w).All I clock := by
  cases hc with
  | endPreparing l => exact hK.endPreparing h
  | endRetiming l => exact hK.endRetiming h
  | recover l => exact hK.recover h
  | holdExpires l d => exact hK.reach h ((hK.start h).holdExpires (hK.touches _ d) (hK.causes _ _))
  | discoveryDue l => exact hK.reach h (hK.start h).discoveryDue
  | wakeCheckDue l d => exact hK.reach h (hK.start h).wakeCheckDue
  | resendFallsDue l d => exact hK.reach h (hK.start h).resendFallsDue
  | waitFails l d =>
    exact hK.reach h ((hK.start h).waitFails (fun hon => (hK.live _ (h.legs l) (by rw [hon]; rfl)).2) (hK.touches _ d))
  | retryOrders l => exact hK.reach h (hK.start h).retryOrders
  | suspectTimeout l => exact hK.reach h ((hK.start h).suspectTimeout fun hm => (hK.armed _ (h.legs l) hm).1)
  | holdoffExpires l => exact hK.reach h ((hK.start h).holdoffExpires fun hm => (hK.armed _ (h.legs l) hm).1)

end LegKept

end

end Sys2Proof.Machine
end

section
set_option Elab.async false -- one theorem after another: side by side they ask for more threads than the check's memory limit grants
/-! PROOFS. Every request keeps a `LegKept` property of every leg; so does every step. -/

namespace Sys2Proof.Machine

theorem Answer.ok_work (b : ReplyBody) (p : Port) (w : Work) : (Answer.ok b p w).work = w := rfl

/-- A handler keeps a property of the work. -/
def Handler.Keeps (P : Work → Prop) (h : Handler) : Prop := ∀ p w, P w → P (h p w).work

theorem onLeg_keeps {P : Work → Prop} {b : Byte} {h : Leg → Handler} (hh : ∀ l, (h l).Keeps P) : Handler.Keeps P (onLeg b h) := by
  intro p w hw
  unfold onLeg
  split
  · exact hh _ p w hw
  · exact hw

theorem onDrop_keeps {P : Work → Prop} {b c : Byte} {h : Leg → Drop → Handler} (hh : ∀ l d, (h l d).Keeps P) :
    Handler.Keeps P (onDrop b c h) := by
  intro p w hw
  unfold onDrop
  split
  · exact hh _ _ p w hw
  · exact hw

theorem Lane.moveTo_isFixed (x : Lane) (q : Fin 4) : (x.moveTo q).isFixed = x.isFixed := by
  unfold Lane.moveTo
  split <;> rfl

theorem Lane.moveTo_owner (x : Lane) (q : Fin 4) : (x.moveTo q).owner = x.owner := by
  unfold Lane.moveTo
  split <;> rfl

theorem Lane.withFigures_owner (x : Lane) (f : LaneFigures) : (x.withFigures f).owner = x.owner := by cases f <;> rfl

theorem Lane.withFigures_figures (x : Lane) (f : LaneFigures) : (x.withFigures f).figures = f := by cases f <;> rfl

/-- Figures of the class a byte names. -/
theorem readFigures_classByte {c : Byte} {a b : BitVec 16} {f : LaneFigures} (h : readFigures c a b = some f) : f.classByte = c := by
  unfold readFigures at h
  dsimp only at h
  split at h
  · next hc =>
    split at h
    · cases h; exact hc.symm
    · cases h
  · split at h
    · next hc =>
      split at h
      · cases h; exact hc.symm
      · cases h
    · split at h
      · next hc =>
        split at h
        · cases h; exact hc.symm
        · cases h
      · cases h

/-- A lane changed within its class, with no more FIXED beats, adds nothing to the FIXED load (R85). -/
theorem Lane.changed_under {x : Lane} {f : LaneFigures} {q : Fin 4} (hc : f.classByte = x.figures.classByte)
    (hb : ((x.withFigures f).moveTo q).fixedBeats ≤ x.fixedBeats) : ((x.withFigures f).moveTo q).Under x where
  owner := by rw [Lane.moveTo_owner, Lane.withFigures_owner]
  beats := hb
  fixed := by
    rw [Lane.moveTo_isFixed]
    unfold Lane.isFixed
    rw [Lane.withFigures_figures]
    revert hc
    cases f <;> cases x.figures <;> simp [LaneFigures.classByte]

/-- The pulse ring emptied, the enrolment list and the close requests changed (R206). -/
theorem Work.All.clearPulse {I : LegRecord → Prop} {clock : Prop} {w : Work} (h : w.All I clock) (enrol : Vector (Option EnrolEntry) 512)
    (hostClose : Vector Bool 4) :
    Work.All I clock
      { w with
        blocks :=
          { w.blocks with time := { w.blocks.time with ring := [], captures := 0 }, enrol := enrol, hostClose := hostClose } } where
  legs := h.legs
  time c := ⟨(h.time c).beat, (h.time c).round, (h.time c).cycle, by simp, by simp⟩

section
variable {scope : LegRecord → Scope} {I : LegRecord → Prop} {clock : Prop} (hK : LegKept scope I) {w : Work}
include hK

namespace LegKept

/-! ### The requests on legs, drops and lanes -/

theorem doLegOn (b : Byte) (n : BitVec 16) : Handler.Keeps (Work.All I clock) (doLegOn b n) := onLeg_keeps fun l p w h => by
  split
  · exact h
  · next hn =>
    split
    · exact h
    · next hs => exact hK.legOn h (by simpa using hs) (by simpa [reachInRange] using hn)

theorem doLegOff (b : Byte) : Handler.Keeps (Work.All I clock) (doLegOff b) := onLeg_keeps fun l p w h => by
  split
  · next hs => rw [Answer.ok_work]; exact hK.drainLeg h (by rw [hs]; rfl)
  · next hs => rw [Answer.ok_work]; exact hK.drainLeg h (by rw [hs]; rfl)
  · next hs => rw [Answer.ok_work]; exact hK.drainLeg h (by rw [hs]; rfl)
  · next hs => rw [Answer.ok_work]; exact hK.drainLeg h (by rw [hs]; rfl)
  · exact h
  · exact h

theorem doLegSet (b : Byte) (x : WireLegSet) : Handler.Keeps (Work.All I clock) (doLegSet b x) := onLeg_keeps fun l p w h => by
  dsimp only
  split
  · exact h
  · rw [Answer.ok_work]
    refine hK.mapControl h ?_
    exact .settings _ _ rfl

theorem doSetReach (b : Byte) (n : BitVec 16) : Handler.Keeps (Work.All I clock) (doSetReach b n) := onLeg_keeps fun l p w h => by
  dsimp only
  split
  · exact h
  · next hn =>
    split
    · exact h
    · next hb =>
      split
      · exact h
      · split
        · exact h
        · next hl =>
          split
          · exact h
          · simp only [Bool.or_eq_true, bne_iff_ne, ne_eq, not_or, Decidable.not_not] at hb
            exact hK.changeReach h hb.1 (by simpa [reachInRange] using hn) (by simpa using hl)

theorem doAnnounceSet (b : Byte) (x : Vector Byte 40) : Handler.Keeps (Work.All I clock) (doAnnounceSet b x) := onLeg_keeps fun l p w h => by
  rw [Answer.ok_work]
  refine h.mapLeg ?_
  exact hK.idle _ _ _ _ _ (h.legs l)

theorem doStrangerRead (b c : Byte) : Handler.Keeps (Work.All I clock) (doStrangerRead b c) := onLeg_keeps fun l p w h => by
  dsimp only [Answer.ok]
  split
  · exact h
  · exact h.mapLeg (hK.steps _ _ (h.legs l) { strangers := .inl (hK.hears _) })

theorem doAdmit (b c : Byte) : Handler.Keeps (Work.All I clock) (doAdmit b c) := onDrop_keeps fun l d p w h => by
  split
  · next hs => exact hK.reach h ((hK.start h).serveDrop (hK.used _ (h.legs l) d (by rw [← Work.drop, hs]; rfl)))
  · exact h

theorem doDismiss (b c : Byte) : Handler.Keeps (Work.All I clock) (doDismiss b c) := onDrop_keeps fun l d p w h => by
  dsimp only
  split
  · exact h
  · split
    · exact h
    · exact hK.reach h ((hK.start h).dismiss (hK.touches _ d) (hK.causes _ _))

theorem doLaneAdd (b c q k : Byte) (x y : BitVec 16) : Handler.Keeps (Work.All I clock) (doLaneAdd b c q k x y) :=
  onDrop_keeps fun l d p w h => by
    dsimp only
    split
    · split
      · exact h
      · next ho =>
        have hu : (scope (w.leg l)).inUse := hK.used _ (h.legs l) d (by
          revert ho
          cases (w.leg l).drops[d].state <;> simp [DropState.laneOpen, DropState.resting])
        split
        · exact h
        · split
          · exact h
          · split
            · exact h
            · next hf =>
              split
              · exact h
              · refine hK.reach h ((hK.start h).createLane hu fun hx => ?_).generate
                simpa [hx] using hf
    · exact h

theorem doLaneChange (b n k q : Byte) (x y : BitVec 16) : Handler.Keeps (Work.All I clock) (doLaneChange b n k q x y) :=
  onLeg_keeps fun l p w h => by
    dsimp only
    split
    · exact h
    · next q _ =>
      split
      · exact h
      · split
        · exact h
        · next x hx =>
          split
          · exact h
          · next f hf =>
            split
            · exact h
            · next hc =>
              split
              · exact h
              · split
                · exact h
                · split
                  · exact h
                  · next hl =>
                    split
                    · exact h
                    · refine hK.reach h ((hK.start h).storeLane (hK.lanes _ (h.legs l) _ _ hx) hx ?_)
                      simp only [Bool.and_eq_true, decide_eq_true_eq, Bool.not_eq_true', not_and, Bool.not_eq_false] at hl
                      rcases Nat.lt_or_ge x.fixedBeats ((x.withFigures f).moveTo q).fixedBeats with hb | hb
                      · exact .inr (hl hb)
                      · exact .inl (Lane.changed_under ((readFigures_classByte hf).trans (by simpa using hc)) hb)

theorem doLaneRemove (b n : Byte) : Handler.Keeps (Work.All I clock) (doLaneRemove b n) := onLeg_keeps fun l p w h => by
  dsimp only
  split
  · exact h
  · split
    · exact h
    · split
      · exact h
      · exact hK.reach h (hK.start h).removeLane

theorem doSleep (b c : Byte) (n : BitVec 16) : Handler.Keeps (Work.All I clock) (doSleep b c n) := onDrop_keeps fun l d p w h => by
  dsimp only
  split
  · exact h
  · split
    · exact h
    · exact hK.reach h (hK.start h).queueOrder

theorem queueWake (l : Leg) (d : Drop) : Handler.Keeps (Work.All I clock) (queueWake l d) := fun p w h => by
  unfold Machine.queueWake
  split
  · exact hK.reach h (hK.start h).queueOrder
  · exact h

theorem doWake (b c : Byte) : Handler.Keeps (Work.All I clock) (doWake b c) := onDrop_keeps fun l d p w h => by
  dsimp only
  split
  · split
    · exact h
    · exact hK.queueWake l d p w h
  · split
    · exact h
    · split
      · split
        · exact hK.queueWake l d p _ (hK.reach h (hK.start h).mapDrop)
        · exact h
      · split
        · exact hK.reach h (hK.start h).dropQueuedSleep
        · exact h
  · exact h

/-! ### The requests on the monitor -/

theorem doRogueSet (b : Byte) (x : WireRogue) : Handler.Keeps (Work.All I clock) (doRogueSet b x) := onLeg_keeps fun l p w h => by
  dsimp only
  split
  · split
    · exact h
    · split
      · exact h
      · exact hK.reach h ((hK.start h).rogueSettings fun hm => (hK.armed _ (h.legs l) hm).1)
  · exact h

theorem doRogueArm (b : Byte) : Handler.Keeps (Work.All I clock) (doRogueArm b) := onLeg_keeps fun l p w h => by
  split
  · exact h
  · split
    · next hs => exact hK.reach h ((hK.start h).arm (hK.live _ (h.legs l) (by rw [hs]; rfl)).1)
    · exact h

theorem doRogueDisarm (b : Byte) : Handler.Keeps (Work.All I clock) (doRogueDisarm b) := onLeg_keeps fun l p w h => by
  have ha : (w.leg l).monitor.state ≠ .disarmed → (scope (w.leg l)).armed := fun hm => (hK.armed _ (h.legs l) hm).1
  split
  · exact h
  · next hs => exact hK.reach h ((hK.start h).abandonHunt (ha (by rw [hs]; decide)))
  · next hs => exact hK.reach h ((hK.start h).abandonHunt (ha (by rw [hs]; decide)))
  · next hs => exact hK.reach h ((hK.start h).disarmByHost (ha (by rw [hs]; decide)))
  · next hs => exact hK.reach h ((hK.start h).disarmByHost (ha (by rw [hs]; decide)))
  · next hs => exact hK.reach h ((hK.start h).disarmByHost (ha (by rw [hs]; decide)))

theorem doRelease (b c : Byte) : Handler.Keeps (Work.All I clock) (doRelease b c) := onDrop_keeps fun l d p w h => by
  split
  · next hs => exact hK.reach h ((hK.start h).release (hK.used _ (h.legs l) d (by rw [← Work.drop, hs]; rfl)))
  · exact h

/-! ### The requests on the enrolment list, quotas and the journal -/

theorem doEnrolAdd (x : WireEnrol) : Handler.Keeps (Work.All I clock) (doEnrolAdd x) := fun p w h => by
  unfold Machine.doEnrolAdd
  split
  · exact h
  · split
    · exact h
    · split
      · exact h
      · next e _ _ _ i _ =>
        have k : ({ w with blocks := { w.blocks with enrol := w.blocks.enrol.set i.val (some e) } } : Work).All I clock := ⟨h.legs, h.time⟩
        rw [Answer.ok_work]
        unfold Work.enrolAt
        refine k.forLegs fun l w h => h.mapLeg ?_
        exact hK.steps _ _ (h.legs l) { strangers := .inl (hK.hears _) }

theorem doQuotaSet (a : BitVec 32) (q : BitVec 64) : Handler.Keeps (Work.All I clock) (doQuotaSet a q) := fun p w h => by
  unfold Machine.doQuotaSet
  split
  · exact h
  · split
    · exact h
    · next i _ =>
      dsimp only [Answer.ok]
      unfold Work.setQuota
      dsimp only
      have k : (w.mapEnrol i fun e => { e with quota := q.toNat }).All I clock := ⟨h.legs, h.time⟩
      split
      · exact k
      · split
        · exact hK.reach k ((hK.start k).clearQuota (hK.touches _ _))
        · exact hK.reach k ((hK.start k).judgeQuota (hK.touches _ _))

theorem doJournalRelease (q : BitVec 32) : Handler.Keeps (Work.All I clock) (doJournalRelease q) := fun p w h => by
  have k : (w.releaseEntries q.toNat).All I clock := by
    unfold Work.releaseEntries
    dsimp only
    split
    · exact ⟨h.legs, h.time⟩
    · refine Work.All.judgeLevel ?_
      exact ⟨h.legs, h.time⟩
  unfold Machine.doJournalRelease
  rw [Answer.ok_work]
  exact hK.writeHeld k

/-! ### RESTART -/

theorem restart (h : w.All I clock) : w.restart.All I clock := by
  have closed : (forLegs (fun l w => forDrops allDrops (fun d w => w.restartMeter l d) w) w).All I clock :=
    h.forLegs fun l w h => hK.reach (l := l) h ((hK.start h).forDrops fun _ d _ k => k.restartMeter (hK.touches _ d) (hK.causes _ _))
  have k := closed.forLegs (f := fun l w => w.restartLeg l) fun l w h => by
    unfold Work.restartLeg
    dsimp only
    split
    · exact h.mapLeg (hK.restarted _ _ (h.legs l))
    · exact (h.mapLeg (hK.restarted _ _ (h.legs l))).raise
  exact k.clearPulse _ _

theorem doRestart : Handler.Keeps (Work.All I clock) doRestart := fun p w h => by
  unfold Machine.doRestart
  split
  · exact h
  · exact hK.restart h

/-! ### Every request, every step -/

/-- Every request keeps `I` of every leg, and the counters in range. -/
theorem request (q : Request) : Handler.Keeps (Work.All I clock) (runRequest q) := by
  cases q with
  | restart => exact hK.doRestart
  | legOn l n => exact hK.doLegOn l n
  | legOff l => exact hK.doLegOff l
  | legSet l x => exact hK.doLegSet l x
  | setReach l n => exact hK.doSetReach l n
  | announceSet l x => exact hK.doAnnounceSet l x
  | enrolAdd x => exact hK.doEnrolAdd x
  | enrolRemove x =>
    intro p w h
    dsimp only [runRequest, doEnrolRemove]
    split
    · exact h
    · split
      · exact h
      · exact ⟨h.legs, h.time⟩
  | enrolRead x =>
    intro p w h
    dsimp only [runRequest, doEnrolRead]
    split <;> exact h
  | strangerRead l c => exact hK.doStrangerRead l c
  | admitDrop l d => exact hK.doAdmit l d
  | dismiss l d => exact hK.doDismiss l d
  | laneAdd l d q c x y => exact hK.doLaneAdd l d q c x y
  | laneChange l n c q x y => exact hK.doLaneChange l n c q x y
  | laneRemove l n => exact hK.doLaneRemove l n
  | windowStats l =>
    refine onLeg_keeps fun l p w h => ?_
    rw [Answer.ok_work]
    exact hK.reach h (hK.start h).mapStats
  | sleep l d n => exact hK.doSleep l d n
  | wake l d => exact hK.doWake l d
  | rogueSet l x => exact hK.doRogueSet l x
  | rogueArm l => exact hK.doRogueArm l
  | rogueDisarm l => exact hK.doRogueDisarm l
  | release l d => exact hK.doRelease l d
  | quotaSet a q => exact hK.doQuotaSet a q
  | journalRelease q => exact hK.doJournalRelease q
  | journalWatermark v => exact fun p w h => Work.All.judgeLevel ⟨h.legs, h.time⟩
  | journalRead c m =>
    intro p w h
    dsimp only [runRequest, doJournalRead]
    split
    · exact h
    · exact ⟨h.legs, h.time⟩
  | bandSet b k c r =>
    intro p w h
    dsimp only [runRequest, doBandSet]
    split
    · exact h
    · split
      · exact ⟨h.legs, h.time⟩
      · exact h
    · split
      · exact h
      · exact ⟨h.legs, h.time⟩
  | bandQuotaSet f => exact fun p w h => ⟨h.legs, h.time⟩
  | periodSet n => exact fun p w h => ⟨h.legs, h.time⟩
  | closePeriod m =>
    intro p w h
    dsimp only [runRequest, doClosePeriod]
    split
    · exact h
    · exact ⟨h.legs, h.time⟩
  | portSet m k =>
    intro p w h
    dsimp only [runRequest, doPortSet]
    split <;> exact h
  | identify | status | clearLatch | pulseRead | bandRead => exact fun p w h => h
  | legStatus l | mapRead l | rogueRead l => exact onLeg_keeps fun l p w h => h
  | dropRead l d => exact onDrop_keeps fun l d p w h => h
  | laneRead l n =>
    refine onLeg_keeps fun l p w h => ?_
    dsimp only
    split <;> exact h
  | meterRead l d =>
    refine onDrop_keeps fun l d p w h => ?_
    split <;> exact h

/-- What beats, boundaries, events and requests keep: `I` of every leg, and the counters in range. -/
theorem kept : Blocks.Kept fun b => (∀ l : Leg, I b.legs[l]) ∧ (clock → b.time.Ok) where
  pinReset b h := by
    refine ⟨fun l => ?_, fun _ => ⟨Nat.zero_le _, Nat.zero_le _, Nat.zero_le _, Nat.zero_le _, Nat.zero_le _⟩⟩
    simp only [Blocks.pinReset, Fin.getElem_fin, Vector.getElem_ofFn, Fin.eta]
    exact hK.reset l _
  beat b h hb := ⟨h.1, fun c => ⟨Nat.succ_le_of_lt hb, (h.2 c).round, (h.2 c).cycle, (h.2 c).ring, (h.2 c).captures⟩⟩
  boundary b h _ := by
    obtain ⟨kl, kt⟩ := hK.boundary (w := Work.start b.atNextRound) ⟨h.1, fun c => (h.2 c).nextRound⟩
    exact ⟨kl, kt⟩
  now c f b hc h := by
    obtain ⟨kl, kt⟩ := hK.now hc (w := Work.start b) ⟨h.1, h.2⟩
    exact ⟨kl, kt⟩
  atBoundary c f b hc h _ := by
    obtain ⟨kl, kt⟩ := hK.atBoundary hc (w := Work.atNextBoundary b) ⟨h.1, h.2⟩
    exact ⟨kl, kt⟩
  request q p b h := by
    obtain ⟨kl, kt⟩ := hK.request q p (Work.start b) ⟨h.1, h.2⟩
    exact ⟨kl, kt⟩

/-- Every step keeps `I` of every leg. -/
theorem step {s t : State} (h : ∀ l : Leg, I (s.leg l)) (he : Machine.step s = .next t) : ∀ l : Leg, I (t.leg l) :=
  ((hK.kept (clock := False)).step ⟨h, False.elim⟩ he).1

end LegKept

end

end Sys2Proof.Machine
end

section
set_option Elab.async false -- one theorem after another: side by side they ask for more threads than the check's memory limit grants
/-! PROOFS. The steps, the clock and the lasers: the obligations that follow from the beat of an empty queue and from the `LegKept` rule. -/

namespace Sys2Proof.Machine

/-! ### The clock -/

/-- A property that says nothing of the legs: what is left of a `LegKept` rule is the clock. -/
theorem legKept_true : LegKept (fun _ => Scope.all) fun _ => True := by
  constructor <;> simp [Scope.all]

/-! ### The lasers -/

/-- The laser's accord does not tell DRAINING from OFF. -/
theorem LegControl.laserOk_service (c : LegControl) : c.service.LaserOk ↔ c.LaserOk := by
  by_cases h : c.state = .draining
  · constructor
    · rintro ⟨live, -, -⟩
      exact ⟨by simpa using live, by simp [h], by simp [h]⟩
    · rintro ⟨live, -, -⟩
      exact ⟨by simpa using live, by simp [LegControl.service, h], by simp [LegControl.service, h]⟩
  · rw [LegControl.service_of_ne h]

theorem LegControl.LaserOk.of_off {c : LegControl} (hs : c.state = .off) (ht : c.txen = false) : c.LaserOk :=
  ⟨by simp [ht], by simp [hs], by simp [hs]⟩

theorem LegControl.LaserOk.moves {c c' : LegControl} (h : c.LaserOk) (k : c.Moves c') : c'.LaserOk := by
  obtain ⟨live, serves, prepares⟩ := h
  cases k with
  | levels level seen => exact ⟨live, serves, prepares⟩
  | settings s hs => exact ⟨live, serves, prepares⟩
  | recover hs => exact ⟨fun _ => rfl, by simp, fun _ => .inr rfl⟩
  | prepared hs h0 =>
    have on : c.txen = true := (prepares hs).resolve_right (by omega)
    exact ⟨fun _ => rfl, fun _ => on, by simp⟩
  | retimed hs => exact ⟨fun _ => rfl, fun _ => serves (.inr hs), by simp⟩
  | retiming hs => exact ⟨fun _ => rfl, fun _ => serves (.inl hs), by simp⟩
  | drainFault cause hs => exact ⟨fun ht => by simpa [hs, LegState.live] using live ht, by simp, by simp⟩
  | round =>
    refine ⟨fun ht => ?_, fun hs => ?_, fun hs => .inl (if_pos hs)⟩
    · by_cases hs : c.state = .preparing
      · rw [show c.beginRound.state = c.state from rfl, hs]; rfl
      · exact live (by simpa [LegControl.beginRound, hs, LegControl.watchAfresh] using ht)
    · have : c.state ≠ .preparing := by rintro h; rw [show c.beginRound.state = c.state from rfl, h] at hs; simp at hs
      simpa [LegControl.beginRound, this, LegControl.watchAfresh] using serves hs
  | turnOn n hs hn => exact ⟨fun _ => rfl, by simp, fun _ => .inr rfl⟩
  | turnOnFaulty n hs hn => exact ⟨fun ht => by simpa [hs, LegState.live] using live ht, by simp, by simp⟩

/-- A leg without laser in a state out of service. -/
theorem LegRecord.outOfService_laserOk (r : LegRecord) {st : LegState} {cause : Option FaultCause} (h : st.live = false) :
    (r.outOfService st cause).control.LaserOk where
  onlyLive ht := by cases ht
  inService hs := by
    have hs : st = .on ∨ st = .retiming := hs
    rcases hs with rfl | rfl <;> cases h
  preparing hs := by
    have hs : st = .preparing := hs
    subst hs
    cases h

/-- A leg as LEG_OFF leaves it before its entries are retired (R12). -/
def LegRecord.emptied (r : LegRecord) : LegRecord := { r.outOfService .draining none with lanes := Vector.replicate 256 none }

theorem Work.raise_mapLeg (w : Work) (l : Leg) (a : Option Leg) (b : Option Drop) (n : NoticeBody) (f : LegRecord → LegRecord) :
    (w.raise a b n).mapLeg l f = (w.mapLeg l f).raise a b n := rfl

/-- A leg drained: emptied, then its entries retired in order, then OFF if none is left (R12, R13). -/
theorem Work.drainLeg_eq (w : Work) (l : Leg) :
    w.drainLeg l =
      (forDrops allDrops (fun d w => w.retire l d .drain)
        ((w.mapLeg l LegRecord.emptied).raise (some l) none (.legState .draining none))).drained l := by
  have emptied : ((w.setLeg l .draining).leaveService l).mapLeg l (fun r => { r with lanes := Vector.replicate 256 none }) =
      (w.mapLeg l LegRecord.emptied).raise (some l) none (.legState .draining none) := by
    rw [Work.leaveService_eq, Work.raise_mapLeg, Work.mapLeg_mapLeg]
    rfl
  unfold Work.drainLeg
  dsimp only
  rw [emptied]

/-- The retirements of a LEG_OFF as work in a scope. -/
theorem Work.drainLeg_reach {σ : Scope} (w : Work) (l : Leg)
    (hu : ∀ d : Drop, (w.drop l d).state.resting = false → σ.inUse) (ht : ∀ d, σ.touches d) (hc : ∀ c, σ.causes c) :
    Work.Reach l σ ((w.mapLeg l LegRecord.emptied).raise (some l) none (.legState .draining none)) (w.drainLeg l) := by
  rw [Work.drainLeg_eq]
  refine ((Work.Reach.start fun d hd => ?_).forDrops fun _ d _ k => k.retire (ht d) (hc _)).drained
  refine hu d ?_
  rw [Work.raise_drop, Work.drop, Work.leg_mapLeg_self] at hd
  exact hd

theorem legKept_laserOk : LegKept (fun _ => Scope.all) fun r => r.control.LaserOk where
  free _ := by simp [Scope.all]
  used _ _ _ _ := trivial
  armed _ _ _ := ⟨trivial, trivial⟩
  lanes _ _ _ _ _ := trivial
  live _ _ _ := ⟨trivial, trivial⟩
  receives _ _ _ := trivial
  steps r r' h k := by
    have hc : r'.control.service = r.control.service := congrArg (·.1) k.base
    rw [← LegControl.laserOk_service, hc, LegControl.laserOk_service]
    exact h
  idle _ _ _ _ _ h := h
  receive _ _ h _ := h
  full r _ _ _ _ _ h _ _ := by
    rw [LegRecord.takeMap_control, LegRecord.afterBuild_control]
    exact h
  empty _ _ _ h _ := h
  control _ _ h k := h.moves k
  respan _ _ h _ _ _ := ⟨h.onlyLive, h.inService, h.preparing⟩
  fault r cause _ _ := r.outOfService_laserOk rfl
  drain w l _ _ := by
    have k := (w.drainLeg_reach (σ := .all) l (fun _ _ => trivial) (fun _ => trivial) fun _ => trivial).runs.leg
    have hc : ((w.drainLeg l).leg l).control.service = (w.leg l).emptied.control.service := by
      have := congrArg (·.1) k.base
      simpa [LegRecord.base] using this
    rw [← LegControl.laserOk_service, hc, LegControl.laserOk_service]
    exact (w.leg l).outOfService_laserOk rfl
  restarted r t _ := .of_off rfl rfl
  reset l level := .of_off rfl rfl

theorem blockReset_composed (l : Leg) : blockReset l = composeBlock l 0 0 (Vector.replicate 40 0) :=
  beq_iff_eq.mp (List.all_eq_true.mp test_block_after_reset_is_composed l (List.mem_finRange l))

end Sys2Proof.Machine

open Sys2Proof Sys2Proof.Machine

/-- Settles O1: by definition of the step, an empty queue being the idle beat in its three cases. -/
theorem stepRunsFrontCommand : Obligations.StepRunsFrontCommand := by
  refine ⟨fun _ _ _ => rfl, fun s hs => ?_⟩
  have idle : step s = .next (idleBeat s) := by
    unfold step
    rw [hs]
  rw [idle]
  refine ⟨fun hp => ?_, fun hp hb => ?_, fun hp hb => ?_⟩
  · simp [idleBeat, hp]
  · simp only [idleBeat, hp, if_true, if_neg (Nat.not_le.mpr hb)]
    rfl
  · simp only [idleBeat, hp, if_true, if_pos hb]
    rfl

/-- Settles O7: the clock's part of the rule for a property of every leg. -/
theorem stepKeepsCountersInRange : Obligations.StepKeepsCountersInRange := fun _ _ h he =>
  (legKept_true.kept.step ⟨fun _ => trivial, fun _ => h⟩ he).2 trivial

/-- Settles O9: the laser's accord with the state is kept by work in any scope, and by each change of the control record. -/
theorem stepKeepsLaserWithLegState : Obligations.StepKeepsLaserWithLegState := fun _ _ h he => legKept_laserOk.step h he

/-- Settles O6: from the invariants of the reset state, one by one. -/
theorem resetMeetsTheInvariants : Obligations.ResetMeetsTheInvariants :=
  ⟨reset_time_ok, reset_port_ok, reset_laser_ok, reset_journal_ok, reset_held_ok, reset_maps_ok, reset_orders_ok, reset_credit_ok,
    reset_bindings_ok⟩

/-- Settles O15: the reset state's blocks are the leg records of a reset, field by field, and a pin reset writes that state. -/
theorem resetAndPinResetLeaveTheGivenValues : Obligations.ResetAndPinResetLeaveTheGivenValues := by
  refine ⟨⟨rfl, rfl, rfl, rfl, rfl, rfl, rfl, rfl, rfl, rfl, rfl, fun l => ?_⟩, fun s => ⟨_, rfl, rfl, rfl, fun l => ?_⟩⟩
  · simp only [State.drop, State.meter, reset_leg]
    refine ⟨rfl, rfl, rfl, fun d => ⟨?_, ?_⟩, fun n => ?_, rfl, rfl, rfl, blockReset_composed l, rfl, rfl⟩ <;>
      simp [LegRecord.reset]
  · simp [State.leg]

end

section
set_option Elab.async false -- one theorem after another: side by side they ask for more threads than the check's memory limit grants
/-! PROOFS. What a request that is taken answers, and the events of the pins and of lock: equations of whole commands. -/

namespace Sys2Proof.Machine

/-! ### Requests that are taken -/

section
variable {c : Instr} {tag : Byte} {q : Request} {s : State}

theorem exec_taken (h : c.request? = some (tag, q)) (ht : s.takes tag = true) :
    exec c s = .next ((runRequest q s.port (Work.start s.blocks)).deliver (kindOf q) tag s) := by
  rw [exec_of_request h, serve_of_takes _ _ ht]

theorem exec_refused {st : Status} (h : c.request? = some (tag, q)) (ht : s.takes tag = true)
    (hr : runRequest q s.port (Work.start s.blocks) = .refuse st s.port (Work.start s.blocks)) :
    exec c s = .next (s.refuse (kindOf q) tag st) := by
  rw [exec_taken h ht, hr, deliver_refuse _ _ (State.takes_iff.mp ht).2.2.1]

theorem exec_answered {body : ReplyBody} {w : Work} (h : c.request? = some (tag, q)) (ht : s.takes tag = true)
    (hr : runRequest q s.port (Work.start s.blocks) = .ok body s.port w) :
    exec c s = .next ((s.withBlocks w.blocks).reply (kindOf q) tag body w.raised) := by
  rw [exec_taken h ht, hr, deliver_ok _ _ _ (State.takes_iff.mp ht).2.2.1]

/-- A request that only reads. -/
theorem exec_read {body : ReplyBody} (h : c.request? = some (tag, q)) (ht : s.takes tag = true)
    (hr : runRequest q s.port (Work.start s.blocks) = .ok body s.port (Work.start s.blocks)) :
    exec c s = .next (s.reply (kindOf q) tag body) := exec_answered h ht hr

end

section
variable {b c : Byte} {l : Leg} {d : Drop} {p : Port} {w : Work}

theorem toLeg?_none (h : 3 < b.toNat) : toLeg? b = none := dif_neg (by omega)

theorem toDrop?_none (h : 127 < b.toNat) : toDrop? b = none := dif_neg (by omega)

theorem onLeg_of_some {h : Leg → Handler} (hl : toLeg? b = some l) : onLeg b h p w = h l p w := by simp [onLeg, hl]

theorem onLeg_range {h : Leg → Handler} (hb : 3 < b.toNat) : onLeg b h p w = .refuse .range p w := by
  simp [onLeg, toLeg?_none hb]

theorem onDrop_of_some {h : Leg → Drop → Handler} (hl : toLeg? b = some l) (hd : toDrop? c = some d) :
    onDrop b c h p w = h l d p w := by simp [onDrop, hl, hd]

theorem onDrop_range {h : Leg → Drop → Handler} (hb : 3 < b.toNat ∨ 127 < c.toNat) : onDrop b c h p w = .refuse .range p w := by
  rcases hb with hb | hb
  · simp [onDrop, toLeg?_none hb]
  · cases hl : toLeg? b <;> simp [onDrop, hl, toDrop?_none hb]

end

section
variable {c : Instr} {tag a b : Byte} {q : Request} {s : State}

/-- A request on a leg with a leg number above 3. -/
theorem exec_leg_range {f : Leg → Handler} (h : c.request? = some (tag, q)) (hq : runRequest q = onLeg a f)
    (ht : s.takes tag = true) (ha : 3 < a.toNat) : exec c s = .next (s.refuse (kindOf q) tag .range) :=
  exec_refused h ht (by rw [hq, onLeg_range ha])

/-- A request on a drop with a leg number above 3 or a drop index above 127. -/
theorem exec_drop_range {f : Leg → Drop → Handler} (h : c.request? = some (tag, q)) (hq : runRequest q = onDrop a b f)
    (ht : s.takes tag = true) (ha : 3 < a.toNat ∨ 127 < b.toNat) : exec c s = .next (s.refuse (kindOf q) tag .range) :=
  exec_refused h ht (by rw [hq, onDrop_range ha])

end

/-! ### Changes of every leg -/

/-- The same change of every leg, leg by leg. -/
theorem forLegs_mapLeg (f : LegRecord → LegRecord) (w : Work) :
    forLegs (fun l w => w.mapLeg l f) w = { w with blocks := { w.blocks with legs := w.blocks.legs.map f } } := by
  have legs : (forLegs (fun l w => w.mapLeg l f) w).blocks.legs = w.blocks.legs.map f := by
    ext i hi : 1
    rw [Vector.getElem_map]
    exact forLegs_mapLeg_leg (fun _ => f) w ⟨i, hi⟩
  rw [← legs]
  rfl

/-- Lock reached while LOCKING (R2). -/
theorem Work.lock_of_locking {w : Work} (h : w.blocks.time.part = .locking) :
    w.lock =
      Work.raise
        { w with
          blocks :=
            { w.blocks with
              time := { w.blocks.time with part := .ready, everLocked := true }
              legs :=
                if w.blocks.time.everLocked then w.blocks.legs
                else w.blocks.legs.map fun r => { r with control := r.control.watchAfresh } } } none none (.ready (!w.blocks.time.everLocked)) := by
  unfold Work.lock
  dsimp only
  rw [if_pos h]
  congr 1
  cases w.blocks.time.everLocked with
  | true => rfl
  | false => exact forLegs_mapLeg (fun r => { r with control := r.control.watchAfresh }) _

/-- The ring with one more capture (R3). -/
theorem Timebase.capture_ring (t : Timebase) :
    (t.ring.length < 4 → t.capture.ring = t.ring ++ [⟨⟨t.cycle, t.round⟩, t.beat⟩]) ∧
      (t.ring.length = 4 → t.capture.ring = t.ring.tail ++ [⟨⟨t.cycle, t.round⟩, t.beat⟩]) := by
  constructor <;> intro h
  · simp [Timebase.capture, show t.ring.length + 1 - 4 = 0 by omega]
  · simp only [Timebase.capture, List.length_append, List.length_singleton, h]
    rw [List.drop_append_of_le_length (by omega), List.drop_one]

theorem Work.restart_time (w : Work) : w.restart.blocks.time.ring = [] ∧ w.restart.blocks.time.captures = 0 := ⟨rfl, rfl⟩

/-- A RESTART with room, as it is delivered (R205, R206). -/
theorem exec_restart_of_room {tag : Byte} {s : State} (ht : s.takes tag = true) (hr : s.blocks.restartRoom = true) :
    exec (.restart tag) s = .next ((doRestart s.port (Work.start s.blocks)).deliver 0x05 tag s) ∧
      (doRestart s.port (Work.start s.blocks)).work = (Work.start s.blocks).restart := by
  refine ⟨exec_taken (q := .restart) rfl ht, ?_⟩
  unfold doRestart
  rw [if_neg (by simpa using hr)]
  rfl

/-- No entry is found where none meets the condition. -/
theorem Blocks.enrolWhere_none {b : Blocks} {p : EnrolEntry → Bool} (h : ∀ i e, b.enrol[(i : Fin 512)] = some e → p e = false) :
    b.enrolWhere p = none := by
  unfold Blocks.enrolWhere
  rw [List.find?_eq_none]
  intro i _
  split
  · next e he => simp [h i e he]
  · simp

theorem Blocks.enrolled_none {b : Blocks} {serial : Serial} (h : b.enrolWhere (fun e => e.serial == serial) = none) :
    b.enrolled serial = none := by
  unfold Blocks.enrolled
  split
  · next i hi => cases h.symm.trans hi
  · rfl

theorem doEnrolRead_absent {p : Port} {w : Work} {serial : Serial} (h : w.blocks.enrolled serial = none) :
    doEnrolRead serial p w = .refuse .absent p w := by
  unfold doEnrolRead
  rw [h]

theorem doEnrolRead_of_some {p : Port} {w : Work} {serial : Serial} {i : Fin 512} {e : EnrolEntry}
    (h : w.blocks.enrolled serial = some (i, e)) : doEnrolRead serial p w = .ok (.enrolRead i e w.blocks.enrolCount) p w := by
  unfold doEnrolRead
  rw [h]

theorem Blocks.quotaOf_eq (b : Blocks) (account : Nat) :
    b.quotaOf account = (b.enrolWhere fun e => e.account == account).bind fun i => (b.enrol[i]).map EnrolEntry.quota := by
  unfold Blocks.quotaOf
  cases b.enrolWhere fun e => e.account == account <;> rfl

/-- The FIXED sum, lane number by lane number. -/
theorem fixedSum_eq_lanes (t : Vector (Option Lane) 256) :
    fixedSum t = (allLanes.map fun n => ((t[n]).map Lane.fixedBeats).getD 0).sum := by
  have places : t.toList = allLanes.map fun n => t[n] :=
    List.ext_getElem (by simp [allLanes]) fun i h _ => by simp [allLanes]
  rw [fixedSum_eq, places, List.map_map]
  rfl

/-- The drops with a FIXED lane, lane number by lane number. -/
theorem fixedDrops_eq_lanes (t : Vector (Option Lane) 256) :
    fixedDrops t = (allDrops.filter fun d => allLanes.any fun n => (t[n]).any fun y => y.isFixed && y.owner == d).length := by
  have owns (d : Drop) : ((laneList t).any fun x => x.isFixed && x.owner == d) =
      allLanes.any fun n => (t[n]).any fun y => y.isFixed && y.owner == d := by
    rw [Bool.eq_iff_iff, List.any_eq_true, List.any_eq_true]
    simp only [mem_laneList, allLanes, List.mem_finRange, true_and, Option.any_eq_true]
    exact ⟨fun ⟨x, ⟨n, hn⟩, hx⟩ => ⟨n, x, hn, hx⟩, fun ⟨n, x, hn, hx⟩ => ⟨x, ⟨n, hn⟩, hx⟩⟩
  simp only [fixedDrops, owns]

theorem now_index_lt {s : State} (h : s.blocks.time.Ok) : s.now.index < 17592186044416 := by
  have := h.round
  have := h.cycle
  simp only [State.now, Blocks.now, Stamp.index]
  omega

end Sys2Proof.Machine

/-- The next block boundary is the first multiple of 64 rounds behind the stamp, but that the last wraps to the first (R1, R160). -/
theorem Sys2Proof.Stamp.nextBlock_index (t : Sys2Proof.Stamp) (h : t.index < 17592186044416) :
    t.nextBlock.round % 64 = 0 ∧ t.index < t.nextBlock.index + (if t.nextBlock = ⟨0, 0⟩ then 17592186044416 else 0) ∧
      t.nextBlock.index + (if t.nextBlock = ⟨0, 0⟩ then 17592186044416 else 0) ≤ t.index + 64 := by
  obtain ⟨k, hk⟩ : ∃ k, k = (t.index / 64 + 1) * 64 := ⟨_, rfl⟩
  have hb : t.nextBlock = ⟨k / 4096 % 4294967296, k % 4096⟩ := by rw [hk]; rfl
  have hi : t.nextBlock.index = k / 4096 % 4294967296 * 4096 + k % 4096 := by rw [hb]; rfl
  have h0 : t.nextBlock = ⟨0, 0⟩ ↔ k / 4096 % 4294967296 = 0 ∧ k % 4096 = 0 := by rw [hb, Stamp.mk.injEq]
  refine ⟨by rw [hb]; show k % 4096 % 64 = 0; omega, ?_, ?_⟩ <;> rw [hi] <;> simp only [h0] <;> split <;> omega

open Sys2Proof Sys2Proof.Machine

/-- Settles O16: lock, the pulse and the pin reset by their equations, the ring of a RESTART by that of its work. -/
theorem lockAndPulseEdgesAreTaken : Obligations.LockAndPulseEdgesAreTaken := by
  refine ⟨fun s hs => ?_, fun s => ⟨fun hs => ?_, fun hs => ?_, ⟨_, rfl, rfl, rfl⟩, fun tag ht hr => ?_⟩⟩
  · change Host.Outcome.next (event Work.lock s) = _
    rw [event, Work.lock_of_locking (w := Work.start s.blocks) hs]
    rfl
  · refine ⟨s.blocks.time.capture.ring, ?_, s.blocks.time.capture_ring⟩
    change Host.Outcome.next (event Work.pulse s) = _
    rw [event, Work.pulse]
    rw [if_pos (show (Work.start s.blocks).blocks.time.part = .ready from hs)]
    rfl
  · change Host.Outcome.next (event Work.pulse s) = _
    have idle : (Work.start s.blocks).pulse = Work.start s.blocks :=
      if_neg (show s.blocks.time.part ≠ .ready by rw [hs]; decide)
    rw [event, idle]
    rfl
  · obtain ⟨he, hw⟩ := exec_restart_of_room ht hr
    refine ⟨_, he, ?_⟩
    rw [deliver_blocks, hw]
    exact Work.restart_time _

/-- Settles O20: LEG_ON through its range and state checks, then through the LASER_FAULT level. -/
theorem legOnStartsPreparing : Obligations.LegOnStartsPreparing := by
  refine ⟨fun tag leg reach s ht => ⟨fun hr => exec_refused (q := .legOn leg reach) rfl ht ?_, fun l hl h1 h2 hs =>
      exec_refused (q := .legOn leg reach) rfl ht ?_⟩,
    fun tag leg reach l s hl ht h1 h2 hs => ⟨fun hf => ?_, fun hf => ?_⟩⟩
  · rw [runRequest, doLegOn]
    cases hl : toLeg? leg with
    | none => simp [onLeg, hl]
    | some l =>
      have h4 : ¬ 3 < leg.toNat := fun h => by simp [toLeg?_none h] at hl
      have hn : reachInRange reach = false := by
        simp only [reachInRange, Bool.and_eq_false_iff, decide_eq_false_iff_not]
        omega
      rw [onLeg_of_some hl]
      simp [hn]
  · rw [runRequest, doLegOn]
    rw [onLeg_of_some hl, if_neg (by simp [reachInRange, h1, h2]), if_pos (by simpa using hs)]
  all_goals
    have run : runRequest (.legOn leg reach) s.port (Work.start s.blocks) =
        .ok .none s.port ((Work.start s.blocks).legOn l reach.toNat) := by
      rw [runRequest, doLegOn]
      rw [onLeg_of_some hl, if_neg (by simp [reachInRange, h1, h2]), if_neg (by simpa using hs)]
    rw [exec_answered (q := .legOn leg reach) rfl ht run]
    unfold Work.legOn
    simp only [Work.leg_mapLeg_self, Work.leg_start, hf, if_true, if_false, Bool.false_eq_true, Work.setLeg_eq, Work.mapLeg_mapLeg]
    rfl

/-- Settles O22: LEG_SET clamps what it stores, ANNOUNCE_SET stores what it is given. -/
theorem legSettingRequestsStoreTheirValues : Obligations.LegSettingRequestsStoreTheirValues := by
  refine ⟨fun tag leg x l s hl ht => ⟨fun hx => ⟨storedLegSet x (s.leg l).control.settings, ?_, ?_⟩, fun hx =>
      exec_refused (q := .legSet leg x) rfl ht ?_⟩, fun tag leg x host s ht hb => ⟨?_, ?_⟩,
    fun tag leg host l s hl ht => ⟨s.now.nextBlock, ?_, fun hok => Stamp.nextBlock_index s.now (now_index_lt hok)⟩⟩
  · refine exec_answered (c := .legSet tag leg x) (q := .legSet leg x)
      (w := (Work.start s.blocks).mapControl l fun c => { c with settings := storedLegSet x (s.leg l).control.settings }) rfl ht ?_
    rw [runRequest, doLegSet, onLeg_of_some hl, if_neg (by omega)]
    rfl
  · have discovery (h : x.discovery.toNat ≠ 0) :
        (storedLegSet x (s.leg l).control.settings).discovery = clamp 16 4096 x.discovery.toNat := if_neg h
    refine ⟨rfl, rfl, rfl, rfl, fun h => if_pos h, fun h _ => ?_, fun h _ => ?_, fun h => ?_, fun h => Nat.min_eq_left h, fun h =>
      Nat.min_eq_right h.le, fun h => ?_, fun h _ => ?_, fun h => ?_⟩
    any_goals rw [discovery (by omega)]
    all_goals
      simp only [storedLegSet, clamp]
      omega
  · rw [runRequest, doLegSet, onLeg_of_some hl, if_pos hx]
  · exact exec_leg_range (q := .legSet leg x) rfl rfl ht hb
  · exact exec_leg_range (q := .announceSet leg host) rfl rfl ht hb
  · refine exec_answered (c := .announceSet tag leg host) (q := .announceSet leg host)
      (w := (Work.start s.blocks).mapLeg l fun r => { r with hostBytes := host }) rfl ht ?_
    rw [runRequest, doAnnounceSet, onLeg_of_some hl]
    rfl

/-- Settles O25: each reading request through the argument checks to what its owner reads. -/
theorem readingRequestsChangeNothing : Obligations.ReadingRequestsChangeNothing := by
  refine ⟨fun tag s h0 hl hq => ?_, fun tag leg drop lane s ht => ⟨fun hb => ⟨?_, ?_, ?_, ?_⟩, fun hb => ⟨?_, ?_⟩, fun serial hn => ?_,
      fun l hl => ⟨fun hx => ?_, fun d hd hm => ?_⟩⟩,
    fun tag leg l s hl ht => ⟨?_, ?_, fun i e he => ?_, fun drop d hd => ?_, fun lane x hx => ?_, fun hm => ?_, fun m hm => ?_, ?_,
      ?_, fun drop d m hd hm => ?_⟩⟩
  · change serve 0x01 tag doIdentify s = _
    simp only [serve, hasPlace, handOver, answersLatched, hl, decide_eq_true hq]
    simp [doIdentify, deliver_ok _ _ _ h0]
    rfl
  · exact exec_leg_range (q := .legStatus leg) rfl rfl ht hb
  · exact exec_leg_range (q := .laneRead leg lane) rfl rfl ht hb
  · exact exec_leg_range (q := .mapRead leg) rfl rfl ht hb
  · exact exec_leg_range (q := .rogueRead leg) rfl rfl ht hb
  · exact exec_drop_range (q := .dropRead leg drop) rfl rfl ht hb
  · exact exec_drop_range (q := .meterRead leg drop) rfl rfl ht hb
  · have absent : s.blocks.enrolled serial = none :=
      Blocks.enrolled_none (Blocks.enrolWhere_none fun i e he => by simpa using hn i e he)
    refine exec_refused (c := .enrolRead tag serial) (q := .enrolRead serial) rfl ht ?_
    rw [runRequest]
    exact doEnrolRead_absent (w := Work.start s.blocks) absent
  · refine exec_refused (q := .laneRead leg lane) rfl ht ?_
    rw [runRequest, doLaneRead, onLeg_of_some hl]
    simp [hx]
  · refine exec_refused (q := .meterRead leg drop) rfl ht ?_
    rw [runRequest, doMeterRead, onDrop_of_some hl hd]
    simp [hm]
  · exact exec_read (c := .pulseRead tag) (q := .pulseRead) rfl ht rfl
  · refine exec_read (c := .legStatus tag leg) (q := .legStatus leg) rfl ht ?_
    rw [runRequest, doLegStatus, onLeg_of_some hl]
    rfl
  · refine exec_read (c := .enrolRead tag e.serial) (q := .enrolRead e.serial) rfl ht ?_
    rw [runRequest]
    exact doEnrolRead_of_some (w := Work.start s.blocks) he
  · refine exec_read (c := .dropRead tag leg drop) (q := .dropRead leg drop) rfl ht ?_
    rw [runRequest, doDropRead, onDrop_of_some hl hd]
    rfl
  · refine exec_read (c := .laneRead tag leg lane) (q := .laneRead leg lane) rfl ht ?_
    rw [runRequest, doLaneRead, onLeg_of_some hl, ← fixedSum_eq_lanes, ← fixedDrops_eq_lanes]
    simp only [Work.leg_start, hx]
    rfl
  · refine exec_read (c := .mapRead tag leg) (q := .mapRead leg) rfl ht ?_
    rw [runRequest, doMapRead, onLeg_of_some hl, Work.leg_start, hm]
    rfl
  · refine ⟨m.summary, exec_read (c := .mapRead tag leg) (q := .mapRead leg) rfl ht ?_, rfl, rfl, rfl, rfl, rfl, rfl, rfl, rfl, rfl,
      rfl, rfl, rfl, rfl, ?_, ?_, ?_, ?_⟩
    · rw [runRequest, doMapRead, onLeg_of_some hl, Work.leg_start, hm]
      rfl
    all_goals simp [GrantMap.summary, Function.comp_def]
    exact fun b _ => by cases b.segments <;> rfl
  · refine exec_read (c := .rogueRead tag leg) (q := .rogueRead leg) rfl ht ?_
    rw [runRequest, doRogueRead, onLeg_of_some hl]
    rfl
  · exact exec_read (c := .bandRead tag) (q := .bandRead) rfl ht rfl
  · refine exec_read (c := .meterRead tag leg drop) (q := .meterRead leg drop) rfl ht ?_
    rw [runRequest, doMeterRead, onDrop_of_some hl hd, Work.meter_start, hm, ← Blocks.quotaOf_eq]
    rfl

end

section
set_option Elab.async false -- one theorem after another: side by side they ask for more threads than the check's memory limit grants
/-! PROOFS. A round boundary as one leg sees it: what the other legs leave of it, its monitor's ticks, its state's advance, and the round it
begins. -/

namespace Sys2Proof.Machine

/-! ### What work on other legs leaves of a leg -/

/-- What every leg has in common: the stamp, the clock, the band and period settings, the closes asked for. -/
def Work.shared (w : Work) : Stamp × Timebase × Fin 4 × Vector Bool 4 × List BandEntry × Nat × Vector Bool 4 :=
  (w.stamp, w.blocks.time, w.blocks.band, w.blocks.quotaBands, w.blocks.bandPlan, w.blocks.period, w.blocks.hostClose)

theorem Work.shared_of_outside {l : Leg} {w w' : Work} (h : w'.outside l = w.outside l) : w'.shared = w.shared := by
  simp only [Work.outside, Prod.mk.injEq] at h
  simp only [Work.shared, Prod.mk.injEq]
  exact ⟨h.1, h.2.1, h.2.2.1, h.2.2.2.1, h.2.2.2.2.1, h.2.2.2.2.2.1, h.2.2.2.2.2.2.1⟩

theorem Work.shared_stamp {w w' : Work} (h : w'.shared = w.shared) : w'.stamp = w.stamp := congrArg (·.1) h

theorem Work.shared_band {w w' : Work} (h : w'.shared = w.shared) : w'.blocks.band = w.blocks.band := congrArg (·.2.2.1) h

/-- What work on other legs leaves of leg `l`: its record, and what it shares with them; notices stay raised. -/
structure Work.Beside (l : Leg) (w w' : Work) : Prop where
  leg : w'.leg l = w.leg l
  shared : w'.shared = w.shared
  raised : w.raised <+: w'.raised

theorem Work.Beside.refl (l : Leg) (w : Work) : Beside l w w := ⟨rfl, rfl, List.prefix_refl _⟩

theorem Work.Beside.trans {l : Leg} {w w' w'' : Work} (h : Beside l w w') (k : Beside l w' w'') : Beside l w w'' :=
  ⟨k.leg.trans h.leg, k.shared.trans h.shared, h.raised.trans k.raised⟩

theorem Work.Logs.beside {l k : Leg} {σ : Scope} {w w' : Work} (h : w.Logs k σ w') (hk : l ≠ k) : Beside l w w' :=
  ⟨Work.outside_leg h.outside hk, Work.shared_of_outside h.outside, h.raised⟩

/-- A fold over the legs, as leg `l` sees it: other legs before it, its own turn, other legs behind it. -/
theorem forLegs_at {l : Leg} {f : Leg → Work → Work} (hf : ∀ k v, k ≠ l → Work.Beside l v (f k v)) (w : Work) :
    ∃ v, Work.Beside l w v ∧ Work.Beside l (f l v) (forLegs f w) := by
  have sweep : ∀ (ks : List Leg) (v : Work), l ∉ ks → Work.Beside l v (ks.foldl (fun w k => f k w) v) := by
    intro ks
    induction ks with
    | nil => exact fun v _ => .refl l v
    | cons k ks ih =>
      intro v hk
      rw [List.mem_cons, not_or] at hk
      exact (hf k v (Ne.symm hk.1)).trans (ih _ hk.2)
  obtain ⟨before, after, hs⟩ : ∃ before after, allLegs = before ++ l :: after := List.append_of_mem (List.mem_finRange l)
  have once : (before ++ l :: after).Nodup := hs ▸ List.nodup_finRange 4
  have hb : l ∉ before := fun h => (List.nodup_append.mp once).2.2 l h l (by simp) rfl
  have ha : l ∉ after := (List.nodup_cons.mp (List.nodup_append.mp once).2.1).1
  refine ⟨before.foldl (fun w k => f k w) w, sweep before w hb, ?_⟩
  simp only [forLegs, hs, List.foldl_append, List.foldl_cons]
  exact sweep after _ ha

/-! ### The monitor at a boundary (R140, R149) -/

/-- What a boundary does to the monitor of a leg before its state advances. -/
def Work.monitorTicks (w : Work) (l : Leg) : Work := ((w.holdoffTick l).suspectTimeout l).stepTick l

/-- A monitor that watches or suspects goes on doing so, and learns what it was to learn. -/
structure Monitor.Watches (m m' : Monitor) : Prop where
  state : m'.state = .watching ∨ m'.state = .suspect
  owed : m'.owedLearning = m.owedLearning
  reference : m'.reference = m.reference

section
variable (w : Work) (l : Leg)

/-- The monitor of leg `l` replaced. -/
def Work.withMonitor (m : Monitor) : Work := w.mapLeg l fun r => { r with monitor := m }

theorem Work.mapMonitor_eq_withMonitor (f : Monitor → Monitor) : w.mapMonitor l f = w.withMonitor l (f (w.leg l).monitor) := rfl

@[simp] theorem Work.withMonitor_withMonitor (m n : Monitor) : (w.withMonitor l m).withMonitor l n = w.withMonitor l n := by
  simp [Work.withMonitor]

@[simp] theorem Work.withMonitor_self : w.withMonitor l (w.leg l).monitor = w :=
  (w.mapMonitor_eq_withMonitor l id).symm.trans (w.mapLeg_id l)

@[simp] theorem Work.withMonitor_leg (m : Monitor) : (w.withMonitor l m).leg l = { w.leg l with monitor := m } := by
  simp [Work.withMonitor]

@[simp] theorem Work.withMonitor_stamp (m : Monitor) : (w.withMonitor l m).stamp = w.stamp := rfl

theorem Work.beginSpan_eq (learning : Bool) : ∃ m, w.beginSpan l learning = w.withMonitor l m := by
  unfold Work.beginSpan
  split <;> exact ⟨_, w.mapMonitor_eq_withMonitor l _⟩

theorem Work.holdoffTick_eq : ∃ m, w.holdoffTick l = w.withMonitor l m ∧
    ((w.leg l).monitor.state = .watching ∨ (w.leg l).monitor.state = .suspect → m = (w.leg l).monitor) := by
  unfold Work.holdoffTick
  dsimp only
  split
  · next n hs _ =>
    split
    · unfold Work.holdoffEnds
      dsimp only
      rw [Work.mapMonitor_eq_withMonitor]
      obtain ⟨m, hm⟩ := Work.beginSpan_eq (w.withMonitor l _) l _
      exact ⟨m, by rw [hm, Work.withMonitor_withMonitor], by simp [hs]⟩
    · exact ⟨_, w.mapMonitor_eq_withMonitor l _, by simp [hs]⟩
  · exact ⟨_, (w.withMonitor_self l).symm, fun _ => rfl⟩

theorem Work.suspectTimeout_eq : ∃ m, w.suspectTimeout l = w.withMonitor l m ∧
    ((w.leg l).monitor.state = .watching ∨ (w.leg l).monitor.state = .suspect → (w.leg l).monitor.Watches m) := by
  unfold Work.suspectTimeout
  dsimp only
  split
  · split
    · exact ⟨_, w.mapMonitor_eq_withMonitor l _, fun _ => ⟨.inl rfl, rfl, rfl⟩⟩
    · exact ⟨_, (w.withMonitor_self l).symm, fun h => ⟨h, rfl, rfl⟩⟩
  · exact ⟨_, (w.withMonitor_self l).symm, fun h => ⟨h, rfl, rfl⟩⟩

/-- The ticks change the monitor alone, and let one that watches or suspects go on. -/
theorem Work.monitorTicks_eq : ∃ m, w.monitorTicks l = w.withMonitor l m ∧
    ((w.leg l).monitor.state = .watching ∨ (w.leg l).monitor.state = .suspect → (w.leg l).monitor.Watches m) := by
  obtain ⟨m₁, h₁, k₁⟩ := w.holdoffTick_eq l
  obtain ⟨m₂, h₂, k₂⟩ := (w.holdoffTick l).suspectTimeout_eq l
  rw [h₁, Work.withMonitor_leg] at k₂
  refine ⟨{ m₂ with step := m₂.step.map fun s => { s with elapsed := s.elapsed + 1 } }, ?_, fun hs => ?_⟩
  · unfold Work.monitorTicks Work.stepTick
    rw [h₂, h₁, Work.withMonitor_withMonitor, Work.mapMonitor_eq_withMonitor, Work.withMonitor_withMonitor, Work.withMonitor_leg]
  · obtain rfl := k₁ hs
    obtain ⟨hst, ho, hr⟩ := k₂ hs
    exact ⟨hst, ho, hr⟩

end

/-! ### The leg's state at a boundary (R10, R11, R16) -/

/-- A leg in FAULT whose input was inactive throughout the round recovers (R16). -/
def LegControl.recovered (c : LegControl) : LegControl :=
  if c.state == .fault && !c.faultSeen && !c.laserFault then { c with state := .preparing, cause := none, roundsLeft := 64 } else c

/-- PREPARING and RETIMING give way to ON behind their last round (R10, R11). -/
def LegControl.arrived (c : LegControl) : LegControl :=
  if (c.state == .preparing || c.state == .retiming) && c.roundsLeft == 0 then
    { c with state := .on, cause := none, roundsLeft := 0 }
  else c

/-- The control record behind a boundary. -/
def LegControl.advanced (c : LegControl) : LegControl := c.recovered.arrived.beginRound

/-- A monitor whose leg returns to ON in the event at stamp `t` (R133, R135). -/
def Monitor.resumed (m : Monitor) (t : Stamp) : Monitor :=
  match m.state with
  | .watching | .suspect =>
    { m with owedLearning := false, span := some (Span.fresh (m.owedLearning || m.reference.isNone) t.next) }
  | _ => { m with owedLearning := false }

/-- The monitor of a leg whose state advances. -/
def LegRecord.monitorAdvanced (r : LegRecord) (t : Stamp) : Monitor :=
  if r.control.state == .retiming && r.control.roundsLeft == 0 then r.monitor.resumed t else r.monitor

theorem Monitor.resumed_of_watches {m : Monitor} (h : m.state = .watching ∨ m.state = .suspect) (t : Stamp) :
    m.resumed t = { m with owedLearning := false, span := some (Span.fresh (m.owedLearning || m.reference.isNone) t.next) } := by
  unfold Monitor.resumed
  rcases h with h | h <;> rw [h]

theorem Monitor.resumed_of_not {m : Monitor} (h : ¬(m.state = .watching ∨ m.state = .suspect)) (t : Stamp) :
    m.resumed t = { m with owedLearning := false } := by
  rw [not_or] at h
  unfold Monitor.resumed
  split
  · next hs => exact absurd hs h.1
  · next hs => exact absurd hs h.2
  · rfl

theorem Monitor.resumed_owedLearning (m : Monitor) (t : Stamp) : (m.resumed t).owedLearning = false := by
  unfold Monitor.resumed
  split <;> rfl

section
variable (w : Work) (l : Leg)

theorem Work.beginSpan_of_ne (h : (w.leg l).control.state ≠ .retiming) (b : Bool) :
    w.beginSpan l b = w.withMonitor l
      { (w.leg l).monitor with span := some (Span.fresh (b || (w.leg l).monitor.reference.isNone) w.stamp.next) } :=
  if_neg (by simpa using h)

theorem Work.resumeSpan_eq (h : (w.leg l).control.state ≠ .retiming) :
    w.resumeSpan l = w.withMonitor l ((w.leg l).monitor.resumed w.stamp) := by
  have span : (w.mapMonitor l fun m => { m with owedLearning := false }).beginSpan l (w.leg l).monitor.owedLearning =
      w.withMonitor l { (w.leg l).monitor with
        owedLearning := false
        span := some (Span.fresh ((w.leg l).monitor.owedLearning || (w.leg l).monitor.reference.isNone) w.stamp.next) } := by
    rw [Work.mapMonitor_eq_withMonitor, Work.beginSpan_of_ne _ _ (by rw [Work.withMonitor_leg]; exact h),
      Work.withMonitor_withMonitor, Work.withMonitor_leg]
    rfl
  unfold Work.resumeSpan
  dsimp only
  split
  · next hs => rw [span, Monitor.resumed_of_watches (.inl hs)]
  · next hs => rw [span, Monitor.resumed_of_watches (.inr hs)]
  · next h1 h2 => rw [Monitor.resumed_of_not (by rintro (h | h); exacts [h1 h, h2 h])]; rfl

/-- The leg's state advanced changes its control record and its monitor, and raises notices. -/
theorem Work.recover_leg : (w.recover l).leg l = { w.leg l with control := (w.leg l).control.recovered } := by
  unfold Work.recover LegControl.recovered
  dsimp only
  split
  · simp [Work.setLeg_eq]
  · rfl

theorem Work.endPreparing_endRetiming_leg :
    ((w.endPreparing l).endRetiming l).leg l =
      { w.leg l with control := (w.leg l).control.arrived, monitor := (w.leg l).monitorAdvanced w.stamp } := by
  unfold Work.endRetiming Work.endPreparing LegControl.arrived LegRecord.monitorAdvanced
  dsimp only
  by_cases hp : ((w.leg l).control.state == .preparing && (w.leg l).control.roundsLeft == 0) = true
  · have hs := (Bool.and_eq_true_iff.mp hp).1
    rw [beq_iff_eq] at hs
    rw [if_pos hp]
    simp only [Bool.and_eq_true, beq_iff_eq] at hp
    simp [Work.setLeg_eq, hp.1, hp.2]
  · rw [if_neg hp]
    simp only [Bool.and_eq_true, beq_iff_eq, not_and] at hp
    by_cases hr : (w.leg l).control.state = .retiming ∧ (w.leg l).control.roundsLeft = 0
    · simp only [hr.1, hr.2, beq_self_eq_true, Bool.and_self, if_true, Bool.or_true]
      rw [Work.resumeSpan_eq _ _ (by simp [Work.setLeg_eq]), Work.withMonitor_leg]
      simp [Work.setLeg_eq]
    · have h1 : ¬((w.leg l).control.state == .retiming && (w.leg l).control.roundsLeft == 0) = true := by simpa using hr
      have h2 : ¬(((w.leg l).control.state == .preparing || (w.leg l).control.state == .retiming) &&
          (w.leg l).control.roundsLeft == 0) = true := by
        simp only [Bool.and_eq_true, Bool.or_eq_true, beq_iff_eq]
        rintro ⟨h | h, h0⟩
        exacts [hp h h0, hr ⟨h, h0⟩]
      rw [if_neg h1, if_neg h1, if_neg h2]

theorem LegRecord.monitorAdvanced_recovered (r : LegRecord) (t : Stamp) :
    ({ r with control := r.control.recovered } : LegRecord).monitorAdvanced t = r.monitorAdvanced t := by
  unfold LegRecord.monitorAdvanced LegControl.recovered
  dsimp only
  split
  · next h =>
    simp only [Bool.and_eq_true, beq_iff_eq] at h
    simp [h.1.1]
  · rfl

theorem Work.recover_stamp : (w.recover l).stamp = w.stamp := by
  unfold Work.recover
  dsimp only
  split <;> rfl

theorem Work.advanceLeg_leg :
    (w.advanceLeg l).leg l =
      { w.leg l with control := (w.leg l).control.advanced, monitor := (w.leg l).monitorAdvanced w.stamp } := by
  unfold Work.advanceLeg
  rw [Work.mapControl_eq, Work.leg_mapLeg_self, Work.endPreparing_endRetiming_leg, Work.recover_leg, Work.recover_stamp,
    LegRecord.monitorAdvanced_recovered]
  rfl

end

end Sys2Proof.Machine
end

section
set_option Elab.async false -- one theorem after another: side by side they ask for more threads than the check's memory limit grants
/-! PROOFS. The round a leg begins at a boundary, and the commands and the boundary that change a leg's state. -/

namespace Sys2Proof.Machine

/-! ### The notices of a leg's advance -/

section
variable (w : Work) (l : Leg) {σ : Scope}

theorem Work.setLeg_logs (st : LegState) (cause : Option FaultCause) (n : Nat) : w.Logs l σ (w.setLeg l st cause n) :=
  (Work.Logs.refl l σ w).mapLeg.raise

theorem Work.recover_logs : w.Logs l σ (w.recover l) := by
  unfold Work.recover
  dsimp only
  split
  · exact w.setLeg_logs l _ _ _
  · exact .refl l σ w

theorem Work.endPreparing_logs : w.Logs l σ (w.endPreparing l) := by
  unfold Work.endPreparing
  dsimp only
  split
  · exact w.setLeg_logs l _ _ _
  · exact .refl l σ w

theorem Work.withMonitor_logs (m : Monitor) : w.Logs l σ (w.withMonitor l m) := (Work.Logs.refl l σ w).mapLeg

theorem Work.endRetiming_logs : w.Logs l σ (w.endRetiming l) := by
  unfold Work.endRetiming
  dsimp only
  split
  · rw [Work.resumeSpan_eq _ _ (by simp [Work.setLeg_eq])]
    exact (w.setLeg_logs l _ _ _).trans (Work.withMonitor_logs _ l _)
  · exact .refl l σ w

theorem Work.advanceLeg_logs : w.Logs l σ (w.advanceLeg l) := by
  have k := ((w.recover_logs l (σ := σ)).trans (Work.endPreparing_logs _ l)).trans (Work.endRetiming_logs _ l)
  unfold Work.advanceLeg
  rw [Work.mapControl_eq]
  exact k.mapLeg

/-- The notice of a leg that enters ON at a boundary (R8). -/
theorem Work.advanceLeg_raised_on (h : (w.leg l).control.state = .preparing ∨ (w.leg l).control.state = .retiming)
    (h0 : (w.leg l).control.roundsLeft = 0) : ⟨some l, none, w.stamp, .legState .on none⟩ ∈ (w.advanceLeg l).raised := by
  have kept : w.recover l = w := by
    unfold Work.recover
    rcases h with h | h <;> simp [h]
  unfold Work.advanceLeg
  rw [kept, Work.mapControl_eq, Work.mapLeg_raised]
  rcases h with h | h
  · refine (Work.endRetiming_logs (σ := .all) _ l).raised.subset ?_
    simp [Work.endPreparing, Work.setLeg_eq, h, h0]
  · have : w.endPreparing l = w := by simp [Work.endPreparing, h]
    rw [this]
    unfold Work.endRetiming
    dsimp only
    rw [if_pos (by simp [h, h0]), Work.resumeSpan_eq _ _ (by simp [Work.setLeg_eq])]
    simp [Work.withMonitor, Work.setLeg_eq]

/-- The notice of a leg that recovers at a boundary (R16). -/
theorem Work.advanceLeg_raised_preparing (h : (w.leg l).control.state = .fault) (hs : (w.leg l).control.faultSeen = false)
    (hf : (w.leg l).control.laserFault = false) : ⟨some l, none, w.stamp, .legState .preparing none⟩ ∈ (w.advanceLeg l).raised := by
  have k := (Work.endPreparing_logs (σ := .all) (w.recover l) l).trans (Work.endRetiming_logs _ l)
  unfold Work.advanceLeg
  rw [Work.mapControl_eq, Work.mapLeg_raised]
  refine k.raised.subset ?_
  simp [Work.recover, Work.setLeg_eq, h, hs, hf]

end

/-! ### What a round's begin leaves of a leg -/

/-- What the begin of a round makes of the record of its leg, in a scope: the control record but for the end of draining, the block, the
monitor and the meters. -/
structure LegRecord.Turns (σ : Scope) (r r' : LegRecord) : Prop where
  control : r'.control.service = r.control.service := by rfl
  block : r'.block = r.block := by rfl
  monitor : σ.armed ∨ r'.monitor.Calm r.monitor := by exact .inr ⟨rfl, fun _ => ⟨rfl, rfl⟩⟩
  meters : ∀ d : Drop, σ.touches d ∨ r.meters[d] = none ∨ r'.meters[d] = r.meters[d] := by exact fun _ => .inr (.inr rfl)

theorem LegRecord.Steps.turns {σ : Scope} {r r' : LegRecord} (h : r.Steps σ r') : r.Turns σ r' where
  control := congrArg (·.1) h.base
  block := congrArg (·.2.1) h.base
  monitor := h.monitor
  meters := h.meters

theorem LegRecord.Turns.trans {σ : Scope} {r r' r'' : LegRecord} (h : r.Turns σ r') (k : r'.Turns σ r'') : r.Turns σ r'' where
  control := k.control.trans h.control
  block := k.block.trans h.block
  monitor := by
    rcases h.monitor with ha | h
    · exact .inl ha
    · refine k.monitor.imp_right fun k => ⟨k.owed.trans h.owed, fun hs => ?_⟩
      obtain ⟨h1, h2⟩ := h.idle hs
      obtain ⟨k1, k2⟩ := k.idle (h1 ▸ hs)
      exact ⟨k1.trans h1, k2.trans h2⟩
  meters d := by
    rcases h.meters d with ht | hn | h
    · exact .inl ht
    · exact .inr (.inl hn)
    · rw [← h]; exact k.meters d

/-- What a stretch of a boundary makes of the work, with the record of its leg as `LegRecord.Turns` says. -/
structure Work.Turns (l : Leg) (σ : Scope) (w w' : Work) : Prop where
  logs : w.Logs l σ w'
  leg : (w.leg l).Turns σ (w'.leg l)

theorem Work.Turns.trans {l : Leg} {σ : Scope} {w w' w'' : Work} (h : w.Turns l σ w') (k : w'.Turns l σ w'') : w.Turns l σ w'' :=
  ⟨h.logs.trans k.logs, h.leg.trans k.leg⟩

theorem Work.Reach.turns {l : Leg} {σ : Scope} {w w' : Work} (h : Work.Reach l σ w w') : w.Turns l σ w' :=
  ⟨h.runs.toLogs, h.runs.leg.turns⟩

theorem Work.Turns.refl (l : Leg) (σ : Scope) (w : Work) : w.Turns l σ w := ⟨.refl l σ w, {}⟩

theorem Work.Turns.mapLeg {l : Leg} {σ : Scope} {w w' : Work} {f : LegRecord → LegRecord} (h : w.Turns l σ w')
    (hf : (w'.leg l).Turns σ (f (w'.leg l))) : w.Turns l σ (w'.mapLeg l f) :=
  ⟨h.logs.mapLeg, h.leg.trans (by rwa [Work.leg_mapLeg_self])⟩

theorem LegRecord.afterBuild_turns {σ : Scope} (r : LegRecord) (k : Stamp) (m : GrantMap) (b : Build) :
    r.Turns σ ((r.afterBuild k m b).takeMap m) := by
  have built : r.Turns σ (r.afterBuild k m b) := by
    unfold LegRecord.afterBuild
    exact {}
  refine built.trans ?_
  generalize r.afterBuild k m b = x
  exact {}

section
variable {w : Work} {l : Leg} {σ : Scope}

theorem Work.buildFull_turns (hu : σ.inUse) : w.Turns l σ (w.buildFull l) := by
  rw [Work.buildFull_eq]
  have awarded : Work.Reach l σ w (w.windowAwarded l) :=
    Work.Reach.mapLeg (f := fun r => { r with drops := r.drops.map DropEntry.buildStarts }) ((Work.Reach.refl hu).awardWindow hu)
      { drops := .inl hu }
  exact awarded.turns.mapLeg (LegRecord.afterBuild_turns _ _ _ _)

theorem Work.buildEmpty_turns : w.Turns l σ (w.buildEmpty l) := by
  refine (Work.Turns.refl l σ w).mapLeg ?_
  exact {}

theorem Work.filled_turns {os : List OrderPlace} (hu : σ.inUse) (hf : ∀ f ∈ (w.leg l).fifo, σ.touches f.drop) :
    w.Turns l σ (w.filled l os).1 := by
  unfold Work.filled
  split
  · exact .refl l σ w
  · rw [Work.fill_eq]
    dsimp only
    have drained : Work.Reach l σ w (w.drained? l (128000 - (w.header l os (w.mapNow l)).length)).1 :=
      (Work.Reach.mapLeg (f := fun r => { r with allowance := Vector.replicate 128 r.control.settings.downThrottle })
        (.refl hu)).fillFrames hf
    refine drained.turns.mapLeg ?_
    exact {}

theorem Work.assemble_turns {os : List OrderPlace} (hu : σ.inUse) (hf : ∀ f ∈ (w.leg l).fifo, σ.touches f.drop) :
    w.Turns l σ (w.assemble l os) := by
  rw [Work.assemble_eq]
  refine (Work.filled_turns hu hf).mapLeg ?_
  exact {}

theorem LegRecord.takeMap_fifo (r : LegRecord) (m : GrantMap) : (r.takeMap m).fifo = r.fifo := rfl

theorem LegRecord.afterBuild_fifo (r : LegRecord) (k : Stamp) (m : GrantMap) (b : Build) : (r.afterBuild k m b).fifo = r.fifo := by
  unfold LegRecord.afterBuild
  rfl

/-- The FIFO of a leg is what it was, until its round is filled. -/
theorem Work.Reach.fifo {w' : Work} (h : Work.Reach l σ w w') : (w'.leg l).fifo = (w.leg l).fifo :=
  congrArg (·.2.2.2.2.2.2) h.runs.leg.base

theorem Work.buildEmpty_fifo : ((w.buildEmpty l).leg l).fifo = (w.leg l).fifo := by
  unfold Work.buildEmpty
  rw [Work.leg_mapLeg_self]
  rfl

theorem Work.windowAwarded_reach (hu : σ.inUse) : Work.Reach l σ w (w.windowAwarded l) :=
  Work.Reach.mapLeg (f := fun r => { r with drops := r.drops.map DropEntry.buildStarts }) ((Work.Reach.refl hu).awardWindow hu)
    { drops := .inl hu }

theorem Work.buildFull_fifo : ((w.buildFull l).leg l).fifo = (w.leg l).fifo := by
  rw [Work.buildFull_eq, Work.leg_mapLeg_self, LegRecord.takeMap_fifo, LegRecord.afterBuild_fifo]
  exact (Work.windowAwarded_reach (σ := .all) trivial).fifo

/-- The orders of a round settled, chosen and sent, as work in a scope. -/
theorem Work.ordersSent_reach (hu : σ.inUse) (hs : σ.sends)
    (ho : ∀ e ∈ (w.leg l).orders, e.awaiting = true → ∀ d, e.target = some d → σ.touches d) :
    Work.Reach l σ w (w.ordersSent l).1 := by
  unfold Work.ordersSent
  refine (Work.Reach.retryOrders ?_).sendOrders hs
  split
  · exact (Work.Reach.refl hu).settleWaits hu ho
  · exact .refl hu

/-- The begin of a round, in a scope that allows entries in use and orders sent, and the meters of the drops with frames or with an order
that awaits its echo. -/
theorem Work.beginRound_turns (hu : σ.inUse) (hs : σ.sends) (hf : ∀ f ∈ (w.leg l).fifo, σ.touches f.drop)
    (ho : ∀ e ∈ (w.leg l).orders, e.awaiting = true → ∀ d, e.target = some d → σ.touches d) :
    w.Turns l σ (w.beginRound l) := by
  rw [Work.beginRound_eq]
  split
  · have sent := Work.ordersSent_reach hu hs ho
    refine sent.turns.trans ?_
    have hf : ∀ f ∈ ((w.ordersSent l).1.leg l).fifo, σ.touches f.drop := by rwa [sent.fifo]
    split
    · exact (Work.buildFull_turns hu).trans (Work.assemble_turns hu (by rwa [Work.buildFull_fifo]))
    · exact Work.buildEmpty_turns.trans (Work.assemble_turns hu (by rwa [Work.buildEmpty_fifo]))
  · exact .refl l σ w

end

end Sys2Proof.Machine
end

section
set_option Elab.async false -- one theorem after another: side by side they ask for more threads than the check's memory limit grants
/-! PROOFS. A round boundary leg by leg, and the commands and the boundary that change a leg's state. -/

namespace Sys2Proof.Machine

/-! ### The two halves of a leg's boundary -/

section
variable (w : Work) (l : Leg)

/-- The first half of a leg's boundary: the monitor's ticks and the advance of the leg's state. -/
def Work.legReady : Work := (w.monitorTicks l).advanceLeg l

/-- The holds counted down, the retired entries gone (R33). -/
def Work.holdsTicked : Work := forDrops allDrops (fun d w => w.holdTick l d) w

/-- The discovery schedule one round on (R58). -/
def Work.scheduleTicked : Work := w.mapLeg l fun r => { r with schedule := r.schedule.tick }

theorem Work.legBoundary_eq : w.legBoundary l = (((w.legReady l).holdsTicked l).scheduleTicked l).beginRound l := rfl

theorem Work.monitorTicks_logs {σ : Scope} : w.Logs l σ (w.monitorTicks l) := by
  obtain ⟨m, h, -⟩ := w.monitorTicks_eq l
  rw [h]
  exact w.withMonitor_logs l m

theorem Work.legReady_logs {σ : Scope} : w.Logs l σ (w.legReady l) :=
  (w.monitorTicks_logs l).trans (Work.advanceLeg_logs _ l)

/-- The first half changes the control record and the monitor alone; a monitor that watches or suspects watches on, and is resumed where
the leg returns to ON. -/
theorem Work.legReady_leg : ∃ m,
    (w.legReady l).leg l = { w.leg l with control := (w.leg l).control.advanced, monitor := m } ∧
    ((w.leg l).control.state = .retiming → (w.leg l).control.roundsLeft = 0 → m.owedLearning = false ∧
      ((w.leg l).monitor.state = .watching ∨ (w.leg l).monitor.state = .suspect → m.state.searching = false ∧
        m.span = some (Span.fresh ((w.leg l).monitor.owedLearning || (w.leg l).monitor.reference.isNone) w.stamp.next))) := by
  obtain ⟨m, hm, watches⟩ := w.monitorTicks_eq l
  refine ⟨({ w.leg l with monitor := m } : LegRecord).monitorAdvanced w.stamp, ?_, fun hr h0 => ?_⟩
  · unfold Work.legReady
    rw [Work.advanceLeg_leg, hm, Work.withMonitor_leg, Work.withMonitor_stamp]
  · have resumed : ({ w.leg l with monitor := m } : LegRecord).monitorAdvanced w.stamp = m.resumed w.stamp := by
      simp [LegRecord.monitorAdvanced, hr, h0]
    rw [resumed]
    refine ⟨m.resumed_owedLearning _, fun hs => ?_⟩
    obtain ⟨hst, ho, href⟩ := watches hs
    rw [Monitor.resumed_of_watches hst, ho, href]
    exact ⟨by rcases hst with h | h <;> simp [h, MonitorState.searching], rfl⟩

end

/-- The scope of the second half of a leg's boundary: no monitor changes its state but by the end of its search, and the closes are those of
retirements. -/
def Scope.boundary : Scope := ⟨True, False, True, True, fun _ => True, fun c => c = .retire⟩

theorem Work.holdsTicked_reach {w : Work} {l : Leg} {σ : Scope} (hu : σ.inUse) (ht : ∀ d, σ.touches d) (hc : σ.causes .retire) :
    Work.Reach l σ w (w.holdsTicked l) :=
  (Work.Reach.refl hu).forDrops fun _ d _ k => k.holdTick (ht d) hc

theorem Work.scheduleTicked_turns (w : Work) (l : Leg) (σ : Scope) : w.Turns l σ (w.scheduleTicked l) := by
  refine (Work.Turns.refl l σ w).mapLeg ?_
  exact {}

/-- The second half of a leg's boundary leaves its control record but for the end of draining, and its monitor but for a search. -/
theorem Work.roundBegun_turns (w : Work) (l : Leg) :
    w.Turns l .boundary (((w.holdsTicked l).scheduleTicked l).beginRound l) :=
  ((Work.holdsTicked_reach trivial (fun _ => trivial) rfl).turns.trans (Work.scheduleTicked_turns _ l _)).trans
    (Work.beginRound_turns trivial trivial (fun _ _ => trivial) fun _ _ _ _ _ => trivial)

theorem Work.legBoundary_logs (w : Work) (l : Leg) : w.Logs l .boundary (w.legBoundary l) := by
  rw [Work.legBoundary_eq]
  exact (w.legReady_logs l).trans (Work.roundBegun_turns _ l).logs

/-! ### A round boundary -/

/-- The work of a round boundary before the legs take their turns: the announcement blocks and the closes. -/
def Work.boundaryOpened (w : Work) : Work := (if w.stamp.round % 64 = 0 then w.blockBoundary else w).boundaryCloses

theorem Work.boundary_eq (w : Work) : w.boundary = forLegs (fun l w => w.legBoundary l) w.boundaryOpened := rfl

/-- A boundary as leg `l` sees it. -/
theorem Work.boundary_at (w : Work) (l : Leg) :
    ∃ v, Work.Beside l w.boundaryOpened v ∧ Work.Beside l (v.legBoundary l) w.boundary := by
  rw [Work.boundary_eq]
  exact forLegs_at (fun k v hk => (v.legBoundary_logs k).beside (Ne.symm hk)) _

/-- A record but for its announcement block and its meters. -/
def LegRecord.sansMeters (r : LegRecord) : LegRecord :=
  { r with block := Vector.replicate 64 0, meters := Vector.replicate 128 none }

theorem Work.setMeter_sansMeters (w : Work) (k l : Leg) (d : Drop) (m : Option Meter) :
    ((w.setMeter k d m).leg l).sansMeters = (w.leg l).sansMeters := by
  rw [Work.setMeter_eq]
  by_cases h : l = k
  · subst h
    rw [Work.leg_mapLeg_self]
    rfl
  · rw [Work.leg_mapLeg_of_ne _ _ _ _ h]

theorem Work.writeEntry_leg (w : Work) (k l : Leg) (d : Drop) (m : Meter) (c : CloseCause) :
    (w.writeEntry k d m c).leg l = w.leg l := by
  unfold Work.writeEntry
  rw [Work.judgeLevel_leg, Work.mapJournal_leg]

theorem Work.closeMeter_sansMeters (w : Work) (k l : Leg) (d : Drop) (c : CloseCause) :
    ((w.closeMeter k d c).1.leg l).sansMeters = (w.leg l).sansMeters := by
  unfold Work.closeMeter Work.afterWritten
  repeat' split
  all_goals simp only [Work.raise_leg, Work.setMeter_sansMeters, Work.writeEntry_leg]

theorem Work.applyBand_leg (w : Work) (l : Leg) : w.applyBand.leg l = w.leg l := by
  unfold Work.applyBand
  dsimp only
  split <;> rfl

theorem LegRecord.sansMeters_block (r : LegRecord) (x : Vector Byte 64) : ({ r with block := x } : LegRecord).sansMeters = r.sansMeters :=
  rfl

theorem Work.blockBoundary_sansMeters (w : Work) (l : Leg) : ((w.blockBoundary).leg l).sansMeters = (w.leg l).sansMeters := by
  unfold Work.blockBoundary Work.composeBlocks
  refine (forLegs_keeps (fun v => (v.leg l).sansMeters) _ (fun k v => ?_) _).trans (by rw [Work.applyBand_leg])
  by_cases h : l = k
  · subst h
    rw [Work.leg_mapLeg_self]
    exact LegRecord.sansMeters_block _ _
  · rw [Work.leg_mapLeg_of_ne _ _ _ _ h]

theorem Work.boundaryCloses_sansMeters (w : Work) (l : Leg) : ((w.boundaryCloses).leg l).sansMeters = (w.leg l).sansMeters := by
  refine forLegs_keeps (fun v => (v.leg l).sansMeters) _ (fun k v => ?_) w
  refine forDrops_keeps (fun v => (v.leg l).sansMeters) _ _ (fun d v => ?_) v
  split
  · exact v.closeMeter_sansMeters k l d _
  · split
    · exact v.closeMeter_sansMeters k l d _
    · rfl

/-- Before the legs take their turns a boundary changes no more of a leg than its announcement block and its meters. -/
theorem Work.boundaryOpened_sansMeters (w : Work) (l : Leg) : (w.boundaryOpened.leg l).sansMeters = (w.leg l).sansMeters := by
  unfold Work.boundaryOpened
  rw [Work.boundaryCloses_sansMeters]
  split
  · exact w.blockBoundary_sansMeters l
  · rfl

theorem Work.boundaryCloses_stamp (w : Work) : w.boundaryCloses.stamp = w.stamp := by
  refine forLegs_keeps Work.stamp _ (fun k v => ?_) w
  refine forDrops_keeps Work.stamp _ _ (fun d v => ?_) v
  split
  · exact Work.outside_stamp (v.closeMeter_outside k d _)
  · split
    · exact Work.outside_stamp (v.closeMeter_outside k d _)
    · rfl

theorem Work.applyBand_stamp (w : Work) : w.applyBand.stamp = w.stamp := by
  unfold Work.applyBand
  dsimp only
  split <;> rfl

theorem Work.blockBoundary_stamp (w : Work) : w.blockBoundary.stamp = w.stamp := by
  unfold Work.blockBoundary Work.composeBlocks
  exact (forLegs_keeps Work.stamp _ (fun _ _ => rfl) _).trans w.applyBand_stamp

theorem Work.boundaryOpened_stamp (w : Work) : w.boundaryOpened.stamp = w.stamp := by
  unfold Work.boundaryOpened
  rw [Work.boundaryCloses_stamp]
  split
  · exact w.blockBoundary_stamp
  · rfl

/-- The counters of the next round are the stamp of the boundary (R1). -/
theorem nextRound_now {s : State} (h : s.blocks.time.Ok) : s.blocks.atNextRound.now = s.boundary := by
  have hr := h.round
  have hc := h.cycle
  simp only [Blocks.atNextRound, Blocks.now, Timebase.nextRound, State.boundary, Stamp.next, Stamp.plus, Stamp.ofIndex, Stamp.index,
    Stamp.mk.injEq]
  split <;> constructor <;> omega

/-- The state after a round boundary: the blocks and the notices of its work. -/
theorem exec_roundBoundary_next {s : State} (h : s.blocks.time.part = .ready) : ∃ t, exec .roundBoundary s = .next t ∧
    (∀ l, t.leg l = (Work.boundary (Work.start s.blocks.atNextRound)).leg l) ∧
    t.blocks = (Work.boundary (Work.start s.blocks.atNextRound)).blocks ∧
    t.port = placeAll s.port (Work.boundary (Work.start s.blocks.atNextRound)).raised := by
  have taken : roundBoundary s = event Work.boundary { s with blocks := s.blocks.atNextRound } := if_pos h
  have blocks : (roundBoundary s).blocks = (Work.boundary (Work.start s.blocks.atNextRound)).blocks := by
    rw [taken, event_blocks]
  refine ⟨roundBoundary s, rfl, fun l => ?_, blocks, ?_⟩
  · rw [State.leg, blocks, Work.leg]
  · rw [taken, event_port]


/-! ### What a round boundary makes of a leg's state -/

theorem LegControl.recovered_of_ne {c : LegControl} (h : c.state ≠ .fault) : c.recovered = c := by simp [LegControl.recovered, h]

theorem LegControl.arrived_of_ne {c : LegControl} (h1 : c.state ≠ .preparing) (h2 : c.state ≠ .retiming) : c.arrived = c := by
  simp [LegControl.arrived, h1, h2]

theorem LegControl.arrived_of_rounds {c : LegControl} (h : c.roundsLeft ≠ 0) : c.arrived = c := by simp [LegControl.arrived, h]

theorem LegControl.advanced_preparing {c : LegControl} (h : c.state = .preparing) (h0 : c.roundsLeft ≠ 0) :
    c.advanced = { c with roundsLeft := c.roundsLeft - 1, txen := true, faultSeen := c.laserFault } := by
  rw [LegControl.advanced, LegControl.recovered_of_ne (by simp [h]), LegControl.arrived_of_rounds h0]
  simp [LegControl.beginRound, LegControl.watchAfresh, h]

theorem LegControl.advanced_retiming {c : LegControl} (h : c.state = .retiming) (h0 : c.roundsLeft ≠ 0) :
    c.advanced = { c with roundsLeft := c.roundsLeft - 1, faultSeen := c.laserFault } := by
  rw [LegControl.advanced, LegControl.recovered_of_ne (by simp [h]), LegControl.arrived_of_rounds h0]
  simp [LegControl.beginRound, LegControl.watchAfresh, h]

/-- Behind its last round PREPARING or RETIMING gives way to ON (R10, R11). -/
theorem LegControl.advanced_prepared {c : LegControl} (h : c.state = .preparing ∨ c.state = .retiming) (h0 : c.roundsLeft = 0) :
    c.advanced = { c with state := .on, cause := none, faultSeen := c.laserFault } := by
  have hf : c.state ≠ .fault := by rcases h with h | h <;> simp [h]
  rw [LegControl.advanced, LegControl.recovered_of_ne hf]
  simp [LegControl.arrived, LegControl.beginRound, LegControl.watchAfresh, h, h0]

theorem LegControl.advanced_recovered {c : LegControl} (h : c.state = .fault) (h1 : c.faultSeen = false) (h2 : c.laserFault = false) :
    c.advanced = { c with state := .preparing, cause := none, roundsLeft := 63, txen := true } := by
  simp [LegControl.advanced, LegControl.recovered, LegControl.arrived, LegControl.beginRound, LegControl.watchAfresh, h, h1, h2]

theorem LegControl.advanced_of_fault {c : LegControl} (h : c.state = .fault) (h12 : c.faultSeen = true ∨ c.laserFault = true) :
    c.advanced = { c with faultSeen := c.laserFault } := by
  have recovered : c.recovered = c := by rcases h12 with h12 | h12 <;> simp [LegControl.recovered, h12]
  rw [LegControl.advanced, recovered, LegControl.arrived_of_ne (by simp [h]) (by simp [h])]
  simp [LegControl.beginRound, LegControl.watchAfresh, h]

theorem LegControl.advanced_of_on {c : LegControl} (h : c.state = .on) : c.advanced = { c with faultSeen := c.laserFault } := by
  rw [LegControl.advanced, LegControl.recovered_of_ne (by simp [h]), LegControl.arrived_of_ne (by simp [h]) (by simp [h])]
  simp [LegControl.beginRound, LegControl.watchAfresh, h]

theorem Monitor.resumed_eq (m : Monitor) (t : Stamp) :
    m.resumed t = { m with span := (m.resumed t).span, owedLearning := false } := by
  by_cases h : m.state = .watching ∨ m.state = .suspect
  · rw [Monitor.resumed_of_watches h]
  · rw [Monitor.resumed_of_not h]

theorem LegControl.advanced_closed {c : LegControl} (h : c.state.closed = false) : c.advanced.state.closed = false := by
  have recovered : c.recovered.state.closed = false := by
    unfold LegControl.recovered
    split
    · rfl
    · exact h
  unfold LegControl.advanced LegControl.arrived
  split
  · rfl
  · exact recovered

section
variable {b : Blocks} {l : Leg}

/-- A boundary as leg `l` sees it, its turn told apart: it finds the control record and the monitor that the leg had. -/
theorem boundary_turn (b : Blocks) (l : Leg) : ∃ v : Work,
    v.stamp = b.now ∧ (v.leg l).sansMeters = b.legs[l].sansMeters ∧
    Work.Beside l (v.legBoundary l) (Work.boundary (Work.start b)) := by
  obtain ⟨v, hv, ht⟩ := (Work.start b).boundary_at l
  refine ⟨v, ?_, ?_, ht⟩
  · rw [Work.shared_stamp hv.shared, Work.boundaryOpened_stamp]
    rfl
  · rw [hv.leg, Work.boundaryOpened_sansMeters]
    rfl

theorem boundary_control (h : b.legs[l].control.state.closed = false) :
    ((Work.boundary (Work.start b)).leg l).control = b.legs[l].control.advanced := by
  obtain ⟨v, -, hs, ht⟩ := boundary_turn b l
  have hc : (v.leg l).control = b.legs[l].control := congrArg (·.control) hs
  obtain ⟨m, hm, -⟩ := v.legReady_leg l
  have turned := (Work.roundBegun_turns (v.legReady l) l).leg.control
  rw [hm, hc] at turned
  rw [ht.leg, Work.legBoundary_eq]
  have := LegControl.advanced_closed h
  exact LegControl.eq_of_service turned (fun e => by rw [e] at this; cases this) fun e => by rw [e] at this; cases this

theorem boundary_raised : ∃ v : Work, v.stamp = b.now ∧ (v.leg l).control = b.legs[l].control ∧
    (v.advanceLeg l).raised ⊆ (Work.boundary (Work.start b)).raised := by
  obtain ⟨v, hst, hs, ht⟩ := boundary_turn b l
  obtain ⟨m, hm, -⟩ := v.monitorTicks_eq l
  refine ⟨v.monitorTicks l, ?_, ?_, ?_⟩
  · rw [hm, Work.withMonitor_stamp, hst]
  · rw [hm, Work.withMonitor_leg]
    exact congrArg (·.control) hs
  · exact (((Work.roundBegun_turns (v.legReady l) l).logs.raised).trans ht.raised).subset

/-- The monitor of a leg that returns to ON at a boundary (R133, R135). -/
theorem boundary_monitor (hr : b.legs[l].control.state = .retiming) (h0 : b.legs[l].control.roundsLeft = 0) :
    ((Work.boundary (Work.start b)).leg l).monitor.owedLearning = false ∧
    (b.legs[l].monitor.state = .watching ∨ b.legs[l].monitor.state = .suspect →
      ((Work.boundary (Work.start b)).leg l).monitor.span =
        some (Span.fresh (b.legs[l].monitor.owedLearning || b.legs[l].monitor.reference.isNone) b.now.next)) := by
  obtain ⟨v, hst, hs, ht⟩ := boundary_turn b l
  have hc : (v.leg l).control = b.legs[l].control := congrArg (·.control) hs
  have hm : (v.leg l).monitor = b.legs[l].monitor := congrArg (·.monitor) hs
  obtain ⟨m, hready, resumed⟩ := v.legReady_leg l
  rw [hc, hm, hst] at resumed
  obtain ⟨owed, span⟩ := resumed hr h0
  have calm := (Work.roundBegun_turns (v.legReady l) l).leg.monitor.resolve_left (fun h => h)
  rw [hready] at calm
  rw [ht.leg, Work.legBoundary_eq]
  refine ⟨calm.owed.trans owed, fun hw => ?_⟩
  obtain ⟨idle, hspan⟩ := span hw
  exact (calm.idle idle).2.trans hspan

end

end Sys2Proof.Machine

open Sys2Proof Sys2Proof.Machine

/-- Settles O18: the commands by their equations, the boundary by the turn it gives a leg. -/
theorem legStateCommandsChangeTheLeg : Obligations.LegStateCommandsChangeTheLeg := by
  refine ⟨fun l s hr => ⟨fun hs h0 => ?_, fun hs h1 h2 => ?_⟩, fun l s hr hs h0 => ?_, fun l s hs hd => ?_, fun l s => rfl,
    fun l s hr hok => ?_⟩
  · change whileReady (fun w => w.endPreparing l) s = _
    simp only [whileReady, if_pos hr, boundaryEvent, Work.endPreparing, Work.leg_atNextBoundary, hs, h0]
    rfl
  · change whileReady (fun w => w.recover l) s = _
    simp only [whileReady, if_pos hr, boundaryEvent, Work.recover, Work.leg_atNextBoundary, hs, h1, h2]
    rfl
  · refine ⟨((s.leg l).monitor.resumed s.boundary).span, ?_, fun hm => ?_, fun hm => ?_⟩
    · change whileReady (fun w => w.endRetiming l) s = _
      have resumed : (Work.atNextBoundary s.blocks).endRetiming l =
          ((Work.atNextBoundary s.blocks).setLeg l .on).withMonitor l ((s.leg l).monitor.resumed s.boundary) := by
        unfold Work.endRetiming
        dsimp only
        rw [if_pos (by simp [hs, h0]), Work.resumeSpan_eq _ _ (by simp [Work.setLeg_eq])]
        simp [Work.setLeg_eq, State.boundary]
      rw [whileReady, if_pos hr, boundaryEvent, resumed, Monitor.resumed_eq, Work.setLeg_eq, Work.withMonitor, Work.raise_mapLeg,
        Work.mapLeg_mapLeg]
      rfl
    · rw [Monitor.resumed_of_watches hm]
      rfl
    · rw [Monitor.resumed_of_not hm]
  · change Host.Outcome.next (event (fun w => w.drained l) s) = _
    have empty : (s.leg l).drops.all (fun e => e.state == .vacant) = true := by
      rw [Vector.all_eq_true]
      exact fun i hi => beq_iff_eq.mpr (hd ⟨i, hi⟩)
    simp only [event, Work.drained, Work.leg_start, hs, empty, beq_self_eq_true, Bool.and_self, if_true]
    rfl
  · obtain ⟨t, he, hleg, -, hp⟩ := exec_roundBoundary_next hr
    refine ⟨t, _, he, hp, ?_⟩
    rw [hleg l]
    have hnow := nextRound_now hok
    have control (hc : (s.leg l).control.state.closed = false) := boundary_control (b := s.blocks.atNextRound) (l := l) hc
    obtain ⟨v, hst, hv, hn⟩ := boundary_raised (b := s.blocks.atNextRound) (l := l)
    rw [hnow] at hst
    change (v.leg l).control = (s.leg l).control at hv
    have on_mem (hs : (s.leg l).control.state = .preparing ∨ (s.leg l).control.state = .retiming)
        (h0 : (s.leg l).control.roundsLeft = 0) : ⟨some l, none, s.boundary, .legState .on none⟩ ∈
          (Work.boundary (Work.start s.blocks.atNextRound)).raised := by
      rw [← hst]
      exact hn (v.advanceLeg_raised_on l (by rwa [hv]) (by rwa [hv]))
    refine ⟨fun hs h0 => ?_, fun hs h0 => ⟨?_, on_mem (.inl hs) h0⟩, fun hs h0 => ?_, fun hs h0 => ⟨?_, on_mem (.inr hs) h0, ?_⟩,
      fun hs h1 h2 => ⟨?_, ?_⟩, fun hs h12 => ?_, fun hs => ?_⟩
    · exact (control (by simp [hs, LegState.closed])).trans (LegControl.advanced_preparing hs h0)
    · exact (control (by simp [hs, LegState.closed])).trans (LegControl.advanced_prepared (.inl hs) h0)
    · exact (control (by simp [hs, LegState.closed])).trans (LegControl.advanced_retiming hs h0)
    · exact (control (by simp [hs, LegState.closed])).trans (LegControl.advanced_prepared (.inr hs) h0)
    · have k := boundary_monitor (b := s.blocks.atNextRound) (l := l) hs h0
      rw [hnow] at k
      exact k
    · exact (control (by simp [hs, LegState.closed])).trans (LegControl.advanced_recovered hs h1 h2)
    · rw [← hst]
      exact hn (v.advanceLeg_raised_preparing l (by rwa [hv]) (by rwa [hv]) (by rwa [hv]))
    · exact (control (by simp [hs, LegState.closed])).trans (LegControl.advanced_of_fault hs h12)
    · exact (control (by simp [hs, LegState.closed])).trans (LegControl.advanced_of_on hs)

end

section
set_option Elab.async false -- one theorem after another: side by side they ask for more threads than the check's memory limit grants
/-! PROOFS. The map build: the beats that its stages use, the drops that hold its bursts, and the bursts laid out (R89 to R99). -/

namespace Sys2Proof.Machine

/-! ### Sums by key -/

/-- What the items of each key of a list come to is no more than what all items come to. -/
theorem sum_by_key_le {α κ : Type} [DecidableEq κ] (key : α → κ) (p : α → Bool) (g : α → Nat) {ds : List κ} (h : ds.Nodup) (xs : List α) :
    (ds.map fun d => ((xs.filter fun x => key x == d && p x).map g).sum).sum ≤ (xs.map g).sum := by
  induction xs with
  | nil => simp
  | cons x xs ih =>
    have one : (ds.map fun d => if key x == d && p x then g x else 0).sum ≤ g x := by
      clear ih
      induction ds with
      | nil => simp
      | cons d ds ihd =>
        rw [List.nodup_cons] at h
        by_cases hd : key x = d
        · have rest : (ds.map fun c => if key x == c && p x then g x else 0).sum = 0 := by
            refine List.sum_eq_zero fun n hn => ?_
            obtain ⟨c, hc, rfl⟩ := List.mem_map.mp hn
            have : key x ≠ c := fun e => h.1 ((hd.symm.trans e) ▸ hc)
            simp [this]
          rw [List.map_cons, List.sum_cons, rest]
          split <;> omega
        · simpa [hd] using ihd h.2
    have split : (ds.map fun d => (((x :: xs).filter fun x => key x == d && p x).map g).sum).sum =
        (ds.map fun d => if key x == d && p x then g x else 0).sum +
          (ds.map fun d => ((xs.filter fun x => key x == d && p x).map g).sum).sum := by
      rw [← List.sum_map_add]
      refine congrArg List.sum (List.map_congr_left fun d _ => ?_)
      rw [List.filter_cons]
      split <;> simp
    rw [split, List.map_cons, List.sum_cons]
    omega

/-! ### Rotation and placement (R94, R99) -/

theorem rotation_nodup (p : Drop) : (rotation p).Nodup :=
  (List.nodup_finRange 128).map fun _ _ h => add_left_cancel h

theorem mem_rotation (p d : Drop) : d ∈ rotation p :=
  List.mem_map.mpr ⟨d - p, List.mem_finRange _, by simp⟩

theorem Build.placement_nodup (b : Build) (r : LegRecord) : (b.placement r).Nodup := by
  unfold Build.placement
  refine List.nodup_append.mpr ⟨(List.nodup_finRange 128).filter _, (rotation_nodup _).filter _, ?_⟩
  intro c hc d hd e
  subst e
  simp only [List.mem_filter, Bool.and_eq_true, Bool.not_eq_true'] at hc hd
  rw [hc.2.2] at hd
  exact absurd hd.2.2 (by simp)

theorem Build.mem_placement {b : Build} {r : LegRecord} {d : Drop} : d ∈ b.placement r ↔ d ∈ b.holders := by
  unfold Build.placement
  simp only [List.mem_append, List.mem_filter, Bool.and_eq_true, List.contains_iff_mem, mem_rotation, true_and, allDrops,
    List.mem_finRange, Bool.not_eq_true']
  constructor
  · rintro (h | h) <;> exact h.1
  · intro h
    cases hf : (laneEntries r.lanes).any fun x => x.2.activeFixed d with
    | true => exact .inl ⟨h, rfl⟩
    | false => exact .inr ⟨h, rfl⟩

/-- A map has no more bursts than its build has holders. -/
theorem Build.placement_length_le (b : Build) (r : LegRecord) : (b.placement r).length ≤ b.holders.length :=
  (List.subperm_of_subset (b.placement_nodup r) fun _ hd => Build.mem_placement.mp hd).length_le

theorem Build.placement_length_le_drops (b : Build) (r : LegRecord) : (b.placement r).length ≤ 128 :=
  (List.subperm_of_subset (b.placement_nodup r) fun d _ => List.mem_finRange d).length_le.trans (by simp)

/-! ### The bursts laid out (R99) -/

theorem layBursts_drop (segs : Drop → List Segment) (start : Nat) (ds : List Drop) : (layBursts segs start ds).map Burst.drop = ds := by
  induction ds generalizing start with
  | nil => rfl
  | cons d ds ih => simp [layBursts, ih]

/-- What the bursts of a layout come to, drop by drop. -/
theorem layBursts_map {α : Type} (f : List Segment → Nat → α) (segs : Drop → List Segment) (start : Nat) (ds : List Drop) :
    (layBursts segs start ds).map (fun b => f b.segments b.length) =
      ds.map fun d => f (segs d) (16 + ((segs d).map Segment.beats).sum) := by
  induction ds generalizing start with
  | nil => rfl
  | cons d ds ih => simp [layBursts, ih]

theorem layBursts_count (segs : Drop → List Segment) (start : Nat) (ds : List Drop) : (layBursts segs start ds).length = ds.length := by
  rw [← List.length_map (f := Burst.drop), layBursts_drop]

theorem laneEntries_length (t : Vector (Option Lane) 256) : (laneEntries t).length ≤ 256 :=
  (List.length_filterMap_le _ _).trans (by simp [allLanes])

/-- The segments of all bursts are no more than the lane table has places. -/
theorem Build.segments_count (b : Build) (r : LegRecord) : ((b.placement r).map fun d => (b.segments d).length).sum ≤ 256 := by
  have h := sum_by_key_le (fun x : Fin 256 × Lane => x.2.owner) (fun x => b.beats x.1 > 0) (fun _ => 1) (b.placement_nodup r)
    (laneEntries b.lanes)
  simp only [List.map_const', List.sum_replicate, smul_eq_mul, mul_one] at h
  refine le_trans (le_of_eq ?_) (h.trans (laneEntries_length b.lanes))
  exact congrArg List.sum (List.map_congr_left fun d _ => by rw [Build.segments, List.length_map])

end Sys2Proof.Machine
end

section
set_option Elab.async false -- one theorem after another: side by side they ask for more threads than the check's memory limit grants
/-! PROOFS. The downstream round that a boundary assembles: its header, its map handed over, its frames, its payload (R5, R155 to R157). -/

namespace Sys2Proof.Machine

/-! ### The header (R155, R156) -/

theorem Work.sendOrder_places (w : Work) (l : Leg) (i : Nat) : (w.sendOrder l i).2.length ≤ 1 := by
  unfold Work.sendOrder
  dsimp only
  split
  · exact Nat.zero_le 1
  · split <;> exact le_rfl

theorem Work.sendAll_places (w : Work) (l : Leg) (is : List Nat) : (w.sendAll l is).2.length ≤ is.length := by
  have all : ∀ (is : List Nat) (acc : Work × List OrderPlace),
      (is.foldl (fun acc i => ((acc.1.sendOrder l i).1, acc.2 ++ (acc.1.sendOrder l i).2)) acc).2.length ≤ acc.2.length + is.length := by
    intro is
    induction is with
    | nil => exact fun _ => le_rfl
    | cons i is ih =>
      intro acc
      have one := acc.1.sendOrder_places l i
      have rest := ih ((acc.1.sendOrder l i).1, acc.2 ++ (acc.1.sendOrder l i).2)
      rw [List.length_append] at rest
      rw [List.foldl_cons, List.length_cons]
      omega
  simpa [Work.sendAll] using all is (w, [])

/-- One of R45's five steps takes no order beyond the eighth. -/
theorem takePlaces_length_le {α : Type} (p : List Nat → α × Nat → Bool) (xs : List (α × Nat)) (acc : List Nat) (h : acc.length ≤ 8) :
    (xs.foldl (fun acc x => if acc.length < 8 && p acc x then acc ++ [x.2] else acc) acc).length ≤ 8 := by
  induction xs generalizing acc with
  | nil => exact h
  | cons x xs ih =>
    rw [List.foldl_cons]
    refine ih _ ?_
    split
    · next hp =>
      simp only [Bool.and_eq_true, decide_eq_true_eq] at hp
      rw [List.length_append]
      exact hp.1
    · exact h

theorem selectOrders_length_le (on : Bool) (hushed : Drop → Bool) (q : List OrderEntry) : (selectOrders on hushed q).length ≤ 8 := by
  unfold selectOrders
  extract_lets take s1 s2 s3 s4
  have step : ∀ p acc, acc.length ≤ 8 → (take p acc).length ≤ 8 := fun p acc =>
    takePlaces_length_le (fun acc x => p acc x.2 x.1) _ _
  clear_value take
  exact step _ _ (step _ _ (step _ _ (step _ _ (step _ [] (Nat.zero_le 8)))))

theorem Work.ordersSent_places (w : Work) (l : Leg) : (w.ordersSent l).2.length ≤ 8 := by
  have sent : ∀ v : Work, (v.sendOrders l).2.length ≤ 8 := fun v => by
    rw [Work.sendOrders_eq]
    exact (v.sendAll_places l _).trans (selectOrders_length_le _ _ _)
  exact sent _

/-- The byte times that the burst entries of a map take in a header (R156). -/
def GrantMap.headerRoom (m : GrantMap) : Nat := (m.bursts.map fun b => 4 + 3 * b.segments.length).sum

/-- The map of a build names at most 128 bursts and at most 256 segments. -/
theorem fullMap_headerRoom (r : LegRecord) (isOver : Drop → Bool) (k : Stamp) (win : Option TailWindow) (ranging : Option RangingEntry) :
    (fullMap r isOver k win ranging).1.headerRoom ≤ 1280 := by
  have drops := (buildGrants r isOver k.round (8000 - (win.map TailWindow.length).getD 0)).placement_length_le_drops r
  have segments := (buildGrants r isOver k.round (8000 - (win.map TailWindow.length).getD 0)).segments_count r
  unfold GrantMap.headerRoom fullMap
  dsimp only
  generalize buildGrants r isOver k.round _ = b at drops segments ⊢
  rw [layBursts_map (fun segs _ => 4 + 3 * segs.length), List.sum_map_add, List.sum_map_mul_left, List.map_const', List.sum_replicate,
    smul_eq_mul]
  omega

theorem RoundHeader.length_le {h : RoundHeader} (ho : h.orders.length ≤ 8)
    (hb : (h.bursts.map fun b => 4 + 3 * b.segments.length).sum ≤ 1280) : h.length ≤ 1508 := by
  unfold RoundHeader.length
  split <;> split <;> omega

/-! ### The frames (R164) -/

/-- What the fill of a round leaves of a leg's record. -/
def LegRecord.standing (r : LegRecord) : LegControl × Vector Byte 64 × Option GrantMap × List InFlight × Drop :=
  (r.control, r.block, r.keptMap, r.inFlight, r.pointer)

section
variable (w : Work) (l : Leg)

theorem Work.mapLeg_standing (f : LegRecord → LegRecord) (hf : ∀ r, (f r).standing = r.standing) :
    ((w.mapLeg l f).leg l).standing = (w.leg l).standing := by
  rw [Work.leg_mapLeg_self]
  exact hf _

theorem Work.setMeter_standing (d : Drop) (m : Option Meter) : ((w.setMeter l d m).leg l).standing = (w.leg l).standing := by
  rw [Work.setMeter_eq]
  exact w.mapLeg_standing l _ fun _ => rfl

theorem Work.shedBytes_standing (d : Drop) (n : Nat) : ((w.shedBytes l d n).leg l).standing = (w.leg l).standing := by
  unfold Work.shedBytes
  split
  · rfl
  · exact w.setMeter_standing l d _

theorem Work.charge_standing (d : Drop) (up : Bool) (n : Nat) (b : Fin 4) :
    ((w.charge l d up n b).leg l).standing = (w.leg l).standing := by
  have judged : ∀ v : Work, ((v.judgeQuota l d).leg l).standing = (v.leg l).standing := by
    intro v
    unfold Work.judgeQuota
    repeat' split
    · rfl
    · rfl
    · rw [Work.raise_leg]
      exact v.setMeter_standing l d _
    · rfl
  unfold Work.charge
  split
  · rfl
  · exact (judged _).trans (w.setMeter_standing l d _)

theorem Work.sendFrame_standing (f : Frame) : ((w.sendFrame l f).leg l).standing = (w.leg l).standing := by
  unfold Work.sendFrame
  rw [Work.charge_standing]
  split
  · exact w.mapLeg_standing l _ fun _ => rfl
  · rfl

end

theorem fillFrames_standing (l : Leg) (fs : List Frame) (room : Nat) (sent : List Frame) (w : Work) :
    ((fillFrames l fs room sent w).1.leg l).standing = (w.leg l).standing := by
  induction fs generalizing room sent w with
  | nil => rfl
  | cons f fs ih =>
    unfold fillFrames
    split
    · rw [ih]
      exact w.mapLeg_standing l _ fun _ => rfl
    · split
      · rw [ih, Work.shedBytes_standing]
      · split
        · rfl
        · rw [ih, Work.sendFrame_standing]

/-- The frames of a fill take no more than the room they are given (R157). -/
theorem fillFrames_room (l : Leg) (fs : List Frame) (room : Nat) (sent : List Frame) (w : Work) :
    ((fillFrames l fs room sent w).2.1.map Frame.room).sum ≤ (sent.map Frame.room).sum + room := by
  induction fs generalizing room sent w with
  | nil => exact Nat.le_add_right _ _
  | cons f fs ih =>
    unfold fillFrames
    split
    · exact ih _ _ _
    · split
      · exact ih _ _ _
      · split
        · exact Nat.le_add_right _ _
        · next hr =>
          refine (ih _ _ _).trans ?_
          rw [List.map_append, List.sum_append, List.map_singleton, List.sum_singleton]
          omega

section
variable (w : Work) (l : Leg) (os : List OrderPlace)

theorem Work.filled_standing : ((w.filled l os).1.leg l).standing = (w.leg l).standing := by
  unfold Work.filled
  split
  · rfl
  · rw [Work.fill_eq]
    have drained : ((w.drained? l (128000 - (w.header l os (w.mapNow l)).length)).1.leg l).standing = (w.leg l).standing := by
      unfold Work.drained?
      rw [fillFrames_standing]
      exact w.mapLeg_standing l _ fun _ => rfl
    refine Eq.trans ?_ drained
    exact Work.mapLeg_standing _ l _ fun _ => rfl

theorem Work.filled_room : ((w.filled l os).2.map Frame.room).sum ≤ 128000 - (w.header l os (w.mapNow l)).length := by
  unfold Work.filled
  split
  · exact Nat.zero_le _
  · rw [Work.fill_eq]
    exact (fillFrames_room l _ _ [] _).trans (Nat.zero_add _).le

theorem Work.filled_preparing (h : (w.leg l).control.state = .preparing) : (w.filled l os).2 = [] := by
  unfold Work.filled
  rw [if_pos (by simp [h])]

end

/-! ### The map handed over (R5, R89, R102) -/

/-- The record that holds map `m` of round `k`, as it was just handed over. -/
structure LegRecord.Handed (k : Stamp) (r : LegRecord) (m : GrantMap) : Prop where
  kept : r.keptMap = some m
  last : r.inFlight.getLast? = some ⟨m, r.control.settings.reach, 0, 0, 0, false, false⟩
  round : m.round = k
  headerRoom : m.headerRoom ≤ 1280
  empty : r.control.state ≠ .on → m = emptyMap r.pointer k

theorem LegRecord.takeMap_getLast? (r : LegRecord) (m : GrantMap) :
    (r.takeMap m).inFlight.getLast? = some ⟨m, r.control.settings.reach, 0, 0, 0, false, false⟩ := by
  unfold LegRecord.takeMap
  dsimp only
  rw [List.getLast?_drop, if_neg (by rw [List.length_append, List.length_singleton]; omega), List.getLast?_concat]

theorem LegRecord.Handed.of_standing {k : Stamp} {r r' : LegRecord} {m : GrantMap} (h : r.Handed k m) (hs : r'.standing = r.standing) :
    r'.Handed k m := by
  simp only [LegRecord.standing, Prod.mk.injEq] at hs
  obtain ⟨hc, -, hm, hf, hp⟩ := hs
  exact ⟨hm ▸ h.kept, hf ▸ hc ▸ h.last, h.round, h.headerRoom, hp ▸ hc ▸ h.empty⟩

section
variable {w : Work} {l : Leg}

theorem Work.mapLeg_takeMap_handed {f : LegRecord → LegRecord} {k : Stamp} {m : GrantMap} (hk : m.round = k) (hm : m.headerRoom ≤ 1280)
    (he : (f (w.leg l)).control.state ≠ .on → m = emptyMap (f (w.leg l)).pointer k) :
    ((w.mapLeg l fun r => (f r).takeMap m).leg l).Handed k m := by
  rw [Work.leg_mapLeg_self]
  exact ⟨rfl, LegRecord.takeMap_getLast? _ _, hk, hm, he⟩

theorem Work.buildFull_handed (h : (w.leg l).control.state = .on) : ∃ m, ((w.buildFull l).leg l).Handed w.stamp m := by
  have awarded := Work.windowAwarded_reach (w := w) (l := l) (σ := .all) trivial
  have on : ((w.windowAwarded l).leg l).control.state = .on := by
    rw [awarded.control_eq (by simp [h, LegState.closed]), h]
  refine ⟨(w.mapBuilt l).1, ?_⟩
  rw [Work.buildFull_eq]
  refine Work.mapLeg_takeMap_handed (f := fun r => r.afterBuild (w.windowAwarded l).stamp (w.mapBuilt l).1 (w.mapBuilt l).2)
    (Work.outside_stamp awarded.runs.outside) (fullMap_headerRoom _ _ _ _ _) fun hn => absurd ?_ hn
  rw [LegRecord.afterBuild_control, on]

theorem Work.buildEmpty_handed : ((w.buildEmpty l).leg l).Handed w.stamp (emptyMap (w.leg l).pointer w.stamp) := by
  unfold Work.buildEmpty
  rw [Work.leg_mapLeg_self]
  exact ⟨rfl, LegRecord.takeMap_getLast? _ _, rfl, Nat.zero_le _, fun _ => rfl⟩

theorem Work.mapNow_of_handed {m : GrantMap} {k : Stamp} (h : (w.leg l).Handed k m) : w.mapNow l = m := by
  rw [Work.mapNow, h.kept, Option.getD_some]

end

/-! ### The round that a leg begins -/

/-- The record of a leg that has begun its round `k` in band `band` with map `m` and downstream round `round`. -/
structure LegRecord.Began (k : Stamp) (band : Fin 4) (r : LegRecord) (m : GrantMap) (round : DownstreamRound) : Prop where
  handed : r.Handed k m
  sending : r.sending = some round
  number : round.header.round = k.round
  band : round.header.band = band
  announce : r.block[k.round % 64]? = some round.header.announce
  invitation : round.header.invitation = m.invitation
  ranging : round.header.ranging = m.ranging
  bursts : round.header.bursts = m.bursts
  orders : round.header.orders.length ≤ 8
  fits : round.header.length + (round.frames.map Frame.room).sum ≤ 128000
  preparing : r.control.state = .preparing → round.frames = []

theorem Work.assemble_began {w : Work} {l : Leg} {os : List OrderPlace} {m : GrantMap} {k : Stamp} (h : (w.leg l).Handed k m)
    (hk : w.stamp = k) (ho : os.length ≤ 8) :
    ((w.assemble l os).leg l).Began k w.blocks.band m ⟨w.header l os m, (w.filled l os).2⟩ := by
  have stands := w.filled_standing l os
  have room := w.filled_room l os
  have now := Work.mapNow_of_handed h
  rw [now] at room
  have small : (w.header l os m).length ≤ 1508 := RoundHeader.length_le ho h.headerRoom
  rw [Work.assemble_eq, Work.leg_mapLeg_self, now]
  have assembled : ({ (w.filled l os).1.leg l with sending := some ⟨w.header l os m, (w.filled l os).2⟩ } : LegRecord).standing =
      (w.leg l).standing := stands
  have hc : ((w.filled l os).1.leg l).control = (w.leg l).control := congrArg (·.1) stands
  have hb : ((w.filled l os).1.leg l).block = (w.leg l).block := congrArg (·.2.1) stands
  refine ⟨h.of_standing assembled, rfl, congrArg Stamp.round hk, rfl, ?_, rfl, rfl, rfl, ho, by dsimp only; omega, fun hp => ?_⟩
  · change ((w.filled l os).1.leg l).block[k.round % 64]? = _
    rw [hb, ← hk]
    exact Vector.getElem?_eq_getElem _
  · exact w.filled_preparing l os (hc ▸ hp)

theorem Work.beginRound_began {w : Work} {l : Leg} (h : (w.leg l).control.state.sends = true) :
    ∃ m round, ((w.beginRound l).leg l).Began w.stamp w.blocks.band m round := by
  have sent : Work.Reach l .all w (w.ordersSent l).1 := Work.ordersSent_reach trivial trivial fun _ _ _ _ _ => trivial
  have hc := sent.control_eq (LegState.closed_of_live (LegState.sends_eq_live _ ▸ h))
  have places := w.ordersSent_places l
  have hshared := Work.shared_of_outside sent.runs.outside
  rw [Work.beginRound_eq, if_pos h]
  obtain ⟨y, hy, m, handed, shared⟩ : ∃ y, y = (if (w.leg l).control.state == .on then (w.ordersSent l).1.buildFull l
      else (w.ordersSent l).1.buildEmpty l) ∧ ∃ m, (y.leg l).Handed w.stamp m ∧ y.shared = w.shared := by
    refine ⟨_, rfl, ?_⟩
    split
    · next hs =>
      obtain ⟨m, hm⟩ := Work.buildFull_handed (w := (w.ordersSent l).1) (l := l) (by rw [hc]; exact beq_iff_eq.mp hs)
      rw [Work.shared_stamp hshared] at hm
      exact ⟨m, hm, (Work.shared_of_outside (Work.buildFull_turns (σ := .all) trivial).logs.outside).trans hshared⟩
    · have hm := Work.buildEmpty_handed (w := (w.ordersSent l).1) (l := l)
      rw [Work.shared_stamp hshared] at hm
      exact ⟨_, hm, (Work.shared_of_outside (Work.buildEmpty_turns (σ := .all)).logs.outside).trans hshared⟩
  rw [← hy]
  have began := Work.assemble_began handed (Work.shared_stamp shared) places
  rw [Work.shared_band shared] at began
  exact ⟨m, _, began⟩

/-! ### The boundary -/

theorem Work.boundaryCloses_time (w : Work) : w.boundaryCloses.blocks.time = w.blocks.time := by
  refine forLegs_keeps (fun v => v.blocks.time) _ (fun k v => ?_) w
  refine forDrops_keeps (fun v => v.blocks.time) _ _ (fun d v => ?_) v
  split
  · exact congrArg (·.2.1) (v.closeMeter_outside k d _)
  · split
    · exact congrArg (·.2.1) (v.closeMeter_outside k d _)
    · rfl

theorem Work.applyBand_time (w : Work) : w.applyBand.blocks.time = w.blocks.time := by
  unfold Work.applyBand
  dsimp only
  split <;> rfl

theorem Work.blockBoundary_time (w : Work) : w.blockBoundary.blocks.time = w.blocks.time := by
  unfold Work.blockBoundary Work.composeBlocks
  exact (forLegs_keeps (fun v => v.blocks.time) _ (fun _ _ => rfl) _).trans w.applyBand_time

theorem Work.boundaryOpened_time (w : Work) : w.boundaryOpened.blocks.time = w.blocks.time := by
  unfold Work.boundaryOpened
  rw [Work.boundaryCloses_time]
  split
  · exact w.blockBoundary_time
  · rfl

theorem Work.shared_time {w w' : Work} (h : w'.shared = w.shared) : w'.blocks.time = w.blocks.time := congrArg (·.2.1) h

theorem boundary_time (b : Blocks) : (Work.boundary (Work.start b)).blocks.time = b.time := by
  obtain ⟨v, hv, ht⟩ := (Work.start b).boundary_at 0
  have turned := Work.shared_of_outside (v.legBoundary_logs 0).outside
  calc (Work.boundary (Work.start b)).blocks.time
      = (v.legBoundary 0).blocks.time := Work.shared_time ht.shared
    _ = v.blocks.time := Work.shared_time turned
    _ = (Work.start b).boundaryOpened.blocks.time := Work.shared_time hv.shared
    _ = b.time := Work.boundaryOpened_time _

theorem Work.scheduleTicked_base (w : Work) (l : Leg) : ((w.scheduleTicked l).leg l).base = (w.leg l).base := by
  unfold Work.scheduleTicked
  rw [Work.leg_mapLeg_self]
  rfl

/-- The first half of a leg's boundary and the holds leave what the leg sends and awaits. -/
theorem Work.holdsTicked_scheduleTicked_base (w : Work) (l : Leg) :
    ((((w.legReady l).holdsTicked l).scheduleTicked l).leg l).base = ((w.legReady l).leg l).base := by
  have held := (Work.holdsTicked_reach (w := w.legReady l) (l := l) (σ := .boundary) trivial (fun _ => trivial) rfl).runs.leg.base
  exact (Work.scheduleTicked_base _ l).trans held

/-- Behind a boundary a leg that is live has begun its round, and another sends and awaits what it did. -/
theorem boundary_began (b : Blocks) (l : Leg) :
    (((Work.boundary (Work.start b)).leg l).control.state.live = true → ∃ m round,
      ((Work.boundary (Work.start b)).leg l).Began b.now (Work.boundary (Work.start b)).blocks.band m round) ∧
    (((Work.boundary (Work.start b)).leg l).control.state.live = false →
      ((Work.boundary (Work.start b)).leg l).sending = b.legs[l].sending ∧
      ((Work.boundary (Work.start b)).leg l).inFlight = b.legs[l].inFlight) := by
  obtain ⟨v, hst, hs, ht⟩ := boundary_turn b l
  obtain ⟨u, hu⟩ : ∃ u, u = ((v.legReady l).holdsTicked l).scheduleTicked l := ⟨_, rfl⟩
  have turn : v.legBoundary l = u.beginRound l := by rw [hu, Work.legBoundary_eq]
  have ready := v.holdsTicked_scheduleTicked_base l
  rw [← hu] at ready
  have begun : u.Turns l .all (u.beginRound l) :=
    Work.beginRound_turns trivial trivial (fun _ _ => trivial) fun _ _ _ _ _ => trivial
  have shared : u.shared = v.shared := by
    have := ((v.legReady_logs l (σ := .boundary)).trans ((Work.holdsTicked_reach trivial (fun _ => trivial) rfl).turns.trans
      (Work.scheduleTicked_turns _ l _)).logs).outside
    rw [hu]
    exact Work.shared_of_outside this
  rw [turn] at ht
  rw [ht.leg]
  refine ⟨fun hlive => ?_, fun hlive => ?_⟩
  · have sends : (u.leg l).control.state.sends = true := by
      by_contra hn
      rw [Work.beginRound_eq, if_neg hn, ← LegState.sends_eq_live] at hlive
      exact hn hlive
    have began := Work.beginRound_began sends
    rw [Work.shared_stamp shared, hst, ← Work.shared_band (Work.shared_of_outside begun.logs.outside), ← Work.shared_band ht.shared]
      at began
    exact began
  · have silent : (u.leg l).control.state.sends = false := by
      by_contra hn
      rw [Bool.not_eq_false] at hn
      have : ((u.beginRound l).leg l).control = (u.leg l).control := by
        refine LegControl.eq_of_service begun.leg.control ?_ ?_ <;> intro e <;> rw [e] at hn <;> cases hn
      rw [this, ← LegState.sends_eq_live, hn] at hlive
      cases hlive
    rw [Work.beginRound_eq, if_neg (by simp [silent])]
    obtain ⟨m, hm, -⟩ := v.legReady_leg l
    rw [hm] at ready
    have sending : (u.leg l).sending = (v.leg l).sending := congrArg (·.2.2.2.1) ready
    have inFlight : (u.leg l).inFlight = (v.leg l).inFlight := congrArg (·.2.2.2.2.2.1) ready
    exact ⟨sending.trans (congrArg (·.sending) hs), inFlight.trans (congrArg (·.inFlight) hs)⟩

/-! ### The payload (R157) -/

theorem framesAt_head (f : Frame) (fs : List Frame) {i : Nat} (h : i < 4) :
    framesAt (f :: fs) i = .head f.drop f.surplus f.data.length i := if_pos h

theorem framesAt_data (f : Frame) (fs : List Frame) {i : Nat} (h : i < f.data.length) :
    framesAt (f :: fs) (4 + i) = .data f.data[i] := by
  rw [framesAt, if_neg (by omega), if_pos (by simp only [Frame.room]; omega), Nat.add_sub_cancel_left,
    List.getD_eq_getElem _ _ h]

/-- A frame of a round that fits stands in its payload behind the frames before it. -/
theorem DownstreamRound.payloadAt_frame {r : DownstreamRound} (hr : r.header.length + (r.frames.map Frame.room).sum ≤ 128000)
    {before after : List Frame} {f : Frame} (hf : r.frames = before ++ f :: after) :
    (∀ i, i < 4 → r.payloadAt ((before.map Frame.room).sum + i) = some (.head f.drop f.surplus f.data.length i)) ∧
    ∀ i, (h : i < f.data.length) → r.payloadAt ((before.map Frame.room).sum + 4 + i) = some (.data f.data[i]) := by
  have total : (r.frames.map Frame.room).sum = (before.map Frame.room).sum + f.data.length + 4 + (after.map Frame.room).sum := by
    rw [hf, List.map_append, List.sum_append, List.map_cons, List.sum_cons, Frame.room]
    omega
  refine ⟨fun i hi => ?_, fun i hi => ?_⟩
  · rw [DownstreamRound.payloadAt, if_pos (by omega), hf, framesAt_append, framesAt_head f after hi]
  · rw [DownstreamRound.payloadAt, if_pos (by omega), hf, Nat.add_assoc, framesAt_append, framesAt_data f after hi]

/-- The receive frame of a round starts its reach span and 128 beats into it (R5). -/
theorem InFlight.moment_zero {x : InFlight} (hr : x.reach ≤ 6250) (h1 : x.map.round.round < 4096) (h2 : x.map.round.cycle < 4294967296) :
    x.moment 0 = (x.map.round, x.reach + 128) := by
  have whole : (frameOffset x.reach + 0) / 8000 = 0 := Nat.div_eq_of_lt (by unfold frameOffset; omega)
  have beat : (frameOffset x.reach + 0) % 8000 = x.reach + 128 := Nat.mod_eq_of_lt (by unfold frameOffset; omega)
  have same : x.map.round.plus 0 = x.map.round := by
    simp only [Stamp.plus, Stamp.ofIndex, Stamp.index]
    generalize x.map.round = k at h1 h2 ⊢
    cases k
    simp only [Stamp.mk.injEq]
    dsimp only at h1 h2
    omega
  simp only [InFlight.moment, whole, beat, same]

theorem now_round_lt {s : State} (h : s.blocks.time.Ok) : s.blocks.atNextRound.now.round < 4096 := by
  have := h.round
  simp only [Blocks.atNextRound, Blocks.now, Timebase.nextRound]
  split <;> omega

theorem now_cycle_lt {s : State} (h : s.blocks.time.Ok) : s.blocks.atNextRound.now.cycle < 4294967296 := by
  have := h.cycle
  simp only [Blocks.atNextRound, Blocks.now, Timebase.nextRound]
  split <;> omega

end Sys2Proof.Machine

open Sys2Proof Sys2Proof.Machine

/-- Settles O34, by the turn a boundary gives each leg: what `LegRecord.Began` lists, and the payload of a round that fits. -/
theorem roundIsAssembled : Obligations.RoundIsAssembled := by
  intro s hr
  obtain ⟨t, he, hleg, hb, -⟩ := exec_roundBoundary_next hr
  refine ⟨t, he, fun l => ?_⟩
  have htime : t.blocks.time = s.blocks.atNextRound.time := by rw [hb, boundary_time]
  have hnow : t.now = s.blocks.atNextRound.now := by simp only [State.now, Blocks.now, htime]
  have hround : t.blocks.time.round = t.now.round := rfl
  have hband := congrArg Blocks.band hb
  have := boundary_began s.blocks.atNextRound l
  rw [← hleg l, ← hband, ← hnow] at this
  obtain ⟨live, silent⟩ := this
  refine ⟨fun hlive => ?_, silent⟩
  obtain ⟨m, round, began⟩ := live hlive
  have fits := began.fits
  refine ⟨m, round, began.handed.kept, began.sending, ⟨_, began.handed.last, rfl, rfl, rfl, rfl, rfl, fun hok hreach => ?_⟩,
    began.handed.round, began.number.trans hround.symm, began.band, began.announce, began.invitation, began.ranging, began.bursts,
    began.orders, ?_, ?_, fun before after f hf => DownstreamRound.payloadAt_frame fits hf, fun i hi hl => ?_, fun i hi => ?_,
    began.preparing, began.handed.empty⟩
  · refine (InFlight.moment_zero hreach ?_ ?_).trans (by rw [began.handed.round])
    · rw [began.handed.round, hnow]
      exact now_round_lt hok
    · rw [began.handed.round, hnow]
      exact now_cycle_lt hok
  · rw [← began.bursts]
    exact fits
  · rw [← began.bursts]
    rfl
  · rw [DownstreamRound.payloadAt, if_pos hl, framesAt_fill _ _ hi]
    rfl
  · rw [DownstreamRound.payloadAt, if_neg (by omega)]

end

section
set_option Elab.async false -- one theorem after another: side by side they ask for more threads than the check's memory limit grants
/-! PROOFS. What one close makes of a meter and of the journal, and what a retirement makes of an entry (R34, R35, R179, R182). -/

namespace Sys2Proof.Machine

/-! ### One close (R179, R182) -/

/-- What a close leaves of a meter, whether it writes a journal entry, and whether it is an ending close that is complete. -/
structure Close where
  left : Option Meter
  written : Bool
  complete : Bool

/-- A meter HELD for a close asked for at stamp `t` (R182). -/
def Meter.heldFor (m : Meter) (c : CloseCause) (t : Stamp) : Meter :=
  { m with pending := some (c, t), flags := { m.flags with extended := true } }

/-- A close of a meter at stamp `t`, with room in the journal or not; `out` is the drop's outage (R170). -/
def Meter.close (m : Meter) (c : CloseCause) (room : Bool) (t : Stamp) (out : Bool) : Close :=
  match m.pending with
  | some (was, asked) =>
    if c.ending && !was.ending then
      if m.usage then ⟨some { m with pending := some (c, asked) }, false, false⟩ else ⟨none, false, true⟩
    else ⟨some m, false, false⟩
  | none =>
    if !c.ending && !m.usage && m.flags == MeterFlags.clear then ⟨some { m with start := t }, false, false⟩
    else if c.ending && !m.usage then ⟨none, false, true⟩
    else if room then ⟨if c.ending then none else some (m.restarted t out), true, c.ending⟩
    else ⟨some (m.heldFor c t), false, false⟩

/-- A close of what a drop has for a meter. -/
def closeOf (m : Option Meter) (c : CloseCause) (room : Bool) (t : Stamp) (out : Bool) : Close :=
  match m with
  | none => ⟨none, false, c.ending⟩
  | some m => m.close c room t out

/-- The entry that a close of meter `m` writes next (R186). -/
def Work.entryFor (w : Work) (l : Leg) (d : Drop) (m : Meter) (c : CloseCause) : JournalEntry where
  seq := w.blocks.journal.nextSeq
  account := m.account
  leg := l
  drop := d
  start := m.start
  stop := w.stamp
  up := m.up
  down := m.down
  shed := m.shed
  cause := c
  flags := m.flags

section
variable (w : Work) (l : Leg) (d : Drop) (c : CloseCause)

/-- The close of the meter of a drop, as it falls due now. -/
def Work.closing : Close := closeOf (w.meter l d) c w.blocks.journal.room w.stamp (w.drop l d).outOfService

/-- The journal entries that a close of a drop writes now. -/
def Work.closeEntries : List JournalEntry :=
  if (w.closing l d c).written then (w.meter l d).toList.map fun m => w.entryFor l d m c else []

theorem Work.setMeter_leg (m : Option Meter) : (w.setMeter l d m).leg l = { w.leg l with meters := (w.leg l).meters.set d.val m } := by
  rw [Work.setMeter_eq, Work.leg_mapLeg_self]

theorem LegRecord.set_meter_self (r : LegRecord) (d : Drop) : { r with meters := r.meters.set d.val r.meters[d] } = r := by
  rw [Fin.getElem_fin, Vector.set_getElem_self]

theorem Work.judgeLevel_journal : w.judgeLevel.blocks.journal.entries = w.blocks.journal.entries ∧
    w.judgeLevel.blocks.journal.nextSeq = w.blocks.journal.nextSeq ∧ w.judgeLevel.blocks.enrol = w.blocks.enrol := by
  unfold Work.judgeLevel
  dsimp only
  split
  · exact ⟨rfl, rfl, rfl⟩
  · split <;> exact ⟨rfl, rfl, rfl⟩

/-- What `Work.closing` and `Work.closeEntries` say of a close is what it does; on its leg it changes the meter of its drop alone. -/
structure Work.ClosesAs (w : Work) (l : Leg) (d : Drop) (k : Close) (new : List JournalEntry) (out : Work × Bool) : Prop where
  leg : out.1.leg l = { w.leg l with meters := (w.leg l).meters.set d.val k.left }
  complete : out.2 = k.complete
  entries : out.1.blocks.journal.entries = w.blocks.journal.entries ++ new
  nextSeq : out.1.blocks.journal.nextSeq = w.blocks.journal.nextSeq + new.length
  enrol : out.1.blocks.enrol = w.blocks.enrol

theorem Work.ClosesAs.setMeter (m : Option Meter) (b : Bool) : w.ClosesAs l d ⟨m, false, b⟩ [] (w.setMeter l d m, b) :=
  ⟨w.setMeter_leg l d m, rfl, (List.append_nil _).symm, rfl, rfl⟩

theorem Work.ClosesAs.keep (b : Bool) : w.ClosesAs l d ⟨w.meter l d, false, b⟩ [] (w, b) :=
  ⟨((w.leg l).set_meter_self d).symm, rfl, (List.append_nil _).symm, rfl, rfl⟩

theorem Work.ClosesAs.write (m : Meter) (left : Option Meter) (b : Bool) :
    w.ClosesAs l d ⟨left, true, b⟩ [w.entryFor l d m c] ((w.writeEntry l d m c).setMeter l d left, b) := by
  obtain ⟨hent, hseq, henr⟩ := (w.mapJournal fun j =>
    { j with entries := j.entries ++ [w.entryFor l d m c], nextSeq := j.nextSeq + 1 }).judgeLevel_journal
  refine ⟨?_, rfl, hent, hseq, henr⟩
  rw [Work.setMeter_leg, Work.writeEntry_leg]

/-- A close does what `Work.closing` says. -/
theorem Work.closeMeter_spec : w.ClosesAs l d (w.closing l d c) (w.closeEntries l d c) (w.closeMeter l d c) := by
  have held (m : Meter) : w.ClosesAs l d ⟨some (m.heldFor c w.stamp), false, false⟩ []
      ((w.setMeter l d (some (m.heldFor c w.stamp))).raise (some l) (some d)
        (.journalHeld m.account c (w.setMeter l d (some (m.heldFor c w.stamp))).blocks.heldCount), false) :=
    ⟨w.setMeter_leg l d _, rfl, (List.append_nil _).symm, rfl, rfl⟩
  have keep (b : Bool) := Work.ClosesAs.keep w l d b
  unfold Work.closeEntries Work.closing Work.closeMeter
  cases hm : w.meter l d with
  | none =>
    rw [hm] at keep
    exact keep _
  | some m =>
    rw [hm] at keep
    dsimp only [closeOf, Meter.close]
    rcases Option.eq_none_or_eq_some m.pending with hp | ⟨⟨was, asked⟩, hp⟩ <;> simp only [hp]
    · split
      · exact .setMeter w l d _ _
      · split
        · exact .setMeter w l d _ _
        · split
          · have stamp : (w.writeEntry l d m c).stamp = w.stamp := Work.outside_stamp (w.writeEntry_outside l d m c)
            have drop : (w.writeEntry l d m c).drop l d = w.drop l d := by rw [Work.drop, Work.writeEntry_leg]; rfl
            unfold Work.afterWritten
            rw [stamp, drop]
            cases c.ending <;> exact .write w l d c m _ _
          · exact held m
    · split
      · split
        · exact .setMeter w l d _ _
        · exact .setMeter w l d _ _
      · exact keep _

end

/-- An ending close does not ask for the drop's outage. -/
theorem closeOf_ending {c : CloseCause} (h : c.ending = true) (m : Option Meter) (room : Bool) (t : Stamp) (out : Bool) :
    closeOf m c room t out = closeOf m c room t false := by
  cases m with
  | none => rfl
  | some m => simp [closeOf, Meter.close, h]

theorem RetireReason.closeCause_ending (r : RetireReason) : r.closeCause.ending = true := by cases r <;> rfl

/-! ### A retirement on an emptied leg (R34, R35) -/

/-- An entry that enters RETIRING (R34). -/
def DropEntry.retired (e : DropEntry) (reason : RetireReason) (t : Stamp) : DropEntry :=
  { e with
    state := .retiring, since := t, reason := some (.retire reason), hold := none, origin := none, resume := none,
    awaitingCause := none, wakeInterval := none, wakeCount := none, sleepCancelled := false }

/-- A leg without orders and lanes whose monitor is DISARMED, as it is out of service and behind LEG_OFF (R12, R15). -/
structure LegRecord.Emptied (r : LegRecord) : Prop where
  disarmed : r.monitor.state = .disarmed
  orders : r.orders = []
  owed : r.owed = []
  lanes : r.lanes = Vector.replicate 256 none

/-- A DRAINING leg in OFF when its last entry is VACANT (R13). -/
def LegRecord.offIfVacant (r : LegRecord) : LegRecord :=
  if r.control.state == .draining && r.drops.all (fun e => e.state == .vacant) then
    { r with control := { r.control with state := .off, cause := none, roundsLeft := 0 } }
  else r

theorem LegRecord.offIfVacant_eq (r : LegRecord) : ∃ c : LegControl, r.offIfVacant = { r with control := c } ∧
    (c.state = r.control.state ∨ c.state = .off ∧ ∀ d : Drop, r.drops[d].state = .vacant) := by
  unfold LegRecord.offIfVacant
  split
  · next h =>
    simp only [Bool.and_eq_true, Vector.all_eq_true, beq_iff_eq] at h
    exact ⟨_, rfl, .inr ⟨rfl, fun d => h.2 d d.isLt⟩⟩
  · exact ⟨_, rfl, .inl rfl⟩

theorem LegRecord.Emptied.filtered {r : LegRecord} (h : r.Emptied) (p : Lane → Bool) : r.lanes.map (fun o => o.filter p) = r.lanes := by
  rw [h.lanes]
  ext i hi : 1
  simp

section
variable (w : Work) (l : Leg) (d : Drop)

theorem Work.drained_leg : (w.drained l).leg l = (w.leg l).offIfVacant := by
  unfold Work.drained LegRecord.offIfVacant
  split
  · rw [Work.setLeg_eq, Work.raise_leg, Work.leg_mapLeg_self]
  · rfl

theorem Work.drained_blocks : (w.drained l).blocks.journal = w.blocks.journal ∧ (w.drained l).stamp = w.stamp := by
  unfold Work.drained
  split <;> exact ⟨rfl, rfl⟩

/-- An entry that becomes VACANT, in its leg's record. -/
def LegRecord.vacated (r : LegRecord) (d : Drop) (t : Stamp) : LegRecord :=
  { r with
    drops := r.drops.set d.val (DropEntry.vacant t)
    lastEcho := r.lastEcho.set d.val none
    histories := r.histories.set d.val History.empty
    owed := r.owed.filter fun i => i.drop != d }

/-- The enrolment entry bound to an entry cleared of its binding (R24). -/
def Work.unbound : Work :=
  match (w.drop l d).enrolRef with
  | some i => w.mapEnrol i fun e => { e with binding := none }
  | none => w

theorem Work.unbound_leg (k : Leg) : (w.unbound l d).leg k = w.leg k := by
  unfold Work.unbound
  split <;> rfl

theorem Work.unbound_blocks : (w.unbound l d).blocks.journal = w.blocks.journal ∧ (w.unbound l d).stamp = w.stamp := by
  unfold Work.unbound
  split <;> exact ⟨rfl, rfl⟩

/-- A vacancy is the binding cleared, the entry and what goes with it reset, and perhaps the end of DRAINING (R13, R24). -/
theorem Work.vacate_eq :
    w.vacate l d =
      ((((w.unbound l d).mapLeg l fun r => r.vacated d (w.unbound l d).stamp)).raiseDropState l d).drained l := by
  have reset : ∀ v : Work,
      ((v.mapDrop l d fun _ => DropEntry.vacant v.stamp).mapLeg l fun r =>
        { r with
          lastEcho := r.lastEcho.set d.val none
          histories := r.histories.set d.val History.empty
          owed := r.owed.filter fun i => i.drop != d }) = v.mapLeg l fun r => r.vacated d v.stamp := fun v => by
    rw [Work.mapDrop_eq, Work.mapLeg_mapLeg]
    rfl
  exact congrArg (fun v : Work => (v.raiseDropState l d).drained l) (reset (w.unbound l d))

theorem Work.vacate_leg : (w.vacate l d).leg l = ((w.leg l).vacated d w.stamp).offIfVacant := by
  rw [Work.vacate_eq, Work.drained_leg, Work.raiseDropState, Work.raise_leg, Work.leg_mapLeg_self, Work.unbound_leg,
    (w.unbound_blocks l d).2]

theorem Work.vacate_journal : (w.vacate l d).blocks.journal = w.blocks.journal := by
  rw [Work.vacate_eq, (Work.drained_blocks _ l).1, ← (w.unbound_blocks l d).1]
  rfl

theorem Work.departure_of_disarmed (h : (w.leg l).monitor.state = .disarmed) : w.departure l d = w := by
  unfold Work.departure
  dsimp only
  rw [h]

/-- On an emptied leg an entry enters RETIRING by its entry alone, but for a MUTE no longer asked for. -/
theorem Work.enterRetiring_emptied (h : (w.leg l).Emptied) (reason : RetireReason) :
    (w.enterRetiring l d reason).leg l =
        { w.leg l with
          drops := (w.leg l).drops.set d.val ((w.drop l d).retired reason w.stamp)
          monitor := { (w.leg l).monitor with asks := (w.leg l).monitor.asks.filter fun a => a != .mute d } } ∧
      (w.enterRetiring l d reason).blocks.journal = w.blocks.journal ∧ (w.enterRetiring l d reason).stamp = w.stamp := by
  unfold Work.enterRetiring
  rw [Work.departure_of_disarmed]
  · refine ⟨?_, rfl, rfl⟩
    rw [Work.raiseDropState, Work.raise_leg, Work.mapDrop_eq, Work.purge, Work.mapLeg_mapLeg, Work.mapLeg_mapLeg, Work.leg_mapLeg_self]
    simp only [h.filtered, h.orders, h.owed, List.filter_nil]
    rfl
  · simp [Work.raiseDropState, Work.mapDrop_eq, Work.purge, h.disarmed]

theorem Work.closing_congr {w w' : Work} {c : CloseCause} (hc : c.ending = true) (hm : w'.meter l d = w.meter l d)
    (hj : w'.blocks.journal = w.blocks.journal) (hs : w'.stamp = w.stamp) :
    w'.closing l d c = w.closing l d c ∧ w'.closeEntries l d c = w.closeEntries l d c := by
  have same : w'.closing l d c = w.closing l d c := by
    unfold Work.closing
    rw [hm, hj, hs, closeOf_ending hc, ← closeOf_ending hc _ _ _ (w.drop l d).outOfService]
  refine ⟨same, ?_⟩
  unfold Work.closeEntries Work.entryFor
  rw [same, hm, hj, hs]

/-- A retirement of an entry in use on an emptied leg: its entry, its meter, and the journal entry of its close. -/
structure Work.RetiresAs (w : Work) (l : Leg) (d : Drop) (reason : RetireReason) (w' : Work) : Prop where
  emptied : (w'.leg l).Emptied
  drops : (w'.leg l).drops = (w.leg l).drops.set d.val
    (if (w.closing l d reason.closeCause).complete then DropEntry.vacant w.stamp else (w.drop l d).retired reason w.stamp)
  meters : (w'.leg l).meters = (w.leg l).meters.set d.val (w.closing l d reason.closeCause).left
  state : (w'.leg l).control.state = (w.leg l).control.state ∨
    (w'.leg l).control.state = .off ∧ ∀ e : Drop, (w'.drop l e).state = .vacant
  entries : w'.blocks.journal.entries = w.blocks.journal.entries ++ w.closeEntries l d reason.closeCause
  nextSeq : w'.blocks.journal.nextSeq = w.blocks.journal.nextSeq + (w.closeEntries l d reason.closeCause).length

theorem Work.retire_emptied (h : (w.leg l).Emptied) (reason : RetireReason) (hd : (w.drop l d).state.resting = false) :
    w.RetiresAs l d reason (w.retire l d reason) := by
  obtain ⟨hleg, hj, hs⟩ := w.enterRetiring_emptied l d h reason
  rw [Work.retire_eq, if_neg (by simp [hd])]
  generalize w.enterRetiring l d reason = v at hleg hj hs ⊢
  have hm : v.meter l d = w.meter l d := by rw [Work.meter, hleg]; rfl
  obtain ⟨hk, he⟩ := Work.closing_congr l d reason.closeCause_ending hm hj hs
  have closed := v.closeMeter_spec l d reason.closeCause
  have stamp : (v.closeMeter l d reason.closeCause).1.stamp = w.stamp :=
    (Work.outside_stamp (v.closeMeter_outside l d _)).trans hs
  rw [hk, he] at closed
  obtain ⟨cleg, complete, entries, nextSeq, -⟩ := closed
  rw [hj] at entries nextSeq
  rw [hleg] at cleg
  dsimp only
  rw [complete]
  generalize (v.closeMeter l d reason.closeCause).1 = x at cleg stamp entries nextSeq ⊢
  have emptied : (x.leg l).Emptied := by rw [cleg]; exact ⟨h.disarmed, h.orders, h.owed, h.lanes⟩
  have drops : (x.leg l).drops = (w.leg l).drops.set d.val ((w.drop l d).retired reason w.stamp) := by rw [cleg]
  have meters : (x.leg l).meters = (w.leg l).meters.set d.val (w.closing l d reason.closeCause).left := by rw [cleg]
  have state : (x.leg l).control.state = (w.leg l).control.state := by rw [cleg]
  cases hdone : (w.closing l d reason.closeCause).complete with
  | false =>
    rw [if_neg Bool.false_ne_true]
    exact ⟨emptied, by rw [hdone]; exact drops, meters, .inl state, entries, nextSeq⟩
  | true =>
    obtain ⟨c, hc, hoff⟩ := ((x.leg l).vacated d x.stamp).offIfVacant_eq
    rw [← Work.vacate_leg] at hc
    rw [if_pos rfl]
    refine ⟨?_, ?_, ?_, ?_, ?_, ?_⟩
    · rw [hc]
      exact ⟨emptied.disarmed, emptied.orders, by simp [LegRecord.vacated, emptied.owed], emptied.lanes⟩
    · rw [hc, hdone]
      simp only [LegRecord.vacated, drops, Vector.set_set, stamp, if_true]
    · rw [hc]
      exact meters
    · simp only [Work.drop, hc]
      exact hoff.imp_left (·.trans state)
    · rw [Work.vacate_journal, entries]
    · rw [Work.vacate_journal, nextSeq]

end

end Sys2Proof.Machine
end

section
set_option Elab.async false -- one theorem after another: side by side they ask for more threads than the check's memory limit grants
/-! PROOFS. LEG_OFF: the entries of a leg retired one by one, and the DRAIN closes that find room in the journal (R12, R13, R182, R184). -/

namespace Sys2Proof.Machine

/-! ### Room in the journal (R186) -/

/-- The entries that the journal still has room for. -/
def Journal.free (j : Journal) : Nat := min (1024 - j.entries.length) (4294967296 - j.nextSeq)

/-- Room is left as long as fewer entries than those were written. -/
theorem Journal.room_iff {j j₀ : Journal} {n : Nat} (he : j.entries.length = j₀.entries.length + n)
    (hs : j.nextSeq = j₀.nextSeq + n) : j.room = true ↔ n < j₀.free := by
  simp only [Journal.room, Journal.free, he, hs, Bool.and_eq_true, decide_eq_true_eq]
  omega

theorem get_set {α : Type} (v : Vector α 128) (d e : Drop) (x : α) : (v.set d.val x)[e] = if e = d then x else v[e] := by
  rw [Fin.getElem_fin, Vector.getElem_set]
  by_cases h : e = d
  · subst h
    simp
  · rw [if_neg h, if_neg fun hv => h (Fin.ext hv.symm)]
    rfl

/-! ### Which closes are written -/

/-- A meter whose ending close is written if there is room: OPEN, with usage (R179). -/
def Meter.due (m : Meter) : Bool := m.usage && m.pending.isNone

theorem closeOf_written {c : CloseCause} (h : c.ending = true) (m : Option Meter) (room : Bool) (t : Stamp) (out : Bool) :
    (closeOf m c room t out).written = (m.any Meter.due && room) := by
  cases m with
  | none => rfl
  | some m =>
    simp only [closeOf, Meter.close, Meter.due, h, Option.any_some]
    cases m.pending <;> cases m.usage <;> cases room <;> simp
    all_goals split <;> rfl

theorem closeOf_of_not_due {c : CloseCause} (h : c.ending = true) {m : Option Meter} (hm : m.any Meter.due = false) (a b : Bool)
    (t : Stamp) (out : Bool) : closeOf m c a t out = closeOf m c b t out := by
  cases m with
  | none => rfl
  | some m =>
    simp only [closeOf, Meter.close, h]
    simp only [Meter.due, Option.any_some] at hm
    revert hm
    cases m.pending <;> cases m.usage <;> simp

/-! ### The entries of a leg retired in order -/

section
variable (w₀ : Work) (l : Leg)

/-- A drop whose DRAIN close is written if there is room. -/
def Work.drainDue (d : Drop) : Bool := !(w₀.drop l d).state.resting && (w₀.meter l d).any Meter.due

/-- The drops of a list whose DRAIN closes find room, the list taken in order (R184). -/
def Work.drainWritten (ds : List Drop) : List Drop := (ds.filter (w₀.drainDue l)).take w₀.blocks.journal.free

/-- The DRAIN close of a drop among the drops of a list. -/
def Work.drainClose (ds : List Drop) (d : Drop) : Close :=
  closeOf (w₀.meter l d) .drain (decide (d ∈ w₀.drainWritten l ds)) w₀.stamp false

/-- What the retirement of the drops `ds`, in order, makes of the work `w₀` on an emptied leg. -/
structure Work.Swept (ds : List Drop) (w : Work) : Prop where
  emptied : (w.leg l).Emptied
  stamp : w.stamp = w₀.stamp
  kept : ∀ d : Drop, d ∉ ds ∨ (w₀.drop l d).state.resting = true → w.drop l d = w₀.drop l d ∧ w.meter l d = w₀.meter l d
  taken : ∀ d ∈ ds, (w₀.drop l d).state.resting = false →
    w.drop l d = (if (w₀.drainClose l ds d).complete then DropEntry.vacant w₀.stamp else (w₀.drop l d).retired .drain w₀.stamp) ∧
    w.meter l d = (w₀.drainClose l ds d).left
  state : (w.leg l).control.state = (w₀.leg l).control.state ∨
    (w.leg l).control.state = .off ∧ ∀ d : Drop, (w.drop l d).state = .vacant
  written : ∃ new, w.blocks.journal.entries = w₀.blocks.journal.entries ++ new ∧
    w.blocks.journal.nextSeq = w₀.blocks.journal.nextSeq + new.length ∧
    new.map JournalEntry.drop = w₀.drainWritten l ds ∧
    ∀ i, (h : i < new.length) → ∃ m, w₀.meter l new[i].drop = some m ∧
      new[i] = { w₀.entryFor l new[i].drop m .drain with seq := w₀.blocks.journal.nextSeq + i }

end

section
variable {w₀ w : Work} {l : Leg} {ds : List Drop} {d : Drop}

theorem Work.Swept.nil (h : (w₀.leg l).Emptied) : w₀.Swept l [] w₀ where
  emptied := h
  stamp := rfl
  kept _ _ := ⟨rfl, rfl⟩
  taken _ h _ := absurd h List.not_mem_nil
  state := .inl rfl
  written := ⟨[], by simp, rfl, by simp [Work.drainWritten], fun i h => absurd h (Nat.not_lt_zero i)⟩

theorem Work.drainWritten_snoc_of_not_due (hd : w₀.drainDue l d = false) :
    w₀.drainWritten l (ds ++ [d]) = w₀.drainWritten l ds := by
  simp [Work.drainWritten, List.filter_append, hd]

theorem Work.drainWritten_snoc_of_room (hd : w₀.drainDue l d = true)
    (h : (ds.filter (w₀.drainDue l)).length < w₀.blocks.journal.free) :
    w₀.drainWritten l (ds ++ [d]) = w₀.drainWritten l ds ++ [d] := by
  simp only [Work.drainWritten, List.filter_append, List.filter_cons, hd, if_true, List.filter_nil]
  rw [List.take_of_length_le (by rw [List.length_append, List.length_singleton]; omega), List.take_of_length_le h.le]

theorem Work.drainWritten_snoc_of_full (h : w₀.blocks.journal.free ≤ (ds.filter (w₀.drainDue l)).length) :
    w₀.drainWritten l (ds ++ [d]) = w₀.drainWritten l ds := by
  rw [Work.drainWritten, List.filter_append, List.take_append_of_le_length h, Work.drainWritten]

theorem Work.mem_of_mem_drainWritten (h : d ∈ w₀.drainWritten l ds) : d ∈ ds := List.mem_of_mem_filter (List.mem_of_mem_take h)

theorem Work.drainWritten_length : (w₀.drainWritten l ds).length = min w₀.blocks.journal.free (ds.filter (w₀.drainDue l)).length := by
  rw [Work.drainWritten, List.length_take]

/-- The closes taken stay what they are when one more drop is taken. -/
theorem Work.drainClose_snoc {e : Drop} (he : e ∈ ds) (hd : d ∉ ds) : w₀.drainClose l (ds ++ [d]) e = w₀.drainClose l ds e := by
  have hne : e ≠ d := fun h => hd (h ▸ he)
  have same : e ∈ w₀.drainWritten l (ds ++ [d]) ↔ e ∈ w₀.drainWritten l ds := by
    cases hdue : w₀.drainDue l d with
    | false => rw [Work.drainWritten_snoc_of_not_due hdue]
    | true =>
      by_cases h : (ds.filter (w₀.drainDue l)).length < w₀.blocks.journal.free
      · simp [Work.drainWritten_snoc_of_room hdue h, hne]
      · rw [Work.drainWritten_snoc_of_full (Nat.le_of_not_lt h)]
  simp only [Work.drainClose, same]

/-- A drop is written when its turn comes if it is due and there is room. -/
theorem Work.mem_drainWritten_snoc (hd : d ∉ ds) :
    d ∈ w₀.drainWritten l (ds ++ [d]) ↔
      w₀.drainDue l d = true ∧ (ds.filter (w₀.drainDue l)).length < w₀.blocks.journal.free := by
  have not : d ∉ w₀.drainWritten l ds := fun h => hd (Work.mem_of_mem_drainWritten h)
  cases hdue : w₀.drainDue l d with
  | false => simp [Work.drainWritten_snoc_of_not_due hdue, not]
  | true =>
    by_cases h : (ds.filter (w₀.drainDue l)).length < w₀.blocks.journal.free
    · simp [Work.drainWritten_snoc_of_room hdue h, h]
    · simp [Work.drainWritten_snoc_of_full (Nat.le_of_not_lt h), h, not]

theorem Work.Swept.room (h : w₀.Swept l ds w) :
    w.blocks.journal.room = true ↔ (ds.filter (w₀.drainDue l)).length < w₀.blocks.journal.free := by
  obtain ⟨new, he, hs, hm, -⟩ := h.written
  have hl := congrArg List.length hm
  rw [List.length_map, Work.drainWritten_length] at hl
  rw [Journal.room_iff (by rw [he, List.length_append]) hs]
  omega

/-- The close of a drop whose turn comes. -/
theorem Work.Swept.closing (h : w₀.Swept l ds w) (hd : d ∉ ds) (hrest : (w₀.drop l d).state.resting = false) :
    w.closing l d .drain = w₀.drainClose l (ds ++ [d]) d := by
  obtain ⟨-, hmeter⟩ := h.kept d (.inl hd)
  unfold Work.closing Work.drainClose
  rw [closeOf_ending rfl, h.stamp, hmeter]
  cases hdue : (w₀.meter l d).any Meter.due with
  | false => exact closeOf_of_not_due rfl hdue _ _ _ _
  | true =>
    have due : w₀.drainDue l d = true := by simp [Work.drainDue, hrest, hdue]
    congr 1
    rw [Bool.eq_iff_iff, h.room, decide_eq_true_eq, Work.mem_drainWritten_snoc hd]
    simp [due]

/-- What a drop whose turn comes adds to the journal: nothing, or the entry of its meter. -/
theorem Work.Swept.closeEntries (h : w₀.Swept l ds w) (hd : d ∉ ds) (hrest : (w₀.drop l d).state.resting = false) :
    (w.closeEntries l d .drain = [] ∧ w₀.drainWritten l (ds ++ [d]) = w₀.drainWritten l ds) ∨
    ∃ m, w₀.meter l d = some m ∧ w.closeEntries l d .drain = [w.entryFor l d m .drain] ∧
      w₀.drainWritten l (ds ++ [d]) = w₀.drainWritten l ds ++ [d] := by
  obtain ⟨-, hmeter⟩ := h.kept d (.inl hd)
  have written : (w.closing l d .drain).written = ((w₀.meter l d).any Meter.due && decide (d ∈ w₀.drainWritten l (ds ++ [d]))) := by
    rw [h.closing hd hrest, Work.drainClose, closeOf_written rfl]
  unfold Work.closeEntries
  rw [written, hmeter]
  cases hdue : w₀.drainDue l d with
  | false =>
    refine .inl ⟨if_neg ?_, Work.drainWritten_snoc_of_not_due hdue⟩
    simp [Work.mem_drainWritten_snoc hd, hdue]
  | true =>
    by_cases room : (ds.filter (w₀.drainDue l)).length < w₀.blocks.journal.free
    · obtain ⟨m, hm, due⟩ : ∃ m, w₀.meter l d = some m ∧ m.due = true := by
        cases hm : w₀.meter l d with
        | none => simp [Work.drainDue, hm] at hdue
        | some m => exact ⟨m, rfl, by simpa [Work.drainDue, hm, hrest] using hdue⟩
      refine .inr ⟨m, hm, ?_, Work.drainWritten_snoc_of_room hdue room⟩
      rw [hm, if_pos (by simp [due, Work.mem_drainWritten_snoc hd, hdue, room])]
      rfl
    · refine .inl ⟨if_neg ?_, Work.drainWritten_snoc_of_full (Nat.le_of_not_lt room)⟩
      simp [Work.mem_drainWritten_snoc hd, room]

/-- The turn of one more drop. -/
theorem Work.Swept.snoc (h : w₀.Swept l ds w) (hd : d ∉ ds) : w₀.Swept l (ds ++ [d]) (w.retire l d .drain) := by
  obtain ⟨hdrop, hmeter⟩ := h.kept d (.inl hd)
  cases hrest : (w₀.drop l d).state.resting with
  | true =>
    have hdue : w₀.drainDue l d = false := by simp [Work.drainDue, hrest]
    rw [Work.retire_eq, if_pos (by rw [hdrop, hrest])]
    refine ⟨h.emptied, h.stamp, fun e he => h.kept e ?_, fun e he hne => ?_, h.state, ?_⟩
    · simpa using he.imp_left fun he hm => he (List.mem_append_left _ hm)
    · have he : e ∈ ds := by
        rcases List.mem_append.mp he with he | he
        · exact he
        · rw [List.mem_singleton.mp he, hrest] at hne; cases hne
      rw [Work.drainClose_snoc he hd]
      exact h.taken e he hne
    · rw [Work.drainWritten_snoc_of_not_due hdue]
      exact h.written
  | false =>
    have retired := w.retire_emptied l d h.emptied .drain (by rw [hdrop, hrest])
    have closing := h.closing hd hrest
    have drop (e : Drop) : (w.retire l d .drain).drop l e =
        if e = d then (if (w₀.drainClose l (ds ++ [d]) d).complete then DropEntry.vacant w₀.stamp
          else (w₀.drop l d).retired .drain w₀.stamp) else w.drop l e := by
      have := retired.drops
      rw [show RetireReason.drain.closeCause = .drain from rfl, closing, h.stamp, hdrop] at this
      rw [Work.drop, this, get_set]
      rfl
    have meter (e : Drop) : (w.retire l d .drain).meter l e = if e = d then (w₀.drainClose l (ds ++ [d]) d).left else w.meter l e := by
      have := retired.meters
      rw [show RetireReason.drain.closeCause = .drain from rfl, closing] at this
      rw [Work.meter, this, get_set]
      rfl
    refine ⟨retired.emptied, (Work.outside_stamp (w.retire_outside l d .drain)).trans h.stamp, fun e he => ?_, fun e he hne => ?_, ?_, ?_⟩
    · have hed : e ≠ d := by
        rintro rfl
        rcases he with he | he
        · exact he (List.mem_append_right _ (List.mem_singleton_self _))
        · rw [hrest] at he; cases he
      rw [drop, meter, if_neg hed, if_neg hed]
      exact h.kept e (he.imp_left fun he hm => he (List.mem_append_left _ hm))
    · rw [drop, meter]
      by_cases hed : e = d
      · subst hed
        rw [if_pos rfl, if_pos rfl]
        exact ⟨rfl, rfl⟩
      · have he : e ∈ ds := (List.mem_append.mp he).resolve_right fun hm => hed (List.mem_singleton.mp hm)
        rw [if_neg hed, if_neg hed, Work.drainClose_snoc he hd]
        exact h.taken e he hne
    · rcases retired.state with hs | hs
      · rcases h.state with ho | ⟨ho, hv⟩
        · exact .inl (hs.trans ho)
        · have := hv d
          rw [hdrop] at this
          rw [this] at hrest
          cases hrest
      · exact .inr hs
    · obtain ⟨new, he, hn, hm, hi⟩ := h.written
      rcases h.closeEntries hd hrest with ⟨hnone, hsame⟩ | ⟨m, hmeter, hone, hmore⟩
      · refine ⟨new, ?_, ?_, by rw [hsame, hm], hi⟩
        · rw [retired.entries, show RetireReason.drain.closeCause = .drain from rfl, hnone, List.append_nil, he]
        · rw [retired.nextSeq, show RetireReason.drain.closeCause = .drain from rfl, hnone, hn]
          rfl
      · refine ⟨new ++ [w.entryFor l d m .drain], ?_, ?_, ?_, fun i hl => ?_⟩
        · rw [retired.entries, show RetireReason.drain.closeCause = .drain from rfl, hone, he, List.append_assoc]
        · rw [retired.nextSeq, show RetireReason.drain.closeCause = .drain from rfl, hone, hn, List.length_append, Nat.add_assoc]
        · rw [List.map_append, hm, hmore]
          rfl
        · rw [List.length_append, List.length_singleton] at hl
          by_cases hi' : i < new.length
          · simp only [List.getElem_append_left hi']
            exact hi i hi'
          · obtain rfl : i = new.length := by omega
            simp only [List.getElem_concat_length]
            exact ⟨m, hmeter, by simp only [Work.entryFor, hn, h.stamp]⟩

theorem Work.swept_forDrops (h : (w₀.leg l).Emptied) (hn : ds.Nodup) :
    w₀.Swept l ds (forDrops ds (fun d w => w.retire l d .drain) w₀) := by
  induction ds using List.reverseRecOn with
  | nil => exact .nil h
  | append_singleton ds d ih =>
    rw [List.nodup_append] at hn
    obtain ⟨hds, -, hd⟩ := hn
    rw [forDrops, List.foldl_append, List.foldl_cons, List.foldl_nil]
    exact (ih hds).snoc fun hm => hd d hm d (List.mem_singleton_self d) rfl

end

/-! ### The closes of a sweep, case by case (R182) -/

section
variable {w₀ : Work} {l : Leg} {ds : List Drop} {d : Drop} {m : Meter}

theorem Work.drainClose_of_none (h : w₀.meter l d = none) : w₀.drainClose l ds d = ⟨none, false, true⟩ := by
  rw [Work.drainClose, h]
  rfl

theorem Work.drainClose_of_unused (h : w₀.meter l d = some m) (hp : m.pending = none) (hu : m.usage = false) :
    w₀.drainClose l ds d = ⟨none, false, true⟩ := by
  simp [Work.drainClose, h, closeOf, Meter.close, hp, hu, CloseCause.ending]

theorem Work.drainClose_of_continuing (h : w₀.meter l d = some m) {was : CloseCause} {asked : Stamp}
    (hp : m.pending = some (was, asked)) (hw : was.ending = false) :
    w₀.drainClose l ds d =
      if m.usage then ⟨some { m with pending := some (.drain, asked) }, false, false⟩ else ⟨none, false, true⟩ := by
  simp [Work.drainClose, h, closeOf, Meter.close, hp, hw, show CloseCause.drain.ending = true from rfl]

theorem Work.drainClose_of_written (h : w₀.meter l d = some m) (hd : m.due = true) (hw : d ∈ w₀.drainWritten l ds) :
    w₀.drainClose l ds d = ⟨none, true, true⟩ := by
  simp only [Meter.due, Bool.and_eq_true, Option.isNone_iff_eq_none] at hd
  simp [Work.drainClose, h, closeOf, Meter.close, hd.1, hd.2, hw, CloseCause.ending]

theorem Work.drainClose_of_full (h : w₀.meter l d = some m) (hd : m.due = true) (hw : d ∉ w₀.drainWritten l ds) :
    w₀.drainClose l ds d = ⟨some (m.heldFor .drain w₀.stamp), false, false⟩ := by
  simp only [Meter.due, Bool.and_eq_true, Option.isNone_iff_eq_none] at hd
  simp [Work.drainClose, h, closeOf, Meter.close, hd.1, hd.2, hw, CloseCause.ending]

/-- A meter with usage whose close finds no room leaves its entry RETIRING. -/
theorem Work.drainClose_incomplete (h : w₀.meter l d = some m) (hu : m.usage = true) (hw : d ∉ w₀.drainWritten l ds) :
    (w₀.drainClose l ds d).complete = false := by
  simp only [Work.drainClose, h, closeOf, Meter.close, hu, hw, decide_false]
  cases m.pending with
  | none => simp
  | some p =>
    simp only [if_true]
    split <;> rfl

end

/-! ### A leg drained -/

theorem LegRecord.emptied_emptied (r : LegRecord) : r.emptied.Emptied := ⟨rfl, rfl, rfl, rfl⟩

/-- The work before the entries of a leg are retired (R12). -/
def Work.drainBegun (w : Work) (l : Leg) : Work := (w.mapLeg l LegRecord.emptied).raise (some l) none (.legState .draining none)

section
variable (w : Work) (l : Leg)

theorem Work.drainBegun_leg : (w.drainBegun l).leg l = (w.leg l).emptied := by
  rw [Work.drainBegun, Work.raise_leg, Work.leg_mapLeg_self]

theorem Work.drainBegun_drop (d : Drop) : (w.drainBegun l).drop l d = w.drop l d := by
  rw [Work.drop, Work.drainBegun_leg]
  rfl

theorem Work.drainBegun_meter (d : Drop) : (w.drainBegun l).meter l d = w.meter l d := by
  rw [Work.meter, Work.drainBegun_leg]
  rfl

/-- A leg drained is its entries retired in ascending order, then OFF if none is left (R12, R13). -/
theorem Work.drainLeg_swept : ∃ v, w.drainLeg l = v.drained l ∧ (w.drainBegun l).Swept l allDrops v :=
  ⟨_, w.drainLeg_eq l,
    Work.swept_forDrops (by rw [Work.drainBegun_leg]; exact (w.leg l).emptied_emptied) (List.nodup_finRange 128)⟩

end

/-- The state of a leg whose entries were retired (R13). -/
theorem LegRecord.offIfVacant_state {r : LegRecord}
    (h : r.control.state = .draining ∨ r.control.state = .off ∧ ∀ d : Drop, r.drops[d].state = .vacant) :
    (r.offIfVacant.control.state = .draining ∨ r.offIfVacant.control.state = .off) ∧
    (r.offIfVacant.control.state = .off ↔ ∀ d : Drop, r.drops[d].state = .vacant) := by
  have vacant : r.drops.all (fun e => e.state == .vacant) = true ↔ ∀ d : Drop, r.drops[d].state = .vacant := by
    simp only [Vector.all_eq_true, beq_iff_eq, Fin.forall_iff]
    rfl
  rw [← vacant] at h ⊢
  unfold LegRecord.offIfVacant
  rcases h with h | ⟨h, hv⟩
  · cases r.drops.all fun e => e.state == .vacant <;> simp [h]
  · simp [h, hv]

/-- A leg drained: what LEG_OFF leaves of its entries, its meters, its state and the journal. -/
structure Work.DrainsAs (w : Work) (l : Leg) (w' : Work) : Prop where
  emptied : (w'.leg l).Emptied
  kept : ∀ d : Drop, (w.drop l d).state.resting = true → w'.drop l d = w.drop l d ∧ w'.meter l d = w.meter l d
  taken : ∀ d : Drop, (w.drop l d).state.resting = false →
    w'.drop l d = (if ((w.drainBegun l).drainClose l allDrops d).complete then DropEntry.vacant w.stamp
      else (w.drop l d).retired .drain w.stamp) ∧
    w'.meter l d = ((w.drainBegun l).drainClose l allDrops d).left
  state : (w'.leg l).control.state = .draining ∨ (w'.leg l).control.state = .off
  off : (w'.leg l).control.state = .off ↔ ∀ d : Drop, (w'.drop l d).state = .vacant
  written : ∃ new, w'.blocks.journal.entries = w.blocks.journal.entries ++ new ∧
    w'.blocks.journal.nextSeq = w.blocks.journal.nextSeq + new.length ∧
    new.map JournalEntry.drop = (w.drainBegun l).drainWritten l allDrops ∧
    ∀ i, (h : i < new.length) → ∃ m, w.meter l new[i].drop = some m ∧
      new[i] = { w.entryFor l new[i].drop m .drain with seq := w.blocks.journal.nextSeq + i }

theorem Work.drainLeg_as (w : Work) (l : Leg) : w.DrainsAs l (w.drainLeg l) := by
  obtain ⟨v, hv, swept⟩ := w.drainLeg_swept l
  obtain ⟨c, hc, -⟩ := (v.leg l).offIfVacant_eq
  have leg : (w.drainLeg l).leg l = { v.leg l with control := c } := by rw [hv, Work.drained_leg, hc]
  have drop (d : Drop) : (w.drainLeg l).drop l d = v.drop l d := by rw [Work.drop, leg]; rfl
  have meter (d : Drop) : (w.drainLeg l).meter l d = v.meter l d := by rw [Work.meter, leg]; rfl
  have state := LegRecord.offIfVacant_state (r := v.leg l) (by
    have := swept.state
    rw [Work.drainBegun_leg] at this
    exact this)
  rw [← Work.drained_leg, ← hv] at state
  refine ⟨?_, fun d hd => ?_, fun d hd => ?_, state.1, ?_, ?_⟩
  · rw [leg]
    exact ⟨swept.emptied.disarmed, swept.emptied.orders, swept.emptied.owed, swept.emptied.lanes⟩
  · rw [drop, meter, ← w.drainBegun_drop l, ← w.drainBegun_meter l]
    exact swept.kept d (.inr (by rw [w.drainBegun_drop l, hd]))
  · rw [drop, meter, ← w.drainBegun_drop l]
    exact swept.taken d (List.mem_finRange d) (by rw [w.drainBegun_drop l, hd])
  · rw [state.2]
    exact forall_congr' fun d => by rw [drop]; rfl
  · obtain ⟨new, he, hs, hm, hi⟩ := swept.written
    have journal : (w.drainLeg l).blocks.journal = v.blocks.journal := by rw [hv, (v.drained_blocks l).1]
    refine ⟨new, by rw [journal, he]; rfl, by rw [journal, hs]; rfl, hm, fun i h => ?_⟩
    obtain ⟨m, hmeter, hentry⟩ := hi i h
    exact ⟨m, by rw [← hmeter, w.drainBegun_meter l], hentry⟩

theorem DropState.resting_eq_false {s : DropState} (h1 : s ≠ .vacant) (h2 : s ≠ .retiring) : s.resting = false := by
  cases s <;> first | rfl | contradiction

/-- The drops whose DRAIN closes fall due. -/
def Work.drainClosing (w : Work) (l : Leg) : List Drop :=
  allDrops.filter fun d => (w.drop l d).state != .vacant && (w.drop l d).state != .retiring &&
    (w.meter l d).any fun m => m.usage && m.pending.isNone

theorem Work.mem_drainClosing {w : Work} {l : Leg} {d : Drop} :
    d ∈ w.drainClosing l ↔ (w.drop l d).state.resting = false ∧ ∃ m, w.meter l d = some m ∧ m.due = true := by
  have resting : ∀ s : DropState, (s != .vacant && s != .retiring) = !s.resting := by intro s; cases s <;> rfl
  simp only [Work.drainClosing, List.mem_filter, resting, allDrops, List.mem_finRange, true_and, Bool.and_eq_true,
    Bool.not_eq_true', Option.any_eq_true, Meter.due]

theorem Work.drainWritten_begun (w : Work) (l : Leg) :
    (w.drainBegun l).drainWritten l allDrops = (w.drainClosing l).take w.blocks.journal.free := by
  have same : allDrops.filter ((w.drainBegun l).drainDue l) = w.drainClosing l := by
    refine List.filter_congr fun d _ => ?_
    rw [Work.drainDue, Work.drainBegun_drop, Work.drainBegun_meter]
    cases (w.drop l d).state <;> rfl
  rw [Work.drainWritten, same]
  rfl

theorem Work.mem_drop_drainClosing {w : Work} {l : Leg} {d : Drop} (h : d ∈ (w.drainClosing l).drop w.blocks.journal.free) :
    d ∈ w.drainClosing l ∧ d ∉ (w.drainBegun l).drainWritten l allDrops := by
  refine ⟨List.mem_of_mem_drop h, fun ht => ?_⟩
  rw [Work.drainWritten_begun] at ht
  exact List.disjoint_take_drop ((List.nodup_finRange 128).filter _) le_rfl ht h

namespace Work.DrainsAs

variable {w w' : Work} {l : Leg} {d : Drop} {m : Meter}

theorem resting (h : w.DrainsAs l w') (d : Drop) : (w'.drop l d).state = .retiring ∨ (w'.drop l d).state = .vacant := by
  cases hr : (w.drop l d).state.resting with
  | true =>
    rw [(h.kept d hr).1]
    revert hr
    cases (w.drop l d).state <;> simp [DropState.resting]
  | false =>
    rw [(h.taken d hr).1]
    split
    · exact .inr rfl
    · exact .inl rfl

/-- A complete close leaves its entry VACANT and without meter. -/
theorem vacant_of (h : w.DrainsAs l w') (hr : (w.drop l d).state.resting = false) {b : Bool}
    (hk : (w.drainBegun l).drainClose l allDrops d = ⟨none, b, true⟩) :
    w'.drop l d = DropEntry.vacant w.stamp ∧ w'.meter l d = none := by
  obtain ⟨hd, hm⟩ := h.taken d hr
  rw [hk] at hd hm
  exact ⟨hd, hm⟩

/-- A close that is not complete leaves its entry RETIRING. -/
theorem retiring_of (h : w.DrainsAs l w') (hr : (w.drop l d).state.resting = false)
    (hk : ((w.drainBegun l).drainClose l allDrops d).complete = false) :
    (w'.drop l d).state = .retiring ∧ w'.meter l d = ((w.drainBegun l).drainClose l allDrops d).left := by
  obtain ⟨hd, hm⟩ := h.taken d hr
  rw [hk, if_neg Bool.false_ne_true] at hd
  exact ⟨by rw [hd]; rfl, hm⟩

theorem of_not_used (h : w.DrainsAs l w') (hr : (w.drop l d).state.resting = false)
    (hm : ∀ m, w.meter l d = some m → m.pending = none ∧ m.usage = false) :
    w'.drop l d = DropEntry.vacant w.stamp ∧ w'.meter l d = none := by
  refine h.vacant_of hr (b := false) ?_
  cases hmeter : w.meter l d with
  | none => exact Work.drainClose_of_none (by rw [Work.drainBegun_meter, hmeter])
  | some m =>
    obtain ⟨hp, hu⟩ := hm m hmeter
    exact Work.drainClose_of_unused (by rw [Work.drainBegun_meter, hmeter]) hp hu

theorem of_used_of_full (h : w.DrainsAs l w') (hr : (w.drop l d).state.resting = false) (hm : w.meter l d = some m)
    (hu : m.usage = true) (hj : w.blocks.journal.room = false) : (w'.drop l d).state = .retiring := by
  refine (h.retiring_of hr (Work.drainClose_incomplete (by rw [Work.drainBegun_meter, hm]) hu ?_)).1
  have full : w.blocks.journal.free = 0 := by
    by_contra hf
    have := (Journal.room_iff (j := w.blocks.journal) (j₀ := w.blocks.journal) (n := 0) rfl rfl).mpr (by omega)
    rw [hj] at this
    cases this
  rw [Work.drainWritten_begun, full]
  exact List.not_mem_nil

theorem of_written (h : w.DrainsAs l w') (hd : d ∈ (w.drainClosing l).take w.blocks.journal.free) :
    w'.drop l d = DropEntry.vacant w.stamp ∧ w'.meter l d = none := by
  obtain ⟨hr, m, hm, hdue⟩ := Work.mem_drainClosing.mp (List.mem_of_mem_take hd)
  exact h.vacant_of hr (Work.drainClose_of_written (by rw [Work.drainBegun_meter, hm]) hdue (by rw [Work.drainWritten_begun]; exact hd))

theorem of_held (h : w.DrainsAs l w') (hd : d ∈ (w.drainClosing l).drop w.blocks.journal.free) :
    (w'.drop l d).state = .retiring ∧ ∃ m, w.meter l d = some m ∧ w'.meter l d = some (m.heldFor .drain w.stamp) := by
  obtain ⟨hc, hw⟩ := Work.mem_drop_drainClosing hd
  obtain ⟨hr, m, hm, hdue⟩ := Work.mem_drainClosing.mp hc
  have close := Work.drainClose_of_full (w₀ := w.drainBegun l) (by rw [Work.drainBegun_meter, hm]) hdue hw
  obtain ⟨hs, hleft⟩ := h.retiring_of hr (by rw [close])
  exact ⟨hs, m, hm, by rw [hleft, close]; rfl⟩

theorem of_continuing (h : w.DrainsAs l w') (hr : (w.drop l d).state.resting = false) (hm : w.meter l d = some m)
    {was : CloseCause} {asked : Stamp} (hp : m.pending = some (was, asked)) (hw : was.ending = false) :
    (m.usage = true → (w'.drop l d).state = .retiring ∧ w'.meter l d = some { m with pending := some (.drain, asked) }) ∧
    (m.usage = false → w'.drop l d = DropEntry.vacant w.stamp ∧ w'.meter l d = none) := by
  have close := Work.drainClose_of_continuing (ds := allDrops) (w₀ := w.drainBegun l) (by rw [Work.drainBegun_meter, hm]) hp hw
  refine ⟨fun hu => ?_, fun hu => h.vacant_of hr (b := false) (by rw [close, hu]; rfl)⟩
  obtain ⟨hs, hleft⟩ := h.retiring_of hr (by rw [close, hu]; rfl)
  exact ⟨hs, by rw [hleft, close, hu]; rfl⟩

theorem reason (h : w.DrainsAs l w') (hn : (w.drop l d).state ≠ .retiring) (hs : (w'.drop l d).state = .retiring) :
    (w'.drop l d).reason = some (.retire .drain) := by
  cases hr : (w.drop l d).state.resting with
  | true =>
    rw [(h.kept d hr).1] at hs
    exact absurd hs hn
  | false =>
    have hd := (h.taken d hr).1
    split at hd
    · rw [hd] at hs; cases hs
    · rw [hd]; rfl

end Work.DrainsAs

end Sys2Proof.Machine

open Sys2Proof Sys2Proof.Machine

/-- Settles O21, by the entries retired one by one: what `Work.DrainsAs` says of each entry and of the closes written. -/
theorem legOffStartsDraining : Obligations.LegOffStartsDraining := by
  refine ⟨fun tag leg s ht hb => exec_leg_range (q := .legOff leg) rfl rfl ht hb, fun tag leg l s hl ht =>
    ⟨fun hoff hdr => ?_, fun hc => ?_⟩⟩
  · obtain ⟨w, hw⟩ : ∃ w, w = (Work.start s.blocks).drainLeg l := ⟨_, rfl⟩
    have run : runRequest (.legOff leg) s.port (Work.start s.blocks) = .ok .none s.port w := by
      rw [runRequest, doLegOff, onLeg_of_some hl, hw]
      cases hs : (s.leg l).control.state <;> simp_all
    have drains := (Work.start s.blocks).drainLeg_as l
    have stands := (Work.drainLeg_reach (σ := ⟨True, False, False, False, fun _ => True, fun _ => True⟩) (Work.start s.blocks) l
      (fun _ _ => trivial) (fun _ => trivial) fun _ => trivial).runs.leg
    rw [Work.raise_leg, Work.leg_mapLeg_self] at stands
    have outside := (Work.start s.blocks).drainLeg_outside l
    rw [← hw] at drains stands outside
    refine ⟨_, exec_answered rfl ht run, ?_, drains.state, drains.off, fun d hd => (drains.kept d ((congrArg DropState.resting hd).trans rfl)).1,
      fun d h1 h2 hm => (drains.of_not_used (DropState.resting_eq_false h1 h2) hm).1,
      fun d m h1 h2 hm hu hj => drains.of_used_of_full (DropState.resting_eq_false h1 h2) hm hu hj, ?_, ?_, drains.emptied.orders,
      drains.emptied.owed, ?_, ?_, fun n => ?_, drains.emptied.disarmed, drains.resting,
      fun d hd => (drains.kept d ((congrArg DropState.resting hd).trans rfl)).1, fun d => drains.reason, ?_,
      fun d m was asked h1 h2 hm hp hw => drains.of_continuing (DropState.resting_eq_false h1 h2) hm hp (by rcases hw with rfl | rfl <;> rfl),
      ?_, ?_, fun k hk => ?_⟩
    · exact placeAll_reply _ List.getElem?_concat_length
    · have txen : (w.leg l).control.service.txen = false := congrArg (·.1.txen) stands.base
      rwa [LegControl.service_txen] at txen
    · exact stands.settings
    · exact congrArg (·.2.2.2.2.2.2) stands.base
    · exact congrArg (·.2.2.2.2.2.1) stands.base
    · change (w.leg l).lanes[n] = none
      rw [drains.emptied.lanes]
      exact Vector.getElem_replicate n.isLt
    · obtain ⟨new, entries, nextSeq, drops, get⟩ := drains.written
      rw [Work.drainWritten_begun] at drops
      exact ⟨new, entries, nextSeq, drops, get, fun d => drains.of_written, fun d => drains.of_held⟩
    · exact stands.strangers.resolve_left id
    · exact Work.outside_time outside
    · exact Work.outside_leg outside hk
  · refine exec_answered (c := .legOff tag leg) (q := .legOff leg) (w := Work.start s.blocks) rfl ht ?_
    rw [runRequest, doLegOff, onLeg_of_some hl, Work.leg_start]
    rcases hc with hc | hc <;> rw [hc]

end

section
set_option Elab.async false -- one theorem after another: side by side they ask for more threads than the check's memory limit grants
/-! PROOFS. The room of a map build: what its five stages open and grant fits the beats that the tail window leaves (R89 to R99), and so
every step keeps the maps in bounds. -/

namespace Sys2Proof.Machine

/-! ### What a build may hold -/

/-- The beats that a build has taken: its bursts' overhead and its grants. -/
def Build.taken (b : Build) : Nat := 16 * b.holders.length + (b.grants.map Prod.snd).sum

/-- A build within the room `A` of its round, over the lane table `t`. -/
structure Build.Within (A : Nat) (t : Vector (Option Lane) 256) (b : Build) : Prop where
  load : b.taken + b.room ≤ A
  places : b.holders.length ≤ 64
  lanes : LanesUnder b.lanes t

namespace Build.Within

variable {A : Nat} {t : Vector (Option Lane) 256} {b : Build}

theorem refuse (h : b.Within A t) (d : Drop) : (b.refuse d).Within A t := by
  unfold Build.refuse
  split
  · exact h
  · exact ⟨h.load, h.places, h.lanes⟩

theorem openBurst (h : b.Within A t) (d : Drop) (hr : 16 ≤ b.room) (hp : b.holders.length < 64) : (b.openBurst d).Within A t := by
  have load := h.load
  refine ⟨?_, ?_, h.lanes⟩
  · simp only [Build.openBurst, Build.taken, List.length_append, List.length_singleton] at load ⊢
    omega
  · simp only [Build.openBurst, List.length_append, List.length_singleton]
    omega

theorem grant (h : b.Within A t) (n : Fin 256) {beats : Nat} (hr : beats ≤ b.room) : (b.grant n beats).Within A t := by
  have load := h.load
  refine ⟨?_, h.places, h.lanes⟩
  simp only [Build.grant, Build.taken, List.map_append, List.sum_append, List.map_singleton, List.sum_singleton] at load ⊢
  omega

theorem withLanes (h : b.Within A t) {u : Vector (Option Lane) 256} (hu : LanesUnder u b.lanes) : { b with lanes := u }.Within A t :=
  ⟨h.load, h.places, hu.trans h.lanes⟩

/-- What every operation of a fold keeps within the room. -/
theorem foldl {α : Type} {xs : List α} {f : Build → α → Build} (h : b.Within A t)
    (hf : ∀ b, ∀ x ∈ xs, b.Within A t → (f b x).Within A t) : (xs.foldl f b).Within A t :=
  List.foldlRecOn xs f h fun _ hb x hx => hf _ x hx hb

end Build.Within

/-- A lane's credit spent changes no lane's owner or figures. -/
theorem spendCredit_under (t : Vector (Option Lane) 256) (n : Fin 256) (beats : Nat) : LanesUnder (spendCredit t n beats) t := by
  unfold spendCredit
  cases hx : t[n] with
  | none => exact .set_none n
  | some x => exact .set_some hx (.of_eq rfl rfl)

theorem Lane.accrue_under (x : Lane) (r : LegRecord) : (x.accrue r).Under x := by
  unfold Lane.accrue
  split
  · split
    · exact .of_eq rfl rfl
    · exact .refl x
  · exact .refl x

/-! ### Stages 2 to 4 -/

section
variable {A : Nat} {t : Vector (Option Lane) 256} {b : Build}

theorem Build.Within.stage2 (h : b.Within A t) (r : LegRecord) (k : Nat) : (b.stage2 r k).Within A t := by
  unfold Build.stage2
  refine h.foldl fun b d _ h => ?_
  split
  · next hc =>
    simp only [Bool.and_eq_true, decide_eq_true_eq] at hc
    exact h.openBurst d hc.1.2 hc.2
  · exact h

/-- A grant of stage 3 to a lane, with its credit spent (R95). -/
theorem Build.Within.grantAssured (h : b.Within A t) (n : Fin 256) {beats : Nat} (hr : beats ≤ b.room)
    {u : Vector (Option Lane) 256} (hu : u = b.lanes) :
    { b.grant n beats with lanes := spendCredit u n beats }.Within A t :=
  (h.grant n hr).withLanes (hu ▸ spendCredit_under _ n beats)

theorem Build.Within.assured (h : b.Within A t) (n : Fin 256) : (b.assured n).Within A t := by
  unfold Build.assured
  split
  · exact h
  · next x _ =>
    split
    · dsimp only
      split
      · exact h
      · cases hc : b.holders.contains x.owner with
        | true =>
          simp only [Bool.not_true, Bool.false_and, Bool.false_eq_true, if_false, if_true]
          split
          · next hn => exact h.grantAssured n hn rfl
          · split
            · exact (h.grantAssured n le_rfl rfl).refuse _
            · exact h.refuse _
        | false =>
          simp only [Bool.not_false, Bool.true_and, Bool.false_eq_true, if_false, decide_eq_true_eq]
          split
          · exact h.refuse _
          · next hp =>
            split
            · next hn => exact (h.openBurst x.owner (by omega) (by omega)).grantAssured n (by simp only [Build.openBurst]; omega) rfl
            · split
              · next hs =>
                exact ((h.openBurst x.owner (by omega) (by omega)).grantAssured n (by simp only [Build.openBurst]; omega) rfl).refuse _
              · exact h.refuse _
    · exact h

theorem Build.Within.stage3 (h : b.Within A t) (r : LegRecord) : (b.stage3 r).Within A t := by
  unfold Build.stage3
  refine (h.withLanes (.map _ fun x => x.accrue_under r)).foldl fun b d _ h => ?_
  split
  · exact h.foldl fun b x _ h => h.assured x.1
  · exact h

theorem Build.Within.stage4 (h : b.Within A t) (r : LegRecord) : (b.stage4 r).Within A t := by
  unfold Build.stage4
  refine h.foldl fun b d _ h => ?_
  split
  · split
    · next hc =>
      simp only [Bool.and_eq_true, decide_eq_true_eq] at hc
      exact h.openBurst d (by omega) hc.1
    · exact h.refuse d
  · exact h

end

/-! ### The shares of stage 5 (R97, R98) -/

/-- Shares of a room by weight, each rounded down, come to no more than the room. -/
theorem sum_shares_le {α : Type} (room : Nat) (weight : α → Nat) (xs : List α) :
    (xs.map fun x => room * weight x / (xs.map weight).sum).sum ≤ room := by
  generalize hw : (xs.map weight).sum = total
  have each : (xs.map fun x => room * weight x / total).sum * total ≤ room * (xs.map weight).sum := by
    clear hw
    induction xs with
    | nil => simp
    | cons x xs ih =>
      simp only [List.map_cons, List.sum_cons, Nat.add_mul, Nat.mul_add]
      exact Nat.add_le_add (Nat.div_mul_le_self _ _) ih
  rw [hw] at each
  rcases Nat.eq_zero_or_pos total with h | h
  · simp [h]
  · exact Nat.le_of_mul_le_mul_right each h

/-- A measure that each item of a fold raises by no more than its cost. -/
theorem foldl_measure_le {α β : Type} (measure : β → Nat) (cost : α → Nat) {f : β → α → β}
    (hf : ∀ b x, measure (f b x) ≤ measure b + cost x) (xs : List α) (b : β) :
    measure (xs.foldl f b) ≤ measure b + (xs.map cost).sum := by
  induction xs generalizing b with
  | nil => simp
  | cons x xs ih =>
    have one := hf b x
    have rest := ih (f b x)
    rw [List.foldl_cons, List.map_cons, List.sum_cons]
    omega

theorem firstPass_sum_le (room throttle : Nat) (isOver : Drop → Bool) (xs : List (Fin 256 × Lane)) :
    ((firstPass room throttle isOver xs).map Share.beats).sum ≤ room := by
  refine le_trans ?_ (sum_shares_le room (fun x : Fin 256 × Lane => (x.2.surplus?.getD (0, 0)).1) xs)
  unfold firstPass
  dsimp only
  refine (foldl_measure_le (fun done : List Share => (done.map Share.beats).sum)
    (fun x : Fin 256 × Lane => room * (x.2.surplus?.getD (0, 0)).1 / (xs.map fun x => (x.2.surplus?.getD (0, 0)).1).sum)
    (fun done x => ?_) xs []).trans (Nat.zero_add _).le
  rw [List.map_append, List.sum_append, List.map_singleton, List.sum_singleton]
  refine Nat.add_le_add_left ?_ _
  split
  · exact (Nat.min_le_left _ _).trans (Nat.min_le_left _ _)
  · exact Nat.min_le_left _ _

/-- The second pass shares out no more than the first left (R98). -/
theorem secondPass_sum_le (room throttle : Nat) (isOver : Drop → Bool) {shares : List Share}
    (h : (shares.map Share.beats).sum ≤ room) : ((secondPass room throttle isOver shares).map Share.beats).sum ≤ room := by
  have left := sum_shares_le (room - (shares.map Share.beats).sum) (fun s : Share => (s.lane.surplus?.getD (0, 0)).1)
    (shares.filter fun s => !s.capped)
  unfold secondPass
  dsimp only
  generalize ((shares.filter fun s => !s.capped).map fun s => (s.lane.surplus?.getD (0, 0)).1).sum = total at left ⊢
  generalize hleft : room - (shares.map Share.beats).sum = rest at left ⊢
  refine (foldl_measure_le (fun acc : List Share × List Share => (acc.1.map Share.beats).sum)
    (fun s : Share => s.beats + if s.capped then 0 else rest * (s.lane.surplus?.getD (0, 0)).1 / total) (fun acc s => ?_) shares
    ([], shares)).trans ?_
  · split
    · simp
    · rw [List.map_append, List.sum_append, List.map_singleton, List.sum_singleton]
      refine Nat.add_le_add_left (Nat.add_le_add_left ?_ _) _
      split
      · exact (Nat.min_le_left _ _).trans (Nat.min_le_left _ _)
      · exact Nat.min_le_left _ _
  · have extra : (shares.map fun s => if s.capped then 0 else rest * (s.lane.surplus?.getD (0, 0)).1 / total).sum =
        ((shares.filter fun s => !s.capped).map fun s => rest * (s.lane.surplus?.getD (0, 0)).1 / total).sum := by
      clear left hleft h
      induction shares with
      | nil => rfl
      | cons s shares ih => cases hc : s.capped <;> simp [hc, ih]
    rw [List.sum_map_add, extra]
    simp only [List.map_nil, List.sum_nil]
    omega

/-! ### Stage 5 -/

section
variable {A : Nat} {t : Vector (Option Lane) 256} {b : Build}

/-- Some grants that together fit the room. -/
theorem Build.Within.grants (h : b.Within A t) (shares : List Share) (hs : (shares.map Share.beats).sum ≤ b.room) :
    (shares.foldl (fun b s => if s.beats = 0 then b else b.grant s.number s.beats) b).Within A t := by
  induction shares generalizing b with
  | nil => exact h
  | cons s shares ih =>
    rw [List.map_cons, List.sum_cons] at hs
    rw [List.foldl_cons]
    split
    · exact ih h (by omega)
    · refine ih (h.grant s.number (by omega)) ?_
      simp only [Build.grant]
      omega

theorem Build.Within.stage5 (h : b.Within A t) (r : LegRecord) (isOver : Drop → Bool) (before : List Drop) :
    (b.stage5 r isOver before).Within A t := by
  unfold Build.stage5
  refine (h.grants _ (secondPass_sum_le _ _ _ (firstPass_sum_le _ _ _ _))).foldl fun b d _ h => ?_
  split
  · exact h
  · exact h.refuse d

end

/-! ### Stage 1 (R91) -/

/-- The FIXED lanes that stage 1 grants to a drop. -/
def LegRecord.fixedLanes (r : LegRecord) (d : Drop) : List (Fin 256 × Lane) := (laneEntries r.lanes).filter fun x => x.2.activeFixed d

/-- The drops of a list to which stage 1 opens a burst. -/
def LegRecord.fixedHolders (r : LegRecord) (ds : List Drop) : List Drop := ds.filter fun d => r.eligible d && !(r.fixedLanes d).isEmpty

/-- What stage 1 grants to the drops of a list. -/
def LegRecord.fixedGrants (r : LegRecord) (ds : List Drop) : List (Fin 256 × Nat) :=
  (r.fixedHolders ds).flatMap fun d => (r.fixedLanes d).map fun x => (x.1, x.2.fixedBeats)

theorem Build.grantAll_eq (xs : List (Fin 256 × Lane)) (b : Build) :
    xs.foldl (fun b x => b.grant x.1 x.2.fixedBeats) b =
      { b with
        grants := b.grants ++ xs.map fun x => (x.1, x.2.fixedBeats)
        room := b.room - (xs.map fun x => x.2.fixedBeats).sum } := by
  induction xs generalizing b with
  | nil => simp
  | cons x xs ih =>
    rw [List.foldl_cons, ih]
    simp [Build.grant, Nat.sub_sub]

/-- Stage 1: what it takes of the room is what it opens and grants. -/
theorem Build.stage1_eq (r : LegRecord) (b : Build) :
    b.stage1 r =
      { b with
        holders := b.holders ++ r.fixedHolders allDrops
        grants := b.grants ++ r.fixedGrants allDrops
        room := b.room - (16 * (r.fixedHolders allDrops).length + ((r.fixedGrants allDrops).map Prod.snd).sum) } := by
  change allDrops.foldl (fun b d => if (r.eligible d && !(r.fixedLanes d).isEmpty) = true then
    (r.fixedLanes d).foldl (fun b x => b.grant x.1 x.2.fixedBeats) (b.openBurst d) else b) b = _
  induction allDrops generalizing b with
  | nil => simp [LegRecord.fixedHolders, LegRecord.fixedGrants]
  | cons d ds ih =>
    rw [List.foldl_cons, ih]
    by_cases hd : (r.eligible d && !(r.fixedLanes d).isEmpty) = true
    · have holders : r.fixedHolders (d :: ds) = d :: r.fixedHolders ds := List.filter_cons_of_pos hd
      have grants : r.fixedGrants (d :: ds) = (r.fixedLanes d).map (fun x => (x.1, x.2.fixedBeats)) ++ r.fixedGrants ds := by
        rw [LegRecord.fixedGrants, holders, List.flatMap_cons, LegRecord.fixedGrants]
      rw [if_pos hd, Build.grantAll_eq, holders, grants]
      simp only [Build.openBurst, List.append_assoc, List.singleton_append, List.length_cons, List.map_append, List.sum_append,
        List.map_map, Function.comp_def, Build.mk.injEq, true_and, and_true, LegRecord.fixedLanes]
      omega
    · have holders : r.fixedHolders (d :: ds) = r.fixedHolders ds := List.filter_cons_of_neg hd
      rw [if_neg hd]
      simp only [LegRecord.fixedGrants, holders]

theorem laneEntries_map_snd (t : Vector (Option Lane) 256) : (laneEntries t).map Prod.snd = laneList t := by
  have places : t.toList = allLanes.map fun n => t[n] := List.ext_getElem (by simp [allLanes]) fun i _ _ => by simp [allLanes]
  rw [laneList, places, List.filterMap_map, laneEntries, List.map_filterMap]
  refine List.filterMap_congr fun n _ => ?_
  change ((t[n]).map fun x => (n, x)).map Prod.snd = t[n]
  cases t[n] <;> rfl

theorem mem_laneEntries_snd {t : Vector (Option Lane) 256} {x : Fin 256 × Lane} (h : x ∈ laneEntries t) : x.2 ∈ laneList t :=
  laneEntries_map_snd t ▸ List.mem_map_of_mem h

/-- Stage 1 opens and grants no more than the FIXED load of the lane table (R83, R91). -/
theorem LegRecord.fixedHolders_length_le (r : LegRecord) : (r.fixedHolders allDrops).length ≤ fixedDrops r.lanes := by
  refine List.Sublist.length_le (List.monotone_filter_right _ fun d hd => ?_)
  simp only [Bool.and_eq_true, Bool.not_eq_true', List.isEmpty_eq_false_iff_exists_mem, LegRecord.fixedLanes, List.mem_filter,
    Lane.activeFixed, beq_iff_eq] at hd
  obtain ⟨-, x, hx, ⟨ho, -⟩, hf⟩ := hd
  exact List.any_eq_true.mpr ⟨x.2, mem_laneEntries_snd hx, by simp [hf, ho]⟩

theorem LegRecord.fixedGrants_sum_le (r : LegRecord) : ((r.fixedGrants allDrops).map Prod.snd).sum ≤ fixedSum r.lanes := by
  have byDrop := sum_by_key_le (fun x : Fin 256 × Lane => x.2.owner) (fun x => x.2.state == .active && x.2.isFixed)
    (fun x => x.2.fixedBeats) (ds := r.fixedHolders allDrops) ((List.nodup_finRange 128).filter _) (laneEntries r.lanes)
  have total : ((laneEntries r.lanes).map fun x => x.2.fixedBeats).sum = fixedSum r.lanes := by
    rw [fixedSum, ← laneEntries_map_snd, List.map_map]
    rfl
  rw [total] at byDrop
  refine le_trans (le_of_eq ?_) byDrop
  rw [LegRecord.fixedGrants, List.map_flatMap, List.flatMap_def, List.sum_flatten, List.map_map]
  refine congrArg List.sum (List.map_congr_left fun d _ => ?_)
  simp only [LegRecord.fixedLanes, Lane.activeFixed, List.map_map, Function.comp_def, Bool.and_assoc]

theorem Build.Within.stage1 {r : LegRecord} {A : Nat} (h : fixedSum r.lanes + 16 * fixedDrops r.lanes ≤ A)
    (hd : fixedDrops r.lanes ≤ 32) : ((⟨r.lanes, A, [], [], []⟩ : Build).stage1 r).Within A r.lanes := by
  have holders := r.fixedHolders_length_le
  have grants := r.fixedGrants_sum_le
  rw [Build.stage1_eq]
  refine ⟨?_, ?_, .refl _⟩
  · simp only [Build.taken, List.nil_append]
    omega
  · simp only [List.nil_append]
    omega

/-- The grants of a round fit its room, with at most 64 bursts (R89). -/
theorem buildGrants_within {r : LegRecord} {A : Nat} (h : fixedSum r.lanes + 16 * fixedDrops r.lanes ≤ A)
    (hd : fixedDrops r.lanes ≤ 32) (isOver : Drop → Bool) (k : Nat) : (buildGrants r isOver k A).Within A r.lanes :=
  ((((Build.Within.stage1 h hd).stage2 r k).stage3 r).stage4 r).stage5 r isOver _

/-! ### The map of a build (R89, R99) -/

/-- The grants to lanes of a table come to no more than all grants. -/
theorem Build.beats_sum_le (b : Build) : ((laneEntries b.lanes).map fun x => b.beats x.1).sum ≤ (b.grants.map Prod.snd).sum := by
  have once : ((laneEntries b.lanes).map Prod.fst).Nodup := by
    have some : (laneEntries b.lanes).map Prod.fst = allLanes.filter fun n => (b.lanes[n]).isSome := by
      rw [laneEntries, List.map_filterMap, ← List.filterMap_eq_filter]
      refine List.filterMap_congr fun n _ => ?_
      cases hn : b.lanes[n] <;> simp [Option.guard, hn]
    rw [some]
    exact (List.nodup_finRange 256).filter _
  have byLane := sum_by_key_le (fun g : Fin 256 × Nat => g.1) (fun _ => true) Prod.snd once b.grants
  rw [List.map_map] at byLane
  simp only [Bool.and_true] at byLane
  exact byLane

/-- The bursts of a build take no more beats than the build has taken. -/
theorem Build.bursts_sum_le (b : Build) (r : LegRecord) (start : Nat) :
    ((layBursts b.segments start (b.placement r)).map Burst.length).sum ≤ b.taken := by
  have places := b.placement_length_le r
  have lanes := b.beats_sum_le
  have byDrop := sum_by_key_le (fun x : Fin 256 × Lane => x.2.owner) (fun x => b.beats x.1 > 0) (fun x => b.beats x.1)
    (b.placement_nodup r) (laneEntries b.lanes)
  have total : ((layBursts b.segments start (b.placement r)).map Burst.length).sum =
      16 * (b.placement r).length + ((b.placement r).map fun d => ((b.segments d).map Segment.beats).sum).sum := by
    rw [layBursts_map (fun _ n => n), List.sum_map_add, List.map_const', List.sum_replicate, smul_eq_mul, Nat.mul_comm]
  have segments (d : Drop) : ((b.segments d).map Segment.beats).sum =
      (((laneEntries b.lanes).filter fun x => x.2.owner == d && decide (b.beats x.1 > 0)).map fun x => b.beats x.1).sum := by
    rw [Build.segments, List.map_map]
    rfl
  simp only [segments] at total
  rw [total, Build.taken]
  omega

theorem award_length_le (q : WindowRequests) {reach : Nat} (h : 625 ≤ reach) :
    ((award q reach).map TailWindow.length).getD 0 ≤ reach + 80 := by
  unfold award
  repeat' split
  all_goals simp only [Option.map_some, Option.map_none, Option.getD_some, Option.getD_none]; omega

/-- The full map of a round under the FIXED limits is a good one. -/
theorem fullMap_ok {r : LegRecord} (hreach : 625 ≤ r.control.settings.reach ∧ r.control.settings.reach ≤ 6250)
    (hl : fixedLimitsHold r.lanes r.control.settings.reach = true) (isOver : Drop → Bool) (k : Stamp) (q : WindowRequests)
    (ranging : Option RangingEntry) :
    (fullMap r isOver k (award q r.control.settings.reach) ranging).1.Ok ∧
      LanesUnder (fullMap r isOver k (award q r.control.settings.reach) ranging).2.lanes r.lanes := by
  have window := award_length_le q hreach.1
  rw [fixedLimitsHold_iff, fixedLimit] at hl
  have within := buildGrants_within (r := r) (A := 8000 - ((award q r.control.settings.reach).map TailWindow.length).getD 0)
    (by omega) hl.2 isOver k.round
  unfold fullMap
  dsimp only
  generalize buildGrants r isOver k.round _ = b at within ⊢
  obtain ⟨load, places, lanes⟩ := within
  refine ⟨⟨?_, ?_, ?_⟩, lanes⟩
  · dsimp only
    rw [layBursts_count]
    exact (b.placement_length_le r).trans places
  · dsimp only
    rw [layBursts_drop]
    exact b.placement_nodup r
  · have bursts := b.bursts_sum_le r 0
    dsimp only
    omega

/-! ### The invariant -/

/-- The scope of the work on a leg: entries, lanes and maps come into use outside OFF and DRAINING, the monitor is armed in service. -/
def LegRecord.mapScope (r : LegRecord) : Scope :=
  ⟨r.control.state.closed = false, r.control.state.live = true, True, True, fun _ => True, fun _ => True⟩

theorem LegState.closed_iff {s : LegState} : s.closed = true ↔ s = .off ∨ s = .draining := by cases s <;> simp [LegState.closed]

theorem DropState.resting_iff {s : DropState} : s.resting = true ↔ s = .vacant ∨ s = .retiring := by cases s <;> simp [DropState.resting]

theorem GrantMap.emptyMap_ok (p : Drop) (k : Stamp) : (emptyMap p k).Ok := ⟨Nat.zero_le _, List.nodup_nil, Nat.zero_le _⟩

/-- An empty lane table meets the FIXED limits under every reach span. -/
theorem fixedLimitsHold_of_empty {t : Vector (Option Lane) 256} (h : ∀ n : Fin 256, t[n] = none) (reach : Nat) :
    fixedLimitsHold t reach = true := by
  have none : laneList t = [] := List.eq_nil_iff_forall_not_mem.mpr fun x hx => by
    obtain ⟨n, hn⟩ := mem_laneList.mp hx
    rw [h n] at hn
    cases hn
  rw [fixedLimitsHold_iff, fixedSum, fixedDrops, none]
  simp

namespace LegRecord.MapsOk

variable {r : LegRecord}

theorem closed_of_used (h : r.MapsOk) {d : Drop} (hd : r.drops[d].state.resting = false) : r.control.state.closed = false := by
  by_contra hc
  have := (h.drained (LegState.closed_iff.mp (by simpa using hc))).2 d
  rw [← DropState.resting_iff, hd] at this
  cases this

theorem closed_of_lane (h : r.MapsOk) {n : Fin 256} {x : Lane} (hx : r.lanes[n] = some x) : r.control.state.closed = false := by
  by_contra hc
  have := (h.drained (LegState.closed_iff.mp (by simpa using hc))).1 n
  rw [hx] at this
  cases this

theorem live_of_armed (h : r.MapsOk) (hm : r.monitor.state ≠ .disarmed) : r.control.state.live = true := by
  by_contra hl
  exact hm (h.resting (by simpa using hl)).2

theorem live_of_flying (h : r.MapsOk) (hf : r.inFlight ≠ []) : r.control.state.live = true := by
  by_contra hl
  exact hf (h.resting (by simpa using hl)).1

/-- A map handed over to a leg in service (R89). -/
theorem takeMap (h : r.MapsOk) {m : GrantMap} (hm : m.Ok) (hl : r.control.state.live = true) : (r.takeMap m).MapsOk where
  two := by
    simp only [LegRecord.takeMap, List.length_drop, List.length_append, List.length_singleton]
    omega
  flying x hx := by
    have hx : x ∈ r.inFlight ++ [⟨m, r.control.settings.reach, 0, 0, 0, false, false⟩] := List.mem_of_mem_drop hx
    rcases List.mem_append.mp hx with hx | hx
    · exact h.flying x hx
    · rw [List.mem_singleton.mp hx]
      exact hm
  kept x hx := by
    obtain rfl : m = x := by simpa [LegRecord.takeMap] using hx
    exact hm
  reach := h.reach
  limits := h.limits
  resting hn := by rw [show (r.takeMap m).control = r.control from rfl, hl] at hn; cases hn
  drained hn := h.drained hn

/-- A record whose control record, maps, monitor state, lanes and entries are as `MapsOk` wants them. -/
theorem of_control (h : r.MapsOk) {c : LegControl} (hr : 625 ≤ c.settings.reach ∧ c.settings.reach ≤ 6250)
    (hl : fixedLimitsHold r.lanes c.settings.reach = true) (hlive : r.control.state.live = true → c.state.live = false → False)
    (hc : c.state.closed = true → r.control.state.closed = true) : { r with control := c }.MapsOk where
  two := h.two
  flying := h.flying
  kept := h.kept
  reach := hr
  limits := hl
  resting hn := h.resting (by by_contra hl; exact hlive (by simpa using hl) hn)
  drained hn := h.drained (LegState.closed_iff.mp (hc (LegState.closed_iff.mpr hn)))

/-- Work in scope keeps the maps good. -/
theorem steps (h : r.MapsOk) {r' : LegRecord} (k : r.Steps r.mapScope r') : r'.MapsOk := by
  have service : r'.control.service = r.control.service := congrArg (·.1) k.base
  have inFlight : r'.inFlight = r.inFlight := congrArg (·.2.2.2.2.2.1) k.base
  have keptMap : r'.keptMap = r.keptMap := congrArg (·.2.2.2.2.1) k.base
  have live : r'.control.state.live = r.control.state.live := by
    rw [← LegControl.service_live, service, LegControl.service_live]
  have closed : r'.control.state.closed = r.control.state.closed := by
    rw [← LegControl.service_closed, service, LegControl.service_closed]
  refine ⟨inFlight ▸ h.two, inFlight ▸ h.flying, keptMap ▸ h.kept, by rw [k.settings]; exact h.reach, ?_, fun hn => ?_, fun hn => ?_⟩
  · rw [k.settings]
    rcases k.lanes with hl | ⟨-, hl⟩
    · exact fixedLimitsHold_of_under hl h.limits
    · exact hl h.limits
  · rw [live] at hn
    obtain ⟨hf, hm⟩ := h.resting hn
    refine ⟨inFlight.trans hf, ?_⟩
    rcases k.monitor with ha | calm
    · rw [show r.mapScope.armed = (r.control.state.live = true) from rfl, hn] at ha
      cases ha
    · exact (calm.idle (by rw [hm]; rfl)).1.trans hm
  · rw [← LegState.closed_iff, closed] at hn
    have unused : ¬ r.mapScope.inUse := by
      change ¬ r.control.state.closed = false
      simp [hn]
    obtain ⟨hl, hd⟩ := h.drained (LegState.closed_iff.mp hn)
    refine ⟨?_, fun d => ?_⟩
    · rcases k.lanes with hu | ⟨hu, -⟩
      · exact hu.empty hl
      · exact absurd hu unused
    · rcases k.drops with hu | hk
      · exact absurd hu unused
      · exact DropState.resting_iff.mp (hk d (DropState.resting_iff.mpr (hd d)))

/-- The build of a full map leaves the record good, its map not yet handed over. -/
theorem afterBuild (h : r.MapsOk) (k : Stamp) (m : GrantMap) {b : Build} (hb : LanesUnder b.lanes r.lanes)
    (hon : r.control.state = .on) : (r.afterBuild k m b).MapsOk := by
  have lanes : LanesUnder (r.afterBuild k m b).lanes r.lanes := by
    refine LanesUnder.trans (fun n y hy => ?_) hb
    unfold LegRecord.afterBuild at hy
    simp only [Fin.getElem_fin, Vector.getElem_ofFn, Fin.eta, Option.map_eq_some_iff] at hy
    obtain ⟨x, hx, rfl⟩ := hy
    refine ⟨x, hx, ?_⟩
    split
    · exact .of_eq rfl rfl
    · exact .refl x
  have control := r.afterBuild_control k m b
  have inFlight : (r.afterBuild k m b).inFlight = r.inFlight := by unfold LegRecord.afterBuild; rfl
  have keptMap : (r.afterBuild k m b).keptMap = r.keptMap := by unfold LegRecord.afterBuild; rfl
  generalize r.afterBuild k m b = built at lanes control inFlight keptMap ⊢
  refine ⟨inFlight ▸ h.two, inFlight ▸ h.flying, keptMap ▸ h.kept, control ▸ h.reach, ?_, fun hn => ?_, fun hn => ?_⟩
  · rw [control]
    exact fixedLimitsHold_of_under lanes h.limits
  · rw [control, hon] at hn
    cases hn
  · rw [control, hon] at hn
    rcases hn with hn | hn <;> cases hn

/-- A record without maps in a state out of service, its lanes and entries gone if the state is OFF or DRAINING. -/
theorem out_of_service (h1 : r.inFlight = []) (h2 : r.keptMap = none) (h3 : r.monitor.state = .disarmed)
    (hr : 625 ≤ r.control.settings.reach ∧ r.control.settings.reach ≤ 6250)
    (hl : fixedLimitsHold r.lanes r.control.settings.reach = true)
    (hd : r.control.state.closed = true → (∀ n : Fin 256, r.lanes[n] = none) ∧ ∀ d : Drop, r.drops[d].state.resting = true) :
    r.MapsOk where
  two := by simp [h1]
  flying := by simp [h1]
  kept := by simp [h2]
  reach := hr
  limits := hl
  resting _ := ⟨h1, h3⟩
  drained hn := (hd (LegState.closed_iff.mpr hn)).imp_right fun hd d => DropState.resting_iff.mp (hd d)

theorem moves (h : r.MapsOk) {c : LegControl} (k : r.control.Moves c) : { r with control := c }.MapsOk := by
  have off (hs : r.control.state = .off) (n : Nat) : fixedLimitsHold r.lanes n = true := fixedLimitsHold_of_empty (h.drained (.inl hs)).1 n
  cases k with
  | levels level seen => exact h.of_control h.reach h.limits (by simp_all) id
  | settings s hs => exact h.of_control (hs ▸ h.reach) (hs ▸ h.limits) (by simp_all) id
  | recover hs => exact h.of_control h.reach h.limits (by simp [LegState.live]) (by simp [LegState.closed])
  | prepared hs h0 => exact h.of_control h.reach h.limits (by simp [LegState.live]) (by simp [LegState.closed])
  | retimed hs => exact h.of_control h.reach h.limits (by simp [LegState.live]) (by simp [LegState.closed])
  | retiming hs => exact h.of_control h.reach h.limits (by simp [LegState.live]) (by simp [LegState.closed])
  | drainFault cause hs => exact h.of_control h.reach h.limits (by simp [hs, LegState.live]) (by simp [LegState.closed])
  | round => exact h.of_control h.reach h.limits (by simp [LegControl.beginRound, LegControl.watchAfresh]) id
  | turnOn n hs hn => exact h.of_control hn (off hs n) (by simp [LegState.live]) (by simp [LegState.closed])
  | turnOnFaulty n hs hn => exact h.of_control hn (off hs n) (by simp [hs, LegState.live]) (by simp [LegState.closed])

end LegRecord.MapsOk

theorem legKept_mapsOk : LegKept LegRecord.mapScope LegRecord.MapsOk where
  free _ := ⟨trivial, trivial, fun _ => trivial, fun _ => trivial⟩
  used r h d hd := h.closed_of_used hd
  armed r h hm := ⟨h.live_of_armed hm, LegState.closed_of_live (h.live_of_armed hm)⟩
  lanes r h n x hx := h.closed_of_lane hx
  live r h hl := ⟨hl, LegState.closed_of_live hl⟩
  receives r h hf := LegState.closed_of_live (h.live_of_flying hf)
  steps r r' h k := h.steps k
  idle r block host sending fifo h := ⟨h.two, h.flying, h.kept, h.reach, h.limits, h.resting, h.drained⟩
  receive r q h hq := by
    have maps : ∀ x ∈ q, ∃ y ∈ r.inFlight, y.map = x.map := fun x hx => List.mem_map.mp (hq.subset (List.mem_map_of_mem hx))
    refine ⟨?_, fun x hx => ?_, h.kept, h.reach, h.limits, fun hn => ?_, h.drained⟩
    · have := hq.length_le
      rw [List.length_map, List.length_map] at this
      exact this.trans h.two
    · obtain ⟨y, hy, hxy⟩ := maps x hx
      exact hxy ▸ h.flying y hy
    · obtain ⟨hf, hm⟩ := h.resting hn
      refine ⟨List.eq_nil_iff_forall_not_mem.mpr fun x hx => ?_, hm⟩
      obtain ⟨y, hy, -⟩ := maps x hx
      rw [hf] at hy
      cases hy
  full r isOver k q ranging mb h hon hmb := by
    obtain ⟨hm, hb⟩ := fullMap_ok h.reach h.limits isOver k q ranging
    rw [hmb] at hm hb
    refine (h.afterBuild k mb.1 hb hon).takeMap hm ?_
    rw [LegRecord.afterBuild_control, hon]
    rfl
  empty r p k h hl := h.takeMap (GrantMap.emptyMap_ok p k) hl
  control r c h k := h.moves k
  respan r n h hon hn hl := h.of_control hn hl (by simp [hon, LegState.live]) (by simp [hon, LegState.closed])
  fault r cause h hl := .out_of_service rfl rfl rfl h.reach h.limits (by simp [LegRecord.outOfService, LegState.closed])
  drain w l h hc := by
    have drains := w.drainLeg_as l
    have stands := (w.drainLeg_reach (σ := .all) l (fun _ _ => trivial) (fun _ => trivial) fun _ => trivial).runs.leg
    rw [Work.raise_leg, Work.leg_mapLeg_self] at stands
    generalize w.drainLeg l = v at drains stands ⊢
    have empty : ∀ n : Fin 256, (v.leg l).lanes[n] = none := fun n => by
      rw [drains.emptied.lanes]
      exact Vector.getElem_replicate n.isLt
    have inFlight : (v.leg l).inFlight = [] := congrArg (·.2.2.2.2.2.1) stands.base
    have keptMap : (v.leg l).keptMap = none := congrArg (·.2.2.2.2.1) stands.base
    refine .out_of_service inFlight keptMap drains.emptied.disarmed ?_ (fixedLimitsHold_of_empty empty _) fun _ =>
      ⟨empty, fun d => DropState.resting_iff.mpr (drains.resting d).symm⟩
    rw [stands.settings]
    exact h.reach
  restarted r t h := by
    have empty : ∀ n : Fin 256, (r.restarted t).lanes[n] = none := fun n => Vector.getElem_replicate n.isLt
    refine .out_of_service rfl rfl rfl h.reach (fixedLimitsHold_of_empty empty _) fun _ => ⟨empty, fun d => ?_⟩
    have vacant : (r.restarted t).drops[d] = DropEntry.vacant t := Vector.getElem_replicate d.isLt
    rw [vacant]
    rfl
  reset l level := by
    have h := reset_maps_ok l
    rw [reset_leg] at h
    exact h.of_control h.reach h.limits (by simp) id

end Sys2Proof.Machine

open Sys2Proof Sys2Proof.Machine

/-- Settles O11: the maps stay good under work in the scope of a leg's state; a full map is good because the stages of its build fit the
room and the FIXED limits leave stage 1 its room. -/
theorem stepKeepsMapsInBounds : Obligations.StepKeepsMapsInBounds := fun _ _ h he => legKept_mapsOk.step h he

end

section
set_option Elab.async false -- one theorem after another: side by side they ask for more threads than the check's memory limit grants
/-! PROOFS. Faults: what LASER_FAULT and a loss of lock make of a leg in service and of each of its entries (R14, R15). -/

namespace Sys2Proof.Machine

/-! ### One turn in a fold -/

/-- A fold, as one of its items sees it: the items before it, its own turn, the items behind it. -/
theorem foldl_at {α β : Type} {R : β → β → Prop} (refl : ∀ b, R b b) (trans : ∀ a b c, R a b → R b c → R a c) {f : β → α → β} {a : α}
    {xs : List α} (once : xs.Nodup) (ha : a ∈ xs) (hf : ∀ b, ∀ x ∈ xs, x ≠ a → R b (f b x)) (b : β) :
    ∃ v, R b v ∧ R (f v a) (xs.foldl f b) := by
  have sweep : ∀ (ys : List α) (v : β), (∀ y ∈ ys, y ∈ xs ∧ y ≠ a) → R v (ys.foldl f v) := by
    intro ys
    induction ys with
    | nil => exact fun v _ => refl v
    | cons y ys ih =>
      intro v hy
      obtain ⟨hm, hne⟩ := hy y List.mem_cons_self
      exact trans _ _ _ (hf v y hm hne) (ih _ fun z hz => hy z (List.mem_cons_of_mem y hz))
  obtain ⟨before, after, hs⟩ := List.append_of_mem ha
  have once' : (before ++ a :: after).Nodup := hs ▸ once
  have hb : ∀ y ∈ before, y ∈ xs ∧ y ≠ a := fun y hy =>
    ⟨hs ▸ List.mem_append_left _ hy, fun e => (List.nodup_append.mp once').2.2 y hy a (by simp) e⟩
  have hafter : ∀ y ∈ after, y ∈ xs ∧ y ≠ a := fun y hy =>
    ⟨hs ▸ List.mem_append_right _ (List.mem_cons_of_mem _ hy),
      fun e => (List.nodup_cons.mp (List.nodup_append.mp once').2.1).1 (e ▸ hy)⟩
  refine ⟨before.foldl f b, sweep before b hb, ?_⟩
  rw [hs, List.foldl_append, List.foldl_cons]
  exact sweep after _ hafter

/-! ### What work on some drops of a quiet leg leaves of the others -/

/-- A leg without orders whose monitor is DISARMED and asks for nothing, as a fault leaves it (R15). -/
structure LegRecord.Quiet (r : LegRecord) : Prop where
  orders : r.orders = []
  owed : r.owed = []
  disarmed : r.monitor.state = .disarmed
  asks : r.monitor.asks = []

/-- A lane table whose lanes keep their owner, port and figures, those of drops outside `P` all they hold. -/
structure LanesTouched (P : Drop → Prop) (t t' : Vector (Option Lane) 256) : Prop where
  kept : ∀ (n : Fin 256) (x : Lane), t[n] = some x →
    ∃ y, t'[n] = some y ∧ y.owner = x.owner ∧ y.port = x.port ∧ y.figures = x.figures ∧ (¬P x.owner → y = x)
  only : ∀ n : Fin 256, t[n] = none → t'[n] = none

theorem LanesTouched.refl (P : Drop → Prop) (t : Vector (Option Lane) 256) : LanesTouched P t t :=
  ⟨fun _ x hx => ⟨x, hx, rfl, rfl, rfl, fun _ => rfl⟩, fun _ h => h⟩

theorem LanesTouched.trans {P : Drop → Prop} {t t' t'' : Vector (Option Lane) 256} (h : LanesTouched P t t') (k : LanesTouched P t' t'') :
    LanesTouched P t t'' := by
  refine ⟨fun n x hx => ?_, fun n hn => k.only n (h.only n hn)⟩
  obtain ⟨y, hy, ho, hp, hf, hs⟩ := h.kept n x hx
  obtain ⟨z, hz, ko, kp, kf, ks⟩ := k.kept n y hy
  exact ⟨z, hz, ko.trans ho, kp.trans hp, kf.trans hf, fun hP => (ks (ho ▸ hP)).trans (hs hP)⟩

/-- A lane of a table touched is one of the table before. -/
theorem LanesTouched.back {P : Drop → Prop} {t t' : Vector (Option Lane) 256} (h : LanesTouched P t t') {n : Fin 256} {y : Lane}
    (hy : t'[n] = some y) : ∃ x, t[n] = some x ∧ y.owner = x.owner ∧ (¬P x.owner → y = x) := by
  cases hx : t[n] with
  | none => rw [h.only n hx] at hy; cases hy
  | some x =>
    obtain ⟨z, hz, ho, -, -, hs⟩ := h.kept n x hx
    obtain rfl : y = z := Option.some_inj.mp (hy.symm.trans hz)
    exact ⟨x, rfl, ho, hs⟩

/-- An enrolment entry without its binding (R24). -/
def EnrolEntry.unbound (e : EnrolEntry) : EnrolEntry := { e with binding := none }

/-- An enrolment table in which some entries gave up their bindings. -/
def EnrolUnbound (t t' : Vector (Option EnrolEntry) 512) : Prop := ∀ i : Fin 512, t'[i] = t[i] ∨ t'[i] = t[i].map EnrolEntry.unbound

theorem EnrolUnbound.refl (t : Vector (Option EnrolEntry) 512) : EnrolUnbound t t := fun _ => .inl rfl

theorem EnrolUnbound.trans {t t' t'' : Vector (Option EnrolEntry) 512} (h : EnrolUnbound t t') (k : EnrolUnbound t' t'') :
    EnrolUnbound t t'' := by
  intro i
  have twice : (t[i].map EnrolEntry.unbound).map EnrolEntry.unbound = t[i].map EnrolEntry.unbound := by
    rw [Option.map_map]
    rfl
  rcases h i with hi | hi <;> rcases k i with ki | ki <;> rw [ki, hi]
  · exact .inl rfl
  · exact .inr rfl
  · exact .inr rfl
  · exact .inr twice

/-- An entry whose binding was given up stays so. -/
theorem EnrolUnbound.of_unbound {t t' : Vector (Option EnrolEntry) 512} (h : EnrolUnbound t t') {i : Fin 512} {e : EnrolEntry}
    (hi : t[i] = some e.unbound) : t'[i] = some e.unbound := by
  rcases h i with h | h <;> rw [h, hi]
  rfl

theorem EnrolUnbound.set {t : Vector (Option EnrolEntry) 512} (i : Fin 512) : EnrolUnbound t (t.set i.val (t[i].map EnrolEntry.unbound)) := by
  intro j
  by_cases h : i.val = j.val
  · obtain rfl : i = j := Fin.ext h
    exact .inr (by simp)
  · exact .inl (by simp [h])

/-- Work on the drops of `P` on a leg, which stays quiet: the entries, the meters and the lanes of the other drops stay. -/
structure Work.Touches (l : Leg) (P : Drop → Prop) (w w' : Work) : Prop where
  quiet : (w'.leg l).Quiet
  monitor : (w'.leg l).monitor = (w.leg l).monitor
  stamp : w'.stamp = w.stamp
  settings : (w'.leg l).control.settings = (w.leg l).control.settings
  drops : ∀ c, ¬P c → w'.drop l c = w.drop l c
  meters : ∀ c, ¬P c → w'.meter l c = w.meter l c
  lanes : LanesTouched P (w.leg l).lanes (w'.leg l).lanes
  enrol : EnrolUnbound w.blocks.enrol w'.blocks.enrol

namespace Work.Touches

variable {l : Leg} {P : Drop → Prop} {w w' w'' : Work} {d : Drop}

theorem refl (h : (w.leg l).Quiet) : w.Touches l P w :=
  ⟨h, rfl, rfl, rfl, fun _ _ => rfl, fun _ _ => rfl, .refl P _, .refl _⟩

theorem trans (h : w.Touches l P w') (k : w'.Touches l P w'') : w.Touches l P w'' where
  quiet := k.quiet
  monitor := k.monitor.trans h.monitor
  stamp := k.stamp.trans h.stamp
  settings := k.settings.trans h.settings
  drops c hc := (k.drops c hc).trans (h.drops c hc)
  meters c hc := (k.meters c hc).trans (h.meters c hc)
  lanes := h.lanes.trans k.lanes
  enrol := h.enrol.trans k.enrol

theorem mono {Q : Drop → Prop} (h : w.Touches l P w') (hPQ : ∀ c, P c → Q c) : w.Touches l Q w' :=
  { h with
    drops := fun c hc => h.drops c (mt (hPQ c) hc)
    meters := fun c hc => h.meters c (mt (hPQ c) hc)
    lanes :=
      { only := h.lanes.only
        kept := fun n x hx => by
          obtain ⟨y, hy, ho, hp, hf, hs⟩ := h.lanes.kept n x hx
          exact ⟨y, hy, ho, hp, hf, fun hn => hs (mt (hPQ _) hn)⟩ } }

/-- A change of the leg's record that keeps it quiet. -/
theorem mapLeg {f : LegRecord → LegRecord} (h : w.Touches l P w') (orders : (f (w'.leg l)).orders = (w'.leg l).orders := by rfl)
    (owed : (f (w'.leg l)).owed = (w'.leg l).owed := by rfl) (monitor : (f (w'.leg l)).monitor = (w'.leg l).monitor := by rfl)
    (settings : (f (w'.leg l)).control.settings = (w'.leg l).control.settings := by rfl)
    (drops : ∀ c : Drop, ¬P c → (f (w'.leg l)).drops[c] = (w'.leg l).drops[c] := by exact fun _ _ => rfl)
    (meters : ∀ c : Drop, ¬P c → (f (w'.leg l)).meters[c] = (w'.leg l).meters[c] := by exact fun _ _ => rfl)
    (lanes : LanesTouched P (w'.leg l).lanes (f (w'.leg l)).lanes := by exact .refl _ _) : w.Touches l P (w'.mapLeg l f) :=
  h.trans
    { quiet := by
        rw [leg_mapLeg_self]
        exact ⟨orders.trans h.quiet.orders, owed.trans h.quiet.owed, monitor ▸ h.quiet.disarmed, monitor ▸ h.quiet.asks⟩
      monitor := by rw [leg_mapLeg_self, monitor]
      stamp := rfl
      settings := by rw [leg_mapLeg_self, settings]
      drops := fun c hc => by rw [drop, leg_mapLeg_self]; exact drops c hc
      meters := fun c hc => by rw [meter, leg_mapLeg_self]; exact meters c hc
      lanes := by rw [leg_mapLeg_self]; exact lanes
      enrol := .refl _ }

theorem raise {a : Option Leg} {b : Option Drop} {n : NoticeBody} (h : w.Touches l P w') : w.Touches l P (w'.raise a b n) :=
  ⟨h.quiet, h.monitor, h.stamp, h.settings, h.drops, h.meters, h.lanes, h.enrol⟩

theorem mapDrop {f : DropEntry → DropEntry} (h : w.Touches l P w') (hd : P d) : w.Touches l P (w'.mapDrop l d f) := by
  rw [mapDrop_eq]
  exact h.mapLeg (drops := fun c hc => by rw [get_set, if_neg (by rintro rfl; exact hc hd)])

theorem setMeter {m : Option Meter} (h : w.Touches l P w') (hd : P d) : w.Touches l P (w'.setMeter l d m) := by
  rw [setMeter_eq]
  exact h.mapLeg (meters := fun c hc => by rw [get_set, if_neg (by rintro rfl; exact hc hd)])

theorem mapLanesOf {f : Lane → Lane} (h : w.Touches l P w') (hd : P d)
    (hf : ∀ x, (f x).owner = x.owner ∧ (f x).port = x.port ∧ (f x).figures = x.figures) : w.Touches l P (w'.mapLanesOf l d f) := by
  refine h.mapLeg (lanes := ⟨fun n x hx => ⟨if x.owner = d then f x else x, ?_, ?_⟩, fun n hn => ?_⟩)
  · simp only [Fin.getElem_fin, Vector.getElem_map] at hx ⊢
    rw [hx]
    rfl
  · split
    · next ho => exact ⟨(hf x).1, (hf x).2.1, (hf x).2.2, fun hn => absurd (ho ▸ hd) hn⟩
    · exact ⟨rfl, rfl, rfl, fun _ => rfl⟩
  · simp only [Fin.getElem_fin, Vector.getElem_map] at hn ⊢
    rw [hn]
    rfl

/-- The orders of a quiet leg filtered. -/
theorem filterOrders {f : LegRecord → LegRecord} (h : w.Touches l P w') (p : OrderEntry → Bool) (q : OwedItem → Bool)
    (a : MonitorAsk → Bool)
    (hf : f = fun r =>
      { r with
        orders := r.orders.filter p, owed := r.owed.filter q, monitor := { r.monitor with asks := r.monitor.asks.filter a } }) :
    w.Touches l P (w'.mapLeg l f) := by
  subst hf
  have monitor : { (w'.leg l).monitor with asks := (w'.leg l).monitor.asks.filter a } = (w'.leg l).monitor := by
    have := h.quiet.asks
    generalize (w'.leg l).monitor = m at this
    cases m
    simp_all
  exact h.mapLeg (orders := by simp [h.quiet.orders]) (owed := by simp [h.quiet.owed]) (monitor := monitor)

theorem purge (h : w.Touches l P w') : w.Touches l P (w'.purge l d) := h.filterOrders _ _ _ rfl

theorem removeOrders {k : OrderKind} (h : w.Touches l P w') : w.Touches l P (w'.removeOrders l d k) :=
  h.mapLeg (orders := by simp [h.quiet.orders])

theorem raiseDropState {m : Option Bool} (h : w.Touches l P w') : w.Touches l P (w'.raiseDropState l d m) := h.raise

theorem departure (h : w.Touches l P w') : w.Touches l P (w'.departure l d) := by
  rw [w'.departure_of_disarmed l d h.quiet.disarmed]
  exact h

theorem openMeter (h : w.Touches l P w') (hd : P d) : w.Touches l P (w'.openMeter l d) := by
  unfold Work.openMeter
  split
  · exact h.setMeter hd
  · exact h

theorem outage (h : w.Touches l P w') (hd : P d) : w.Touches l P (w'.outage l d) := by
  unfold Work.outage
  split
  · exact h
  · exact h.setMeter hd

theorem toServing (h : w.Touches l P w') (hd : P d) : w.Touches l P (w'.toServing l d) :=
  ((h.mapDrop hd).mapLanesOf hd fun x => by unfold Lane.ownerServes; split <;> exact ⟨rfl, rfl, rfl⟩).openMeter hd

theorem wakeUp (h : w.Touches l P w') (hd : P d) : w.Touches l P (w'.wakeUp l d) :=
  ((h.toServing hd).mapDrop hd).removeOrders.raiseDropState

theorem unhushDrop (h : w.Touches l P w') (hd : P d) : w.Touches l P (w'.unhushDrop l d) := by
  unfold Work.unhushDrop
  split
  · exact h
  · split
    · split
      · exact h.wakeUp hd
      · exact h.toServing hd
    · dsimp only
      split
      · exact ((h.mapDrop hd).mapLanesOf (f := Lane.noCredit) hd fun x => ⟨rfl, rfl, rfl⟩).raiseDropState
      · exact (h.mapDrop hd).mapLanesOf (f := Lane.noCredit) hd fun x => ⟨rfl, rfl, rfl⟩

theorem lose {reason : LostReason} {saved : Option Nat} (h : w.Touches l P w') (hd : P d) : w.Touches l P (w'.lose l d reason saved) :=
  (((((h.mapLanesOf hd fun x => by unfold Lane.ownerGone Lane.noCredit Lane.suspend; split <;> exact ⟨rfl, rfl, rfl⟩).outage
    hd).purge).mapDrop hd).raiseDropState).departure

theorem unbound (h : w.Touches l P w') : w.Touches l P (w'.unbound l d) := by
  unfold Work.unbound
  split
  · exact ⟨h.quiet, h.monitor, h.stamp, h.settings, h.drops, h.meters, h.lanes, h.enrol.trans (.set _)⟩
  · exact h

theorem drained (h : w.Touches l P w') : w.Touches l P (w'.drained l) := by
  unfold Work.drained
  split
  · rw [setLeg_eq]
    exact h.mapLeg.raise
  · exact h

theorem vacate (h : w.Touches l P w') (hd : P d) : w.Touches l P (w'.vacate l d) := by
  have reset : w.Touches l P ((w'.unbound l d).mapLeg l fun r => r.vacated d (w'.unbound l d).stamp) :=
    h.unbound.mapLeg (owed := by simp [LegRecord.vacated, (h.unbound (d := d)).quiet.owed])
      (drops := fun c hc => by
        simp only [LegRecord.vacated]
        rw [get_set, if_neg (by rintro rfl; exact hc hd)])
  rw [vacate_eq]
  exact reset.raiseDropState.drained

theorem faultDrop (h : w.Touches l P w') (hd : P d) : w.Touches l P (w'.faultDrop l d) := by
  unfold Work.faultDrop
  dsimp only
  split
  iterate 4 exact h.lose hd
  iterate 2
    split
    · exact h.lose hd
    · exact h.lose hd
    · exact h.vacate hd
  exact h

end Work.Touches

/-! ### The turn of one drop (R15) -/

/-- A drop that entered LOST on a quiet leg (R15, R32). -/
structure Work.Lost (w : Work) (l : Leg) (d : Drop) (reason : LostReason) (hold : Nat) (w' : Work) : Prop where
  entry : (w'.drop l d).state = .lost ∧ (w'.drop l d).reason = some (.lost reason) ∧ (w'.drop l d).hold = some hold
  lanes : ∀ (n : Fin 256) (x : Lane), (w'.leg l).lanes[n] = some x → x.owner = d →
    x.state = .suspended ∧ ∀ c, x.credit = some c → c = 0
  meter : ∀ m, w.meter l d = some m → w'.meter l d = some { m with flags := { m.flags with outage := true } }

section
variable {w : Work} {l : Leg} {d : Drop}

theorem Lane.ownerGone_gone (x : Lane) : x.ownerGone.state = .suspended ∧ ∀ c, x.ownerGone.credit = some c → c = 0 := by
  unfold Lane.ownerGone Lane.noCredit Lane.suspend
  refine ⟨?_, fun c hc => ?_⟩
  · split
    · next h => exact h
    · rfl
  · obtain ⟨y, -, rfl⟩ := Option.map_eq_some_iff.mp hc
    rfl

theorem Work.outage_leg (w : Work) (l : Leg) (d : Drop) : ∃ m, (w.outage l d).leg l = { w.leg l with meters := m } ∧
    ∀ x, w.meter l d = some x → m[d] = some { x with flags := { x.flags with outage := true } } := by
  unfold Work.outage
  cases hm : w.meter l d with
  | none => exact ⟨_, rfl, nofun⟩
  | some m =>
    refine ⟨_, w.setMeter_leg l d _, fun x hx => ?_⟩
    obtain rfl : m = x := Option.some_inj.mp hx
    rw [get_set, if_pos rfl]

/-- A drop that enters LOST (R32). -/
theorem Work.lose_lost (h : (w.leg l).Quiet) (reason : LostReason) (saved : Option Nat) :
    w.Lost l d reason (saved.getD ((w.leg l).control.settings.lostHold * 4096)) (w.lose l d reason saved) := by
  obtain ⟨u, hu⟩ : ∃ u, u = w.mapLanesOf l d Lane.ownerGone := ⟨_, rfl⟩
  have ulanes : (u.leg l).lanes = (w.leg l).lanes.map fun o => o.map fun x => if x.owner = d then x.ownerGone else x := by
    rw [hu, Work.mapLanesOf, Work.leg_mapLeg_self]
  have umeter : u.meter l d = w.meter l d := by rw [hu, Work.mapLanesOf, Work.meter, Work.leg_mapLeg_self]; rfl
  have udisarmed : (u.leg l).monitor.state = .disarmed := by rw [hu, Work.mapLanesOf, Work.leg_mapLeg_self]; exact h.disarmed
  obtain ⟨m, hleg, hm⟩ := u.outage_leg l d
  unfold Work.lose
  dsimp only
  rw [← hu, Work.departure_of_disarmed]
  · have leg (f : DropEntry → DropEntry) : ((((u.outage l d).purge l d).mapDrop l d f).raiseDropState l d).leg l =
        { u.leg l with
          orders := (u.leg l).orders.filter fun e => e.target != some d
          owed := (u.leg l).owed.filter fun i => i.drop != d
          monitor := { (u.leg l).monitor with asks := (u.leg l).monitor.asks.filter fun a => a != .mute d }
          meters := m
          drops := (u.leg l).drops.set d.val (f (u.leg l).drops[d]) } := by
      rw [Work.raiseDropState, Work.raise_leg, Work.mapDrop_eq, Work.purge, Work.mapLeg_mapLeg, Work.leg_mapLeg_self, hleg]
    refine ⟨?_, fun n x hx ho => ?_, fun x hx => ?_⟩
    · simp only [Work.drop, leg]
      rw [get_set, if_pos rfl]
      exact ⟨rfl, rfl, rfl⟩
    · rw [leg] at hx
      change (u.leg l).lanes[n] = some x at hx
      rw [ulanes] at hx
      simp only [Fin.getElem_fin, Vector.getElem_map, Option.map_eq_some_iff] at hx
      obtain ⟨y, -, rfl⟩ := hx
      by_cases hy : y.owner = d
      · rw [if_pos hy]
        exact y.ownerGone_gone
      · rw [if_neg hy] at ho
        contradiction
    · rw [Work.meter, leg]
      exact hm x (umeter.trans hx)
  · rw [Work.raiseDropState, Work.raise_leg, Work.mapDrop_eq, Work.purge, Work.mapLeg_mapLeg, Work.leg_mapLeg_self, hleg]
    exact udisarmed

/-- A vacancy, as its drop sees it (R18, R24). -/
theorem Work.vacate_drop (w : Work) (l : Leg) (d : Drop) : (w.vacate l d).drop l d = DropEntry.vacant w.stamp := by
  obtain ⟨c, hc, -⟩ := ((w.leg l).vacated d w.stamp).offIfVacant_eq
  rw [Work.drop, Work.vacate_leg, hc]
  simp only [LegRecord.vacated]
  rw [get_set, if_pos rfl]

/-- The binding that a vacancy gives up (R24). -/
theorem Work.vacate_enrol {i : Fin 512} {e : EnrolEntry} (hi : (w.drop l d).enrolRef = some i) (he : w.blocks.enrol[i] = some e) :
    (w.vacate l d).blocks.enrol[i] = some e.unbound := by
  have unbound : (w.unbound l d).blocks.enrol[i] = some e.unbound := by
    unfold Work.unbound
    rw [hi]
    simp only [Work.mapEnrol, Fin.getElem_fin, Vector.getElem_set_self, Option.map_eq_some_iff]
    exact ⟨e, he, rfl⟩
  rw [Work.vacate_eq, ← unbound]
  unfold Work.drained
  split <;> rfl

/-- What becomes of a drop in its turn of a leg fault, by its state and its origin (R15). -/
structure Work.Faulted (w : Work) (l : Leg) (d : Drop) (w' : Work) : Prop where
  heard : (w.drop l d).state = .trimming ∨ (w.drop l d).state = .awaiting ∨ (w.drop l d).state = .serving ∨
    (w.drop l d).state = .dormant → w.Lost l d .legFault ((w.leg l).control.settings.lostHold * 4096) w'
  new : (w.drop l d).state = .found ∨ (w.drop l d).state = .ranging → (w.drop l d).origin = some .new →
    w'.drop l d = DropEntry.vacant w.stamp ∧
      ∀ i e, (w.drop l d).enrolRef = some i → w.blocks.enrol[(i : Fin 512)] = some e → w'.blocks.enrol[i] = some e.unbound
  released : (w.drop l d).state = .found ∨ (w.drop l d).state = .ranging → (w.drop l d).origin = some .released →
    w.Lost l d .legFault ((w.leg l).control.settings.lostHold * 4096) w'
  reused : (w.drop l d).state = .found ∨ (w.drop l d).state = .ranging → ∀ hold why,
    (w.drop l d).origin = some (.reused hold why) → w.Lost l d .legFault hold w'
  rest : (w.drop l d).state = .vacant ∨ (w.drop l d).state = .lost ∨ (w.drop l d).state = .quarantined ∨
    (w.drop l d).state = .retiring → w'.drop l d = w.drop l d

theorem Work.faultDrop_faulted (h : (w.leg l).Quiet) : w.Faulted l d (w.faultDrop l d) := by
  have lost := w.lose_lost (d := d) h .legFault
  have vacant (hs : (w.drop l d).state = .found ∨ (w.drop l d).state = .ranging) (ho : (w.drop l d).origin = some .new) :
      w.faultDrop l d = w.vacate l d := by
    unfold Work.faultDrop
    rcases hs with hs | hs <;> simp only [hs, ho]
  refine ⟨fun hs => ?_, fun hs ho => ?_, fun hs ho => ?_, fun hs hold why ho => ?_, fun hs => ?_⟩
  · unfold Work.faultDrop
    dsimp only
    rcases hs with hs | hs | hs | hs <;> rw [hs] <;> exact lost none
  · rw [vacant hs ho]
    exact ⟨w.vacate_drop l d, fun i e hi he => Work.vacate_enrol hi he⟩
  · unfold Work.faultDrop
    dsimp only
    rcases hs with hs | hs <;> rw [hs, ho] <;> exact lost none
  · unfold Work.faultDrop
    dsimp only
    rcases hs with hs | hs <;> rw [hs, ho] <;> exact lost (some hold)
  · unfold Work.faultDrop
    dsimp only
    rcases hs with hs | hs | hs | hs <;> rw [hs]

/-- A HUSHED drop that returned to its resume state (R36). -/
structure Work.Returned (w : Work) (l : Leg) (d : Drop) (r : Resume) (w' : Work) : Prop where
  state : (w'.drop l d).state = r.state
  kept : r.state ≠ .serving → (w'.drop l d).origin = (w.drop l d).origin ∧ (w'.drop l d).enrolRef = (w.drop l d).enrolRef ∧
    (w'.drop l d).reason = r.reason ∧ (w'.drop l d).hold = r.hold
  meter : ∀ m, w.meter l d = some m → w'.meter l d = some m

theorem Work.Returned.raiseDropState {r : Resume} {w' : Work} (h : w.Returned l d r w') : w.Returned l d r (w'.raiseDropState l d) :=
  ⟨h.state, h.kept, h.meter⟩

theorem Work.openMeter_drop (w : Work) (l : Leg) (d : Drop) : (w.openMeter l d).drop l d = w.drop l d := by
  unfold Work.openMeter
  split
  · rw [Work.drop, Work.setMeter_leg]
    rfl
  · rfl

theorem Work.openMeter_of_some {m : Meter} (h : w.meter l d = some m) : (w.openMeter l d).meter l d = some m := by
  unfold Work.openMeter
  rw [h]
  exact h

theorem Work.toServing_returned {r : Resume} (hs : r.state = .serving) : w.Returned l d r (w.toServing l d) := by
  refine ⟨?_, fun hn => absurd hs hn, fun m hm => ?_⟩
  · unfold Work.toServing
    rw [Work.openMeter_drop, Work.mapLanesOf, Work.mapDrop_eq, Work.mapLeg_mapLeg, Work.drop, Work.leg_mapLeg_self]
    dsimp only
    rw [get_set, if_pos rfl, hs]
  · refine Work.openMeter_of_some ?_
    rw [Work.mapLanesOf, Work.mapDrop_eq, Work.mapLeg_mapLeg, Work.meter, Work.leg_mapLeg_self]
    exact hm

theorem Work.wakeUp_returned {r : Resume} (hs : r.state = .serving) : w.Returned l d r (w.wakeUp l d) := by
  have served := Work.toServing_returned (w := w) (l := l) (d := d) hs
  refine ⟨?_, fun hn => absurd hs hn, fun m hm => ?_⟩
  · unfold Work.wakeUp
    rw [Work.raiseDropState, Work.raise_drop, Work.removeOrders, Work.mapDrop_eq, Work.mapLeg_mapLeg, Work.drop, Work.leg_mapLeg_self]
    dsimp only
    rw [get_set, if_pos rfl]
    exact served.state
  · unfold Work.wakeUp
    rw [Work.raiseDropState, Work.raise_meter, Work.removeOrders, Work.mapDrop_eq, Work.mapLeg_mapLeg, Work.meter, Work.leg_mapLeg_self]
    exact served.meter m hm

theorem Work.unhushDrop_returned {r : Resume} (hr : (w.drop l d).resume = some r) : w.Returned l d r (w.unhushDrop l d) := by
  unfold Work.unhushDrop
  rw [hr]
  dsimp only
  split
  · next hs =>
    split
    · exact Work.wakeUp_returned (beq_iff_eq.mp hs)
    · exact Work.toServing_returned (beq_iff_eq.mp hs)
  · have back : ∀ f : DropEntry → DropEntry,
        (∀ e, (f e).state = r.state ∧ (f e).origin = e.origin ∧ (f e).enrolRef = e.enrolRef ∧ (f e).reason = r.reason ∧ (f e).hold = r.hold) →
        w.Returned l d r ((w.mapDrop l d f).mapLanesOf l d Lane.noCredit) := by
      intro f hf
      obtain ⟨hs, ho⟩ := hf (w.drop l d)
      have hd : ((w.mapDrop l d f).mapLanesOf l d Lane.noCredit).drop l d = f (w.drop l d) := by
        rw [Work.mapLanesOf, Work.mapDrop_eq, Work.mapLeg_mapLeg, Work.drop, Work.leg_mapLeg_self]
        dsimp only
        rw [get_set, if_pos rfl]
        rfl
      refine ⟨hd ▸ hs, fun _ => hd ▸ ho, fun m hm => ?_⟩
      rw [Work.mapLanesOf, Work.mapDrop_eq, Work.mapLeg_mapLeg, Work.meter, Work.leg_mapLeg_self]
      exact hm
    split
    · refine Work.Returned.raiseDropState (back _ ?_)
      exact fun e => ⟨rfl, rfl, rfl, rfl, rfl⟩
    · exact back _ fun e => ⟨rfl, rfl, rfl, rfl, rfl⟩

end

/-! ### A whole leg (R15) -/

section
variable {a b c e : Work} {l : Leg} {d : Drop}

/-- What a drop's turn makes of it, seen from before the turns of the others to behind them. -/
theorem Work.Lost.between {reason : LostReason} {hold : Nat} (k : b.Lost l d reason hold c) (h : a.Touches l (· ≠ d) b)
    (m : c.Touches l (· ≠ d) e) : a.Lost l d reason hold e := by
  refine ⟨?_, fun n x hx ho => ?_, fun x hx => ?_⟩
  · rw [m.drops d (not_not.mpr rfl)]
    exact k.entry
  · obtain ⟨y, hy, hxo, hs⟩ := m.lanes.back hx
    obtain rfl : x = y := hs (not_not.mpr (hxo.symm.trans ho))
    exact k.lanes n x hy ho
  · rw [m.meters d (not_not.mpr rfl)]
    exact k.meter x ((h.meters d (not_not.mpr rfl)).trans hx)

theorem Work.Faulted.between (k : b.Faulted l d c) (h : a.Touches l (· ≠ d) b) (m : c.Touches l (· ≠ d) e) : a.Faulted l d e := by
  have before := h.drops d (not_not.mpr rfl)
  have after := m.drops d (not_not.mpr rfl)
  have settings := h.settings
  obtain ⟨heard, new, released, reused, rest⟩ := k
  rw [before, settings] at heard released
  rw [before] at new reused rest
  refine ⟨fun hs => (heard hs).between h m, fun hs ho => ?_, fun hs ho => (released hs ho).between h m,
    fun hs hold why ho => (reused hs hold why ho).between h m, fun hs => after.trans (rest hs)⟩
  obtain ⟨hv, hi⟩ := new hs ho
  refine ⟨after.trans (hv.trans (by rw [h.stamp])), fun i x hx he => m.enrol.of_unbound ?_⟩
  rcases h.enrol i with hb | hb
  · exact hi i x hx (hb.trans he)
  · exact hi i x.unbound hx (by rw [hb, he]; rfl)

/-- The turn of a drop among others, on a leg that stays quiet. -/
theorem Work.forDrops_turn {f : Drop → Work → Work} (ht : ∀ (d : Drop) (w : Work), (w.leg l).Quiet → w.Touches l (· = d) (f d w)) {ds : List Drop}
    (once : ds.Nodup) (hd : d ∈ ds) (ha : (a.leg l).Quiet) :
    ∃ v, a.Touches l (· ≠ d) v ∧ (f d v).Touches l (· ≠ d) (forDrops ds f a) := by
  obtain ⟨v, hv, hf⟩ := foldl_at (R := fun w w' : Work => (w.leg l).Quiet → w.Touches l (· ≠ d) w')
    (fun w h => .refl h) (fun _ _ _ h k hq => (h hq).trans (k (h hq).quiet)) (f := fun w d => f d w) once hd
    (fun w x _ hx hq => (ht x w hq).mono fun y hy => hy ▸ hx) a
  exact ⟨v, hv ha, hf (ht d v (hv ha).quiet).quiet⟩

theorem Work.forDrops_touches {P : Drop → Prop} {f : Drop → Work → Work} {ds : List Drop}
    (ht : ∀ d ∈ ds, ∀ w : Work, (w.leg l).Quiet → w.Touches l P (f d w)) (ha : (a.leg l).Quiet) : a.Touches l P (forDrops ds f a) :=
  List.foldlRecOn (motive := fun w => a.Touches l P w) ds (fun w d => f d w) (.refl ha) fun w hw d hd => hw.trans (ht d hd w hw.quiet)

end

/-- What a leg fault makes of the entries of a quiet leg, the HUSHED ones first (R15, R36). -/
def Work.entriesFaulted (w : Work) (l : Leg) : Work := forDrops allDrops (fun d w => w.faultDrop l d) (w.unhushAll l none)

section
variable {w : Work} {l : Leg} {d : Drop}

theorem Work.entriesFaulted_touches (h : (w.leg l).Quiet) : w.Touches l (fun _ => True) (w.entriesFaulted l) := by
  have returned : w.Touches l (fun _ => True) (w.unhushAll l none) :=
    Work.forDrops_touches (fun d _ v hv => (Work.Touches.refl hv).unhushDrop trivial) h
  exact returned.trans (Work.forDrops_touches (fun d _ v hv => (Work.Touches.refl hv).faultDrop trivial) returned.quiet)

theorem Work.entriesFaulted_turn {a : Work} (h : a.Touches l (· ≠ d) (w.unhushAll l none)) : a.Faulted l d (w.entriesFaulted l) := by
  obtain ⟨v, hv, hf⟩ := Work.forDrops_turn (f := fun d w => w.faultDrop l d) (fun d w hq => (Work.Touches.refl hq).faultDrop rfl)
    (List.nodup_finRange 128) (List.mem_finRange d) h.quiet
  exact (Work.faultDrop_faulted hv.quiet).between (h.trans hv) hf

theorem Work.mem_hushed : d ∈ (w.hushedDrops l).filter (fun d => some d != none) ↔ (w.drop l d).state = .hushed := by
  simp [Work.hushedDrops, LegRecord.dropsWhere, allDrops, Work.drop]

/-- An entry that is not HUSHED becomes what the table says. -/
theorem Work.entriesFaulted_of_not_hushed (h : (w.leg l).Quiet) (hd : (w.drop l d).state ≠ .hushed) :
    w.Faulted l d (w.entriesFaulted l) := by
  refine Work.entriesFaulted_turn (Work.forDrops_touches (fun c hc v hv => ?_) h)
  refine ((Work.Touches.refl hv).unhushDrop (P := (· = c)) rfl).mono ?_
  rintro _ rfl rfl
  exact hd (Work.mem_hushed.mp hc)

/-- A HUSHED entry returns, and becomes what the table says of its resume state. -/
theorem Work.entriesFaulted_of_hushed (h : (w.leg l).Quiet) (hd : (w.drop l d).state = .hushed) {r : Resume}
    (hr : (w.drop l d).resume = some r) :
    ∃ a, w.Returned l d r a ∧ a.Faulted l d (w.entriesFaulted l) ∧ a.stamp = w.stamp ∧
      (a.leg l).control.settings = (w.leg l).control.settings ∧ EnrolUnbound w.blocks.enrol a.blocks.enrol := by
  have once : ((w.hushedDrops l).filter fun d => some d != none).Nodup := by
    unfold Work.hushedDrops LegRecord.dropsWhere
    exact ((List.nodup_finRange 128).filter _).filter _
  obtain ⟨v, hv, hf⟩ := Work.forDrops_turn (f := fun d w => w.unhushDrop l d) (fun d w hq => (Work.Touches.refl hq).unhushDrop rfl) once
    (Work.mem_hushed.mpr hd) h
  have before := hv.drops d (not_not.mpr rfl)
  obtain ⟨state, kept, meter⟩ := Work.unhushDrop_returned (w := v) (l := l) (d := d) (before ▸ hr)
  have turn : v.Touches l (· = d) (v.unhushDrop l d) := (Work.Touches.refl hv.quiet).unhushDrop rfl
  rw [before] at kept
  refine ⟨v.unhushDrop l d, ⟨state, kept, fun m hm => meter m ((hv.meters d (not_not.mpr rfl)).trans hm)⟩,
    Work.entriesFaulted_turn hf, turn.stamp.trans hv.stamp, turn.settings.trans hv.settings, hv.enrol.trans turn.enrol⟩

end

/-! ### The fault of a leg in service, as the statements have it -/

theorem LegRecord.outOfService_quiet (r : LegRecord) (st : LegState) (cause : Option FaultCause) : (r.outOfService st cause).Quiet :=
  ⟨rfl, rfl, rfl, rfl⟩

/-- The work of a leg fault before its entries (R15). -/
def Work.faultBegun (w : Work) (l : Leg) (cause : FaultCause) : Work :=
  (w.mapLeg l fun r => r.outOfService .fault (some cause)).raise (some l) none (.legState .fault (some cause))

theorem Work.faultBegun_leg (w : Work) (l : Leg) (cause : FaultCause) :
    (w.faultBegun l cause).leg l = (w.leg l).outOfService .fault (some cause) := by
  rw [Work.faultBegun, Work.raise_leg, Work.leg_mapLeg_self]

theorem Work.faultLeg_of_live {w : Work} {l : Leg} (h : (w.leg l).control.state.live = true) (cause : FaultCause) :
    w.faultLeg l cause = (w.faultBegun l cause).entriesFaulted l := by
  have served : (w.setLeg l .fault (some cause)).leaveService l = w.faultBegun l cause := w.leaveService_eq l .fault (some cause)
  unfold Work.faultLeg Work.entriesFaulted
  rw [← served]
  split
  iterate 3 rfl
  iterate 3 next hs => rw [hs] at h; cases h

theorem Work.faultLeg_enrol (w : Work) (l : Leg) (cause : FaultCause) : EnrolUnbound w.blocks.enrol (w.faultLeg l cause).blocks.enrol := by
  cases h : (w.leg l).control.state.live with
  | true =>
    rw [Work.faultLeg_of_live h]
    exact (Work.entriesFaulted_touches (w := w.faultBegun l cause) (by
      rw [Work.faultBegun_leg]
      exact (w.leg l).outOfService_quiet _ _)).enrol
  | false =>
    unfold Work.faultLeg
    split
    iterate 3 next hs => rw [hs] at h; cases h
    iterate 3 exact .refl _

section
variable {s t : State} {a w : Work} {l : Leg} {d : Drop}

theorem Work.Lost.entersLost {reason : LostReason} {hold : Nat} (h : a.Lost l d reason hold w)
    (hm : ∀ m, s.meter l d = some m → a.meter l d = some m) (ht : t.leg l = w.leg l) : EntersLost s t l d reason hold := by
  have drop : t.drop l d = w.drop l d := congrArg (·.drops[d]) ht
  have meter : t.meter l d = w.meter l d := congrArg (·.meters[d]) ht
  exact ⟨drop ▸ h.entry, ht ▸ h.lanes, fun m h' => meter.trans (h.meter m (hm m h'))⟩

theorem Work.Faulted.foundFaulted (h : a.Faulted l d w) (hs : (a.drop l d).state = .found ∨ (a.drop l d).state = .ranging)
    (ho : (a.drop l d).origin = (s.drop l d).origin) (hr : (a.drop l d).enrolRef = (s.drop l d).enrolRef) (hst : a.stamp = s.now)
    (hset : (a.leg l).control.settings = (s.leg l).control.settings) (hm : ∀ m, s.meter l d = some m → a.meter l d = some m)
    (he : EnrolUnbound s.blocks.enrol a.blocks.enrol) (ht : t.leg l = w.leg l) (hte : EnrolUnbound w.blocks.enrol t.blocks.enrol) :
    FoundFaulted s t l d := by
  have drop : t.drop l d = w.drop l d := congrArg (·.drops[d]) ht
  refine ⟨fun hn => ?_, fun hn => ?_, fun hold why hn => (h.reused hs hold why (ho.trans hn)).entersLost hm ht⟩
  · obtain ⟨hv, hi⟩ := h.new hs (ho.trans hn)
    refine ⟨drop.trans (hv.trans (by rw [hst])), fun i e hx hse => hte.of_unbound (e := e) ?_⟩
    rcases he i with ha | ha
    · exact hi i e (hr.trans hx) (ha.trans hse)
    · exact hi i e.unbound (hr.trans hx) (by rw [ha, hse]; rfl)
  · have lost := (h.released hs (ho.trans hn)).entersLost hm ht
    rwa [hset] at lost

/-- A leg of state `s` in service that goes out of service in a fault, its control record changed before within its settings. -/
theorem legFaulted_of_live {c : LegControl} {cause : FaultCause} (hw : w.leg l = { s.leg l with control := c })
    (hset : c.settings = (s.leg l).control.settings) (hlive : c.state.live = true) (hst : w.stamp = s.now)
    (he : EnrolUnbound s.blocks.enrol w.blocks.enrol) (ht : t.leg l = (w.faultLeg l cause).leg l)
    (hte : EnrolUnbound (w.faultLeg l cause).blocks.enrol t.blocks.enrol) :
    (t.leg l).control = { c with state := .fault, cause := some cause, roundsLeft := 0, txen := false } ∧ LegFaulted s t l := by
  rw [Work.faultLeg_of_live (by rw [hw]; exact hlive)] at ht hte
  have leg := w.faultBegun_leg l cause
  rw [hw] at leg
  have quiet : ((w.faultBegun l cause).leg l).Quiet := by rw [leg]; exact LegRecord.outOfService_quiet _ _ _
  have begun : EnrolUnbound s.blocks.enrol (w.faultBegun l cause).blocks.enrol := he
  have stamp : (w.faultBegun l cause).stamp = s.now := hst
  generalize w.faultBegun l cause = v at ht hte leg quiet begun stamp
  have drop (d : Drop) : v.drop l d = s.drop l d := by rw [Work.drop, leg]; rfl
  have meter (d : Drop) : v.meter l d = s.meter l d := by rw [Work.meter, leg]; rfl
  have settings : (v.leg l).control.settings = (s.leg l).control.settings := by rw [leg]; exact hset
  have touched := Work.entriesFaulted_touches quiet
  have stands : (v.leg l).Steps ⟨True, True, True, False, fun _ => True, fun _ => True⟩ ((v.entriesFaulted l).leg l) := by
    unfold Work.entriesFaulted
    exact ((((Work.Reach.refl trivial).unhushAll).forDrops fun _ d _ k => k.faultDrop trivial).runs).leg
  have turn (d : Drop) (hd : (s.drop l d).state ≠ .hushed) : v.Faulted l d (v.entriesFaulted l) :=
    Work.entriesFaulted_of_not_hushed quiet (by rw [drop]; exact hd)
  have returned (d : Drop) (r : Resume) (hd : (s.drop l d).state = .hushed) (hr : (s.drop l d).resume = some r) :=
    Work.entriesFaulted_of_hushed quiet (by rw [drop, hd]) (show (v.drop l d).resume = some r by rw [drop, hr])
  have outside := touched.quiet
  generalize v.entriesFaulted l = x at ht hte touched stands turn returned outside
  have control : (x.leg l).control = (v.leg l).control := by
    refine LegControl.eq_of_service (congrArg (·.1) stands.base) ?_ ?_ <;> rw [leg] <;> exact LegState.noConfusion
  have tdrop (d : Drop) : t.drop l d = x.drop l d := congrArg (·.drops[d]) ht
  rw [leg] at control
  refine ⟨(congrArg (·.control) ht).trans control, ?_, ?_, ?_, fun d hd => ?_, fun d hd => ?_, fun d hd => ?_, fun d r hd hr => ?_, fun n y hy => ?_⟩
  · rw [ht]
    have base := stands.base
    rw [leg] at base
    exact ⟨outside.orders, outside.owed, congrArg (·.2.2.2.2.2.2) base, congrArg (·.2.2.2.2.2.1) base, congrArg (·.2.2.2.2.1) base,
      congrArg (·.2.2.2.1) base⟩
  · rw [ht, stands.strangers.resolve_left id, leg]
    rfl
  · rw [ht, touched.monitor, leg]
    rfl
  · have lost := (turn d (by rcases hd with hd | hd | hd | hd <;> simp [hd])).heard (by rwa [drop])
    rw [settings] at lost
    exact lost.entersLost (fun m hm => (meter d).trans hm) ht
  · exact (turn d (by rcases hd with hd | hd <;> simp [hd])).foundFaulted (by rwa [drop]) (by rw [drop]) (by rw [drop]) stamp settings
      (fun m hm => (meter d).trans hm) begun ht hte
  · rw [tdrop, (turn d (by rcases hd with hd | hd | hd | hd <;> simp [hd])).rest (by rwa [drop]), drop]
  · obtain ⟨a, ha, faulted, astamp, asettings, aenrol⟩ := returned d r hd hr
    have ameter : ∀ m, s.meter l d = some m → a.meter l d = some m := fun m hm => ha.meter m ((meter d).trans hm)
    refine ⟨fun hr => ?_, fun hr => ?_, fun hr => ?_⟩
    · have lost := faulted.heard (by rwa [ha.state])
      rw [asettings, settings] at lost
      exact lost.entersLost ameter ht
    · obtain ⟨origin, ref, -, -⟩ := ha.kept (by rw [hr]; exact DropState.noConfusion)
      rw [drop] at origin ref
      exact faulted.foundFaulted (.inl (ha.state.trans hr)) origin ref (astamp.trans stamp) (asettings.trans settings) ameter
        (begun.trans aenrol) ht hte
    · obtain ⟨-, -, reason, hold⟩ := ha.kept (by rw [hr]; exact DropState.noConfusion)
      rw [tdrop, faulted.rest (.inr (.inl (ha.state.trans hr)))]
      exact ⟨ha.state.trans hr, reason, hold⟩
  · have lanes := touched.lanes
    rw [leg] at lanes
    obtain ⟨z, hz, ho, hp, hf, -⟩ := lanes.kept n y hy
    exact ⟨z, by rw [ht]; exact hz, ho, hp, hf⟩

end

/-- A loss of lock as leg `l` sees it: its turn finds its record as it was, and enrolment entries give up bindings alone. -/
theorem Work.unlock_turn {b : Blocks} (h : b.time.part = .ready) (l : Leg) : ∃ w : Work,
    w.leg l = b.legs[l] ∧ w.stamp = b.now ∧ EnrolUnbound b.enrol w.blocks.enrol ∧
    (Work.unlock (Work.start b)).leg l = (w.faultLeg l .clock).leg l ∧
    EnrolUnbound (w.faultLeg l .clock).blocks.enrol (Work.unlock (Work.start b)).blocks.enrol := by
  obtain ⟨w, hw, ht⟩ := foldl_at
    (R := fun w w' : Work => w'.leg l = w.leg l ∧ w'.stamp = w.stamp ∧ EnrolUnbound w.blocks.enrol w'.blocks.enrol)
    (fun w => ⟨rfl, rfl, .refl _⟩) (fun _ _ _ h k => ⟨k.1.trans h.1, k.2.1.trans h.2.1, h.2.2.trans k.2.2⟩)
    (f := fun w k => w.faultLeg k .clock) (List.nodup_finRange 4) (List.mem_finRange l)
    (fun w k _ hk => ⟨Work.outside_leg (w.faultLeg_outside k _) (Ne.symm hk), Work.outside_stamp (w.faultLeg_outside k _),
      w.faultLeg_enrol k _⟩) ((Work.start b).mapTime fun t => { t with part := .locking })
  have taken : Work.unlock (Work.start b) =
      allLegs.foldl (fun w k => w.faultLeg k .clock) ((Work.start b).mapTime fun t => { t with part := .locking }) := if_pos h
  rw [taken]
  exact ⟨w, hw.1, hw.2.1, hw.2.2, ht.1, ht.2.2⟩

theorem Work.unlock_time {b : Blocks} (h : b.time.part = .ready) :
    (Work.unlock (Work.start b)).blocks.time = { b.time with part := .locking } := by
  have taken : Work.unlock (Work.start b) =
      forLegs (fun l w => w.faultLeg l .clock) ((Work.start b).mapTime fun t => { t with part := .locking }) := if_pos h
  rw [taken]
  exact forLegs_keeps (fun w => w.blocks.time) _ (fun l w => Work.outside_time (w.faultLeg_outside l _)) _

theorem Work.faultLeg_of_draining {w : Work} {l : Leg} (h : (w.leg l).control.state = .draining) (cause : FaultCause) :
    w.faultLeg l cause = w.setLeg l .fault (some cause) := by
  unfold Work.faultLeg
  rw [h]

theorem Work.faultLeg_of_out {w : Work} {l : Leg} (h : (w.leg l).control.state = .off ∨ (w.leg l).control.state = .fault)
    (cause : FaultCause) : w.faultLeg l cause = w := by
  unfold Work.faultLeg
  rcases h with h | h <;> rw [h]

end Sys2Proof.Machine

open Sys2Proof Sys2Proof.Machine

/-- Settles O19: a leg in service through `legFaulted_of_live`, in the event of its own input or in its turn of a loss of lock; the other
states by their equations. -/
theorem faultsTakeLegsOutOfService : Obligations.FaultsTakeLegsOutOfService := by
  refine ⟨fun l s hl => ?_, fun l s => ⟨fun hs => ?_, fun hs => ?_⟩, fun s hr => ⟨event Work.unlock s, rfl, ?_, fun l => ?_⟩⟩
  · have leg := (Work.start s.blocks).leg_mapLeg_self l fun r =>
      { r with control := { r.control with laserFault := true, faultSeen := true } }
    have outside := ((Work.start s.blocks).laserFault_outside l)
    obtain ⟨control, faulted⟩ := legFaulted_of_live (t := event (fun w => w.laserFault l) s) (cause := .laser) leg rfl hl rfl (.refl _) rfl
      (.refl _)
    exact ⟨_, rfl, Work.outside_time outside, control, faulted, fun k hk => Work.outside_leg outside hk⟩
  · have hs' : (((Work.start s.blocks).mapControl l fun c => { c with laserFault := true, faultSeen := true }).leg l).control.state =
        .draining := by rw [Work.mapControl_eq, Work.leg_mapLeg_self]; exact hs
    change Host.Outcome.next (event (fun w => w.laserFault l) s) = _
    simp only [event, Work.laserFault]
    rw [Work.faultLeg_of_draining hs', Work.setLeg_eq, Work.mapControl_eq, Work.mapLeg_mapLeg]
    rfl
  · have hs' : ∀ c, (((Work.start s.blocks).mapControl l fun c => { c with laserFault := true, faultSeen := true }).leg l).control.state =
        c ↔ (s.leg l).control.state = c := fun c => by rw [Work.mapControl_eq, Work.leg_mapLeg_self]; rfl
    change Host.Outcome.next (event (fun w => w.laserFault l) s) = _
    simp only [event, Work.laserFault]
    rw [Work.faultLeg_of_out (by rwa [hs', hs'])]
    rfl
  · exact Work.unlock_time hr
  · obtain ⟨w, hw, hst, he, ht, hte⟩ := Work.unlock_turn (b := s.blocks) hr l
    have hw : w.leg l = s.leg l := hw
    have ht : (event Work.unlock s).leg l = (w.faultLeg l .clock).leg l := ht
    refine ⟨fun hl => legFaulted_of_live hw rfl hl hst he ht hte, fun hs => ?_, fun hs => ?_⟩
    · rw [ht, Work.faultLeg_of_draining (by rw [hw, hs]), Work.setLeg_eq, Work.raise_leg, Work.leg_mapLeg_self, hw]
    · rw [ht, Work.faultLeg_of_out (by rwa [hw]), hw]

end

section
set_option Elab.async false -- one theorem after another: side by side they ask for more threads than the check's memory limit grants
/-! PROOFS. RESTART: the closes of every meter in order, the JOURNAL_LEVEL notice they may raise, and the part it leaves (R185, R205 to
R207). -/

namespace Sys2Proof.Machine

/-! ### The JOURNAL_LEVEL notice (R189) -/

/-- The notice of the journal's level, judged with `n` entries of which the oldest has the sequence `first`. -/
def levelNotice (t : Stamp) (n watermark first held : Nat) : Notice := ⟨none, none, t, .journalLevel n watermark (some first) held⟩

/-- The sequence of the oldest entry of a journal once an entry is written. -/
def Journal.firstSeq (j : Journal) : Nat := (j.entries.head?.map JournalEntry.seq).getD j.nextSeq

/-- Writing `k` entries to a journal brings its level to the watermark with the notice armed. -/
def Journal.Crosses (j : Journal) (k : Nat) : Prop :=
  k ≠ 0 ∧ j.watermark ≤ j.entries.length + k ∧ (j.armed = true ∨ j.entries.length + 1 < j.watermark)

theorem Journal.crosses_mono {j : Journal} {k : Nat} (h : j.Crosses k) : j.Crosses (k + 1) :=
  ⟨Nat.succ_ne_zero k, by have := h.2.1; omega, h.2.2⟩

/-- The notice is raised by the entry that brings the level to the watermark, or by the first if the level was there. -/
theorem Journal.crosses_succ (j : Journal) (k : Nat) :
    (j.watermark ≤ j.entries.length + (k + 1) ∧
        (if k = 0 then j.armed else decide (j.entries.length + k < j.watermark)) = true) ↔ j.Crosses (k + 1) ∧ ¬j.Crosses k := by
  unfold Journal.Crosses
  by_cases hk : k = 0
  · subst hk
    simp only [if_true]
    constructor
    · rintro ⟨h, ha⟩
      exact ⟨⟨by omega, h, .inl ha⟩, fun hn => hn.1 rfl⟩
    · rintro ⟨⟨-, h, ha⟩, -⟩
      exact ⟨h, ha.resolve_right (by omega)⟩
  · simp only [hk, if_false, decide_eq_true_eq]
    constructor
    · rintro ⟨h, hl⟩
      exact ⟨⟨by omega, h, .inr (by omega)⟩, fun hn => absurd hn.2.1 (by omega)⟩
    · rintro ⟨⟨-, h, ha⟩, hn⟩
      refine ⟨h, ?_⟩
      by_contra hl
      exact hn ⟨hk, by omega, ha⟩

theorem Journal.crossed_at (j : Journal) {k : Nat} (h : j.Crosses (k + 1)) (hn : ¬j.Crosses k) :
    j.entries.length + (k + 1) = max (j.entries.length + 1) j.watermark := by
  obtain ⟨-, hw, ha⟩ := h
  by_cases hk : k = 0
  · omega
  · have : ¬j.watermark ≤ j.entries.length + k := fun hl => hn ⟨hk, hl, ha⟩
    omega

/-- What `k` entries written make of the journal's marks and of the notices raised. -/
structure Work.Levels (w₀ : Work) (k : Nat) (w : Work) : Prop where
  cursor : w.blocks.journal.cursor = w₀.blocks.journal.cursor
  watermark : w.blocks.journal.watermark = w₀.blocks.journal.watermark
  first : w.blocks.journal.firstSeq = w₀.blocks.journal.firstSeq
  count : w.blocks.journal.entries.length = w₀.blocks.journal.entries.length + k
  armed : w.blocks.journal.armed = if k = 0 then w₀.blocks.journal.armed
    else decide (w₀.blocks.journal.entries.length + k < w₀.blocks.journal.watermark)
  crossed : w₀.blocks.journal.Crosses k → ∃ held, w.raised = w₀.raised ++
    [levelNotice w₀.stamp (max (w₀.blocks.journal.entries.length + 1) w₀.blocks.journal.watermark) w₀.blocks.journal.watermark
      w₀.blocks.journal.firstSeq held]
  quiet : ¬w₀.blocks.journal.Crosses k → w.raised = w₀.raised

theorem Work.Levels.refl (w : Work) : w.Levels 0 w where
  cursor := rfl
  watermark := rfl
  first := rfl
  count := rfl
  armed := rfl
  crossed h := absurd rfl h.1
  quiet _ := rfl

section
variable {w₀ w : Work} {l : Leg} {d : Drop} {m : Meter} {c : CloseCause} {k : Nat}

/-- The level judged (R189). -/
theorem Work.judgeLevel_eq (w : Work) :
    w.judgeLevel.blocks =
      { w.blocks with
        journal := { w.blocks.journal with
          armed := decide (w.blocks.journal.entries.length < w.blocks.journal.watermark) } } ∧
    w.judgeLevel.raised = w.raised ++
      if w.blocks.journal.watermark ≤ w.blocks.journal.entries.length ∧ w.blocks.journal.armed = true then
        [⟨none, none, w.stamp, .journalLevel w.blocks.journal.entries.length w.blocks.journal.watermark w.blocks.journal.oldest
          w.blocks.heldCount⟩]
      else [] := by
  unfold Work.judgeLevel
  dsimp only
  by_cases h : w.blocks.journal.entries.length < w.blocks.journal.watermark
  · rw [if_pos h, if_neg (by omega), List.append_nil, decide_eq_true h]
    exact ⟨rfl, rfl⟩
  · rw [if_neg h, decide_eq_false h]
    cases ha : w.blocks.journal.armed with
    | true =>
      rw [if_pos rfl, if_pos ⟨by omega, rfl⟩]
      exact ⟨rfl, rfl⟩
    | false =>
      rw [if_neg Bool.false_ne_true, if_neg (by simp), List.append_nil, ← ha]
      exact ⟨rfl, rfl⟩

/-- The blocks but for the legs and the journal. -/
def Blocks.rest (b : Blocks) : Timebase × Vector (Option EnrolEntry) 512 × Fin 4 × Vector Bool 4 × List BandEntry × Nat × Vector Bool 4 :=
  (b.time, b.enrol, b.band, b.quotaBands, b.bandPlan, b.period, b.hostClose)

/-- One entry written, and the level judged. -/
theorem Work.writeEntry_judged (w : Work) (l : Leg) (d : Drop) (m : Meter) (c : CloseCause) :
    let n := w.blocks.journal.entries.length + 1
    let w' := w.writeEntry l d m c
    (w'.blocks.legs = w.blocks.legs ∧ w'.blocks.rest = w.blocks.rest) ∧
    w'.blocks.journal.entries = w.blocks.journal.entries ++ [w.entryFor l d m c] ∧
    w'.blocks.journal.nextSeq = w.blocks.journal.nextSeq + 1 ∧
    w'.blocks.journal.cursor = w.blocks.journal.cursor ∧ w'.blocks.journal.watermark = w.blocks.journal.watermark ∧
    w'.blocks.journal.armed = decide (n < w.blocks.journal.watermark) ∧
    ∃ held, w'.raised = w.raised ++
      if w.blocks.journal.watermark ≤ n ∧ w.blocks.journal.armed = true then
        [levelNotice w.stamp n w.blocks.journal.watermark w.blocks.journal.firstSeq held]
      else [] := by
  have oldest : ((w.blocks.journal.entries ++ [w.entryFor l d m c]).head?.map JournalEntry.seq) = some w.blocks.journal.firstSeq := by
    unfold Journal.firstSeq
    cases w.blocks.journal.entries <;> rfl
  obtain ⟨blocks, raised⟩ := (w.mapJournal fun j =>
    { j with entries := j.entries ++ [w.entryFor l d m c], nextSeq := j.nextSeq + 1 }).judgeLevel_eq
  have length : (w.blocks.journal.entries ++ [w.entryFor l d m c]).length = w.blocks.journal.entries.length + 1 := List.length_append
  change (w.writeEntry l d m c).blocks = _ at blocks
  change (w.writeEntry l d m c).raised = _ at raised
  simp only [Work.mapJournal_journal, length, Journal.oldest, oldest] at blocks raised
  refine ⟨?_, ?_, ?_, ?_, ?_, ?_, _, raised⟩ <;> rw [blocks]
  exact ⟨rfl, rfl⟩

/-- One more entry written. -/
theorem Work.Levels.write (h : w₀.Levels k w) (hs : w.stamp = w₀.stamp) : w₀.Levels (k + 1) (w.writeEntry l d m c) := by
  obtain ⟨-, entries, nextSeq, cursor, watermark, armed, held, raised⟩ := w.writeEntry_judged l d m c
  obtain ⟨hcursor, hwatermark, hfirst, hcount, harmed, hcrossed, hquiet⟩ := h
  have steps := w₀.blocks.journal.crosses_succ k
  rw [hwatermark, harmed, hcount, hs, hfirst, Nat.add_assoc] at raised
  refine ⟨cursor.trans hcursor, watermark.trans hwatermark, ?_, ?_, ?_, fun hc => ?_, fun hc => ?_⟩
  · rw [← hfirst, Journal.firstSeq, Journal.firstSeq, entries, nextSeq]
    cases w.blocks.journal.entries <;> rfl
  · rw [entries, List.length_append, hcount]
    rfl
  · rw [armed, hcount, hwatermark, if_neg (Nat.succ_ne_zero k), Nat.add_assoc]
  · by_cases hk : w₀.blocks.journal.Crosses k
    · rw [if_neg (fun h => (steps.mp h).2 hk), List.append_nil] at raised
      rw [raised]
      exact hcrossed hk
    · have now := steps.mpr ⟨hc, hk⟩
      rw [if_pos now, hquiet hk] at raised
      refine ⟨held, ?_⟩
      rw [raised, w₀.blocks.journal.crossed_at hc hk]
  · have hk : ¬w₀.blocks.journal.Crosses k := fun h => hc (Journal.crosses_mono h)
    rw [if_neg (fun h => hc (steps.mp h).1), List.append_nil] at raised
    rw [raised, hquiet hk]

end

/-! ### Every meter closed, leg by leg and drop by drop (R185) -/

/-- Every drop of every leg, in ascending leg and drop. -/
def allPlaces : List (Leg × Drop) := allLegs.flatMap fun l => allDrops.map fun d => (l, d)

theorem mem_allPlaces (p : Leg × Drop) : p ∈ allPlaces :=
  List.mem_flatMap.mpr ⟨p.1, List.mem_finRange p.1, List.mem_map.mpr ⟨p.2, List.mem_finRange p.2, rfl⟩⟩

/-- The order of the places: ascending leg, then drop. -/
def placeBefore (p q : Leg × Drop) : Prop := p.1 < q.1 ∨ p.1 = q.1 ∧ p.2 < q.2

theorem allPlaces_sorted : allPlaces.Pairwise placeBefore := by
  unfold allPlaces
  rw [List.pairwise_flatMap]
  refine ⟨fun l _ => ?_, (List.pairwise_lt_finRange 4).imp fun {k l} hkl p hp q hq => ?_⟩
  · rw [List.pairwise_map]
    exact (List.pairwise_lt_finRange 128).imp fun h => .inr ⟨rfl, h⟩
  · obtain ⟨-, -, rfl⟩ := List.mem_map.mp hp
    obtain ⟨-, -, rfl⟩ := List.mem_map.mp hq
    exact .inl hkl

theorem allPlaces_nodup : allPlaces.Nodup :=
  allPlaces_sorted.imp fun {p q} h e => by
    subst e
    rcases h with h | ⟨-, h⟩ <;> exact absurd h (lt_irrefl _)

/-- A sweep over the drops of every leg is a sweep over the places. -/
theorem forLegs_forDrops (f : Leg → Drop → Work → Work) (w : Work) :
    forLegs (fun l w => forDrops allDrops (f l) w) w = allPlaces.foldl (fun w p => f p.1 p.2 w) w := by
  simp only [forLegs, forDrops, allPlaces, List.foldl_flatMap, List.foldl_map]

/-- A place whose meter holds usage. -/
def Work.usedAt (w : Work) (p : Leg × Drop) : Bool := (w.meter p.1 p.2).any Meter.usage

/-- What the closes of the places `ps` make of the work `w₀`. -/
structure Work.MetersClosed (w₀ : Work) (ps : List (Leg × Drop)) (w : Work) : Prop where
  rest : w.blocks.rest = w₀.blocks.rest
  stamp : w.stamp = w₀.stamp
  legs : ∀ l, w.leg l = { w₀.leg l with meters := (w.leg l).meters }
  meters : ∀ l d, w.meter l d = if (l, d) ∈ ps then none else w₀.meter l d
  levels : w₀.Levels (ps.filter w₀.usedAt).length w
  written : ∃ new, w.blocks.journal.entries = w₀.blocks.journal.entries ++ new ∧
    w.blocks.journal.nextSeq = w₀.blocks.journal.nextSeq + new.length ∧
    (new.map fun e => (e.leg, e.drop)) = ps.filter w₀.usedAt ∧
    ∀ i, (h : i < new.length) → ∃ m, w₀.meter new[i].leg new[i].drop = some m ∧
      new[i] = { w₀.entryFor new[i].leg new[i].drop m .restart with seq := w₀.blocks.journal.nextSeq + i }

theorem Work.MetersClosed.nil (w : Work) : w.MetersClosed [] w :=
  ⟨rfl, rfl, fun _ => rfl, fun _ _ => rfl, .refl w, [], by simp, rfl, rfl, fun i h => absurd h (Nat.not_lt_zero i)⟩

section
variable {w₀ w : Work} {l : Leg} {d : Drop} {m : Meter} {ps : List (Leg × Drop)}

theorem Work.setMeter_other (w : Work) {k l : Leg} (h : k ≠ l) (d : Drop) (m : Option Meter) : (w.setMeter l d m).leg k = w.leg k := by
  rw [Work.setMeter_eq, Work.leg_mapLeg_of_ne _ _ _ _ h]

theorem Work.setMeter_meter (w : Work) (k l : Leg) (c d : Drop) (m : Option Meter) :
    (w.setMeter l d m).meter k c = if (k, c) = (l, d) then m else w.meter k c := by
  by_cases hk : k = l
  · subst hk
    rw [Work.meter, Work.setMeter_leg, get_set]
    simp only [Prod.mk.injEq, true_and]
    rfl
  · rw [Work.meter, Work.setMeter_other w hk, if_neg fun e => hk (Prod.mk.inj e).1]
    rfl

/-- The meter of a place removed, whatever was written of it before. -/
theorem Work.MetersClosed.remove {v : Work} (h : w₀.MetersClosed ps w) (hl : v.blocks.legs = w.blocks.legs)
    (hr : v.blocks.rest = w.blocks.rest) (hs : v.stamp = w.stamp) :
    (v.setMeter l d none).blocks.rest = w₀.blocks.rest ∧
    (v.setMeter l d none).stamp = w₀.stamp ∧
    (∀ k, (v.setMeter l d none).leg k = { w₀.leg k with meters := ((v.setMeter l d none).leg k).meters }) ∧
    ∀ k c, (v.setMeter l d none).meter k c = if (k, c) ∈ ps ++ [(l, d)] then none else w₀.meter k c := by
  have leg (k : Leg) : v.leg k = w.leg k := by rw [Work.leg, hl]; rfl
  refine ⟨hr.trans h.rest, hs.trans h.stamp, fun k => ?_, fun k c => ?_⟩
  · by_cases hk : k = l
    · subst hk
      rw [Work.setMeter_leg, leg, h.legs]
    · rw [Work.setMeter_other v hk, leg]
      exact h.legs k
  · rw [Work.setMeter_meter, show v.meter k c = w.meter k c from congrArg (·.meters[c]) (leg k), h.meters]
    by_cases hp : (k, c) = (l, d)
    · rw [if_pos hp, if_pos (by rw [hp]; simp)]
    · rw [if_neg hp]
      simp [hp]

theorem Work.Levels.setMeter {k : Nat} {x : Option Meter} (h : w₀.Levels k w) : w₀.Levels k (w.setMeter l d x) :=
  ⟨h.cursor, h.watermark, h.first, h.count, h.armed, h.crossed, h.quiet⟩

theorem unused_filter (hu : w₀.usedAt (l, d) = false) :
    (ps ++ [(l, d)]).filter w₀.usedAt = ps.filter w₀.usedAt := by
  simp [List.filter_append, hu]

/-- The close of one more place. -/
theorem Work.MetersClosed.snoc (h : w₀.MetersClosed ps w) (hp : (l, d) ∉ ps) :
    w₀.MetersClosed (ps ++ [(l, d)]) (w.restartMeter l d) := by
  have now : w.meter l d = w₀.meter l d := by rw [h.meters, if_neg hp]
  obtain ⟨new, entries, nextSeq, places, get⟩ := h.written
  unfold Work.restartMeter
  rw [now]
  cases hm : w₀.meter l d with
  | none =>
    have unused := unused_filter (w₀ := w₀) (ps := ps) (l := l) (d := d) (by simp [Work.usedAt, hm])
    refine ⟨h.rest, h.stamp, h.legs, fun k c => ?_, unused ▸ h.levels, new, entries, nextSeq, unused ▸ places, get⟩
    rw [h.meters]
    by_cases hkc : (k, c) = (l, d)
    · obtain ⟨rfl, rfl⟩ := Prod.mk.inj hkc
      simp [hm]
    · simp [hkc]
  | some m =>
    dsimp only
    cases hu : m.usage with
    | false =>
      have unused := unused_filter (w₀ := w₀) (ps := ps) (l := l) (d := d) (by simp [Work.usedAt, hm, hu])
      obtain ⟨rest, stamp, legs, meters⟩ := h.remove (l := l) (d := d) (v := w) rfl rfl rfl
      rw [if_neg Bool.false_ne_true]
      exact ⟨rest, stamp, legs, meters, unused ▸ h.levels.setMeter, new, entries, nextSeq, unused ▸ places, get⟩
    | true =>
      have used : (ps ++ [(l, d)]).filter w₀.usedAt = ps.filter w₀.usedAt ++ [(l, d)] := by
        simp [List.filter_append, Work.usedAt, hm, hu]
      obtain ⟨⟨hl, hr⟩, he, hn, -⟩ := w.writeEntry_judged l d m .restart
      obtain ⟨rest, stamp, legs, meters⟩ := h.remove (l := l) (d := d) (v := w.writeEntry l d m .restart) hl hr
        (Work.outside_stamp (w.writeEntry_outside l d m _))
      rw [if_pos rfl]
      refine ⟨rest, stamp, legs, meters, ?_, new ++ [w.entryFor l d m .restart], ?_, ?_, ?_, fun i hi => ?_⟩
      · rw [used, List.length_append]
        exact (h.levels.write h.stamp).setMeter
      · exact he.trans (by rw [entries, List.append_assoc])
      · exact hn.trans (by rw [nextSeq, List.length_append, Nat.add_assoc]; rfl)
      · rw [used, List.map_append, places]
        rfl
      · rw [List.length_append, List.length_singleton] at hi
        by_cases hi' : i < new.length
        · simp only [List.getElem_append_left hi']
          exact get i hi'
        · obtain rfl : i = new.length := by omega
          simp only [List.getElem_concat_length]
          exact ⟨m, hm, by simp only [Work.entryFor, nextSeq, h.stamp]⟩

theorem Work.metersClosed_foldl (hn : ps.Nodup) : w₀.MetersClosed ps (ps.foldl (fun w p => w.restartMeter p.1 p.2) w₀) := by
  induction ps using List.reverseRecOn with
  | nil => exact .nil w₀
  | append_singleton ps p ih =>
    rw [List.nodup_append] at hn
    obtain ⟨hps, -, hp⟩ := hn
    rw [List.foldl_append, List.foldl_cons, List.foldl_nil]
    exact (ih hps).snoc fun hm => hp p hm p (List.mem_singleton_self p) rfl

end

/-! ### The part after a RESTART (R206, R207) -/

/-- The LEG_STATE notice of a leg that is OFF. -/
def offNotice (t : Stamp) (l : Leg) : Notice := ⟨some l, none, t, .legState .off none⟩

/-- What is left of the work `w₀` where the legs `ls` are taken out of service. -/
structure Work.LegsRestarted (w₀ : Work) (ls : List Leg) (w : Work) : Prop where
  stamp : w.stamp = w₀.stamp
  rest : w.blocks.rest = w₀.blocks.rest
  journal : w.blocks.journal = w₀.blocks.journal
  legs : ∀ l, w.leg l = if l ∈ ls then (w₀.leg l).restarted w₀.stamp else w₀.leg l
  raised : w.raised = w₀.raised ++ (ls.filter fun l => (w₀.leg l).control.state != .off).map (offNotice w₀.stamp)

/-- One leg taken out of service. -/
theorem Work.restartLeg_eq (w : Work) (l : Leg) :
    (w.restartLeg l).stamp = w.stamp ∧ (w.restartLeg l).blocks = (w.mapLeg l fun r => r.restarted w.stamp).blocks ∧
    (w.restartLeg l).raised = w.raised ++ if (w.leg l).control.state != .off then [offNotice w.stamp l] else [] := by
  unfold Work.restartLeg
  generalize (w.mapLeg l fun r => r.restarted w.stamp) = v, (Work.mapLeg_stamp w l fun r => r.restarted w.stamp) = hs,
    (Work.mapLeg_raised w l fun r => r.restarted w.stamp) = hr
  dsimp only
  by_cases h : (w.leg l).control.state = .off
  · rw [if_pos (by simpa using h), if_neg (by simpa using h), List.append_nil]
    exact ⟨hs, rfl, hr⟩
  · rw [if_neg (by simpa using h), if_pos (by simpa using h)]
    exact ⟨hs, rfl, by rw [Work.raise_raised, hs, hr]; rfl⟩

theorem Work.LegsRestarted.snoc {w₀ w : Work} {ls : List Leg} {l : Leg} (h : w₀.LegsRestarted ls w) (hl : l ∉ ls) :
    w₀.LegsRestarted (ls ++ [l]) (w.restartLeg l) := by
  obtain ⟨stamp, blocks, raised⟩ := w.restartLeg_eq l
  have now : w.leg l = w₀.leg l := by rw [h.legs, if_neg hl]
  have legs (k : Leg) : (w.restartLeg l).leg k = (w.mapLeg l fun r => r.restarted w.stamp).leg k := by rw [Work.leg, blocks]; rfl
  refine ⟨stamp.trans h.stamp, ?_, ?_, fun k => ?_, ?_⟩
  · rw [blocks]
    exact h.rest
  · rw [blocks]
    exact h.journal
  · rw [legs]
    by_cases hk : k = l
    · subst hk
      rw [Work.leg_mapLeg_self, now, h.stamp, if_pos (by simp)]
    · rw [Work.leg_mapLeg_of_ne _ _ _ _ hk, h.legs]
      simp [hk]
  · rw [raised, now, h.raised, h.stamp, List.filter_append, List.map_append, List.append_assoc]
    congr 2
    cases hs : (w₀.leg l).control.state != .off <;> simp [hs]

/-- The legs taken out of service, with the notices of those not OFF (R206, R207). -/
theorem Work.legsRestarted_foldl (w₀ : Work) {ls : List Leg} (hn : ls.Nodup) :
    w₀.LegsRestarted ls (ls.foldl (fun w l => w.restartLeg l) w₀) := by
  induction ls using List.reverseRecOn with
  | nil => exact ⟨rfl, rfl, rfl, fun _ => (if_neg List.not_mem_nil).symm, (List.append_nil _).symm⟩
  | append_singleton ls l ih =>
    rw [List.nodup_append] at hn
    obtain ⟨hls, -, hl⟩ := hn
    rw [List.foldl_append, List.foldl_cons, List.foldl_nil]
    exact (ih hls).snoc fun hm => hl l hm l (List.mem_singleton_self l) rfl

/-- What RESTART makes of the work `w₀`, with the entries `es` it writes. -/
structure Work.Restarted (w₀ w : Work) (es : List JournalEntry) : Prop where
  time : w.blocks.time = { w₀.blocks.time with ring := [], captures := 0 }
  band : w.blocks.band = w₀.blocks.band
  bandPlan : w.blocks.bandPlan = w₀.blocks.bandPlan
  period : w.blocks.period = w₀.blocks.period
  quotaBands : w.blocks.quotaBands = w₀.blocks.quotaBands
  enrol : w.blocks.enrol = w₀.blocks.enrol.map fun o => o.map fun e => { e with binding := none }
  legs : ∀ l, ∃ meters, (∀ d : Drop, meters[d] = none) ∧ w.leg l = LegRecord.restarted { w₀.leg l with meters } w₀.stamp
  levels : ∃ v, w₀.Levels es.length v ∧ w.blocks.journal = v.blocks.journal ∧
    w.raised = v.raised ++ (allLegs.filter fun l => (w₀.leg l).control.state != .off).map (offNotice w₀.stamp)
  entries : w.blocks.journal.entries = w₀.blocks.journal.entries ++ es
  nextSeq : w.blocks.journal.nextSeq = w₀.blocks.journal.nextSeq + es.length
  places : (es.map fun e => (e.leg, e.drop)) = allPlaces.filter w₀.usedAt
  written : ∀ i, (h : i < es.length) → ∃ m, w₀.meter es[i].leg es[i].drop = some m ∧
    es[i] = { w₀.entryFor es[i].leg es[i].drop m .restart with seq := w₀.blocks.journal.nextSeq + i }

/-- RESTART's last stores, behind the closes `v` and the legs' sweep `u`. -/
theorem Work.restarted_of {w v u : Work} (closed : w.MetersClosed allPlaces v) (turned : v.LegsRestarted allLegs u) :
    ∃ es, w.Restarted
      { u with
        blocks :=
          { u.blocks with
            time := { u.blocks.time with ring := [], captures := 0 }
            enrol := u.blocks.enrol.map fun o => o.map fun e => { e with binding := none }
            hostClose := Vector.replicate 4 false } } es := by
  obtain ⟨es, entries, nextSeq, places, get⟩ := closed.written
  have rest : u.blocks.rest = w.blocks.rest := turned.rest.trans closed.rest
  simp only [Blocks.rest, Prod.mk.injEq] at rest
  obtain ⟨time, enrol, band, quotaBands, bandPlan, period, -⟩ := rest
  have level : w.Levels es.length v := by
    have h := closed.levels
    rwa [← places, List.length_map] at h
  exact ⟨es, {
    time := congrArg (fun t : Timebase => { t with ring := [], captures := 0 }) time
    band := band
    bandPlan := bandPlan
    period := period
    quotaBands := quotaBands
    enrol := congrArg (Vector.map _) enrol
    legs := fun l => by
      have now := turned.legs l
      rw [if_pos (show l ∈ allLegs from List.mem_finRange l), closed.legs, closed.stamp] at now
      exact ⟨(v.leg l).meters, fun d => (closed.meters l d).trans (if_pos (mem_allPlaces _)), now⟩
    levels := ⟨v, level, turned.journal, by
      refine turned.raised.trans ?_
      rw [closed.stamp]
      congr 3
      funext l
      rw [closed.legs]⟩
    entries := (congrArg Journal.entries turned.journal).trans entries
    nextSeq := (congrArg Journal.nextSeq turned.journal).trans nextSeq
    places := places
    written := get }⟩

/-- What RESTART does to the part (R206). -/
theorem Work.restart_restarted (w : Work) : ∃ es, w.Restarted w.restart es := by
  have closed := Work.metersClosed_foldl (w₀ := w) allPlaces_nodup
  rw [← forLegs_forDrops fun l d w => w.restartMeter l d] at closed
  exact Work.restarted_of closed (Work.legsRestarted_foldl _ (List.nodup_finRange 4))

/-! ### The figures of the reply (R205) -/

theorem toList_eq_finRange {α : Type} {n : Nat} (v : Vector α n) : v.toList = (List.finRange n).map fun i => v[i] :=
  List.ext_getElem (by simp) fun i _ _ => by simp

/-- The drops of a leg whose meter meets a condition. -/
theorem LegRecord.meters_filter (r : LegRecord) (p : Option Meter → Bool) :
    (r.meters.toList.filter p).length = (allDrops.filter fun d => p r.meters[d]).length := by
  rw [toList_eq_finRange, List.filter_map, List.length_map]
  rfl

theorem Blocks.usedMeters_eq (b : Blocks) : b.usedMeters = (allPlaces.filter (Work.start b).usedAt).length := by
  unfold Blocks.usedMeters allPlaces
  rw [toList_eq_finRange, List.map_map, List.filter_flatMap, List.length_flatMap]
  refine congrArg List.sum (List.map_congr_left fun l _ => ?_)
  rw [List.filter_map, List.length_map]
  exact LegRecord.meters_filter _ _

/-- A meter holds usage or does not. -/
theorem filter_used_add_unused (ds : List Drop) (f : Drop → Option Meter) :
    (ds.filter fun d => (f d).isSome).length =
      (ds.filter fun d => (f d).any Meter.usage).length + (ds.filter fun d => (f d).any fun m => !m.usage).length := by
  induction ds with
  | nil => rfl
  | cons d ds ih =>
    rcases Option.eq_none_or_eq_some (f d) with h | ⟨m, h⟩
    · simpa [List.filter_cons, h] using ih
    · cases hu : m.usage <;> simp [h, hu, ih] <;> omega

/-- The meters without usage. -/
theorem Blocks.unusedMeters_eq (b : Blocks) :
    b.meterCount - b.usedMeters =
      (allLegs.map fun l => (allDrops.filter fun d => (b.legs[l].meters[d]).any fun m => !m.usage).length).sum := by
  have count : b.meterCount = b.usedMeters +
      (allLegs.map fun l => (allDrops.filter fun d => (b.legs[l].meters[d]).any fun m => !m.usage).length).sum := by
    unfold Blocks.meterCount Blocks.usedMeters
    rw [toList_eq_finRange, List.map_map, List.map_map]
    refine Eq.trans ?_ (List.sum_map_add ..)
    refine congrArg List.sum (List.map_congr_left fun l _ => ?_)
    simp only [Function.comp, LegRecord.meterCount, LegRecord.usedMeters, LegRecord.meters_filter]
    exact filter_used_add_unused _ _
  rw [count, Nat.add_sub_cancel_left]

/-- The reply of a RESTART that wrote `es`. -/
def restartReply (tag : Byte) (s : State) (es : List JournalEntry) : OutRecord :=
  ⟨.reply ⟨0x85, tag, .ok,
    .restart es.length ((allLegs.map fun l => (allDrops.filter fun d => (s.meter l d).any fun m => !m.usage).length).sum)
      (s.blocks.journal.entries.length + es.length) (s.blocks.journal.nextSeq + es.length)⟩, false⟩

theorem restartReply_head {tag : Byte} {s : State} {es : List JournalEntry} (ns : List Notice) :
    (placeAll { s.port with inbound := [], outbound := [restartReply tag s es] } ns).outbound.head? = some (restartReply tag s es) :=
  List.head?_eq_getElem?.trans (placeAll_reply ns rfl)

theorem doRestart_of_room {p : Port} {w : Work} (h : w.blocks.restartRoom = true) :
    doRestart p w = .ok (.restart w.blocks.usedMeters (w.blocks.meterCount - w.blocks.usedMeters)
      w.restart.blocks.journal.entries.length w.restart.blocks.journal.nextSeq) { p with inbound := [], outbound := [] } w.restart := by
  unfold doRestart
  rw [if_neg (by simpa using h)]

/-- A RESTART with room. -/
theorem exec_restart_next {tag : Byte} {s : State} (ht : s.takes tag = true) (hr : s.blocks.restartRoom = true) :
    ∃ w es, (Work.start s.blocks).Restarted w es ∧ exec (.restart tag) s = .next
      { s with
        blocks := w.blocks
        port := placeAll { s.port with inbound := [], outbound := [restartReply tag s es] } w.raised } := by
  obtain ⟨es, restarted⟩ := (Work.start s.blocks).restart_restarted
  refine ⟨_, es, restarted, ?_⟩
  have used : s.blocks.usedMeters = es.length := by
    rw [Blocks.usedMeters_eq, ← restarted.places, List.length_map]
  have answer := doRestart_of_room (p := s.port) (w := Work.start s.blocks) hr
  rw [restarted.entries, List.length_append, restarted.nextSeq] at answer
  simp only [Work.start_blocks] at answer
  rw [Blocks.unusedMeters_eq, used] at answer
  rw [(exec_restart_of_room ht hr).1, answer, deliver_eq _ _ (State.takes_iff.mp ht).2.2.1]
  rfl

end Sys2Proof.Machine
open Sys2Proof Sys2Proof.Machine

/-- Settles O28: the sweep of the meters, the sweep of the legs, and the stores behind them, beneath the reply they give. -/
theorem restartEmptiesThePart : Obligations.RestartEmptiesThePart := by
  refine ⟨fun tag s ht hr => ?_, fun tag s ht => ⟨fun hr => ?_, fun hr => exec_refused (q := .restart) rfl ht ?_⟩⟩
  · obtain ⟨w, es, restarted, run⟩ := exec_restart_next ht hr
    obtain ⟨hin, hbad, hover, hlog, -, hpersistent, hmask⟩ :=
      placeAll_frame { s.port with inbound := [], outbound := [restartReply tag s es] } w.raised
    obtain ⟨v, levels, journal, -⟩ := restarted.levels
    refine ⟨_, run, ⟨_, _, _, _, restartReply_head _⟩, hin, hbad, hover, hlog, hpersistent, hmask, restarted.time, restarted.band, restarted.bandPlan,
      restarted.period, restarted.quotaBands, (congrArg Journal.cursor journal).trans levels.cursor,
      (congrArg Journal.watermark journal).trans levels.watermark, fun i => ?_, fun l => ?_⟩
    · change w.blocks.enrol[i] = _
      rw [restarted.enrol]
      exact Vector.getElem_map ..
    · obtain ⟨meters, none, record⟩ := restarted.legs l
      change w.blocks.legs[l] = _ at record
      simp only [State.leg, State.drop, State.meter, record]
      exact ⟨rfl, rfl, rfl, rfl, rfl, fun d => ⟨Vector.getElem_replicate d.isLt, none d⟩, fun n => Vector.getElem_replicate n.isLt,
        rfl, rfl, rfl, rfl, rfl, rfl, rfl, rfl, rfl, rfl,
        fun d => ⟨Vector.getElem_replicate d.isLt, Vector.getElem_replicate d.isLt⟩, rfl⟩
  · obtain ⟨w, es, restarted, run⟩ := exec_restart_next ht hr
    obtain ⟨v, levels, -, raised⟩ := restarted.levels
    have places := restarted.places
    have entry (i : Nat) (h : i < es.length) := restarted.written i h
    refine ⟨_, es, run, restarted.entries, restarted.nextSeq, fun i h => ?_, ?_,
      ⟨v.raised, by rw [raised]; rfl, fun ⟨hne, hw, ha⟩ => ?_, fun hq => ?_⟩, ?_, fun e he => ?_, fun l d m hm hu => ?_⟩
    · obtain ⟨m, -, written⟩ := entry i h
      exact congrArg JournalEntry.seq written
    · have sorted : (es.map fun e => (e.leg, e.drop)).Pairwise placeBefore := by
        rw [places]
        exact allPlaces_sorted.filter _
      exact List.pairwise_map.mp sorted
    · obtain ⟨held, level⟩ := levels.crossed ⟨fun h => hne (List.length_eq_zero_iff.mp h), hw, ha⟩
      exact ⟨held, level⟩
    · refine (levels.quiet fun ⟨hne, hw, ha⟩ => ?_)
      change s.blocks.journal.watermark ≤ s.blocks.journal.entries.length + es.length at hw
      change s.blocks.journal.armed = true ∨ s.blocks.journal.entries.length + 1 < s.blocks.journal.watermark at ha
      rcases hq with rfl | hl | ⟨hd, hl⟩
      · exact hne rfl
      · omega
      · rcases ha with ha | ha
        · rw [hd] at ha
          cases ha
        · omega
    · exact restartReply_head _
    · obtain ⟨i, hi, rfl⟩ := List.getElem_of_mem he
      obtain ⟨m, hm, written⟩ := entry i hi
      have used : (es[i].leg, es[i].drop) ∈ allPlaces.filter (Work.start s.blocks).usedAt := by
        rw [← places]
        exact List.mem_map_of_mem he
      have usage : ((Work.start s.blocks).meter es[i].leg es[i].drop).any Meter.usage = true := (List.mem_filter.mp used).2
      rw [hm] at usage
      have cause := congrArg JournalEntry.cause written
      have stop := congrArg JournalEntry.stop written
      exact ⟨cause, stop, m, hm, usage, congrArg JournalEntry.account written, congrArg JournalEntry.start written,
        congrArg JournalEntry.up written, congrArg JournalEntry.down written, congrArg JournalEntry.shed written,
        congrArg JournalEntry.flags written⟩
    · have used : (l, d) ∈ es.map fun e => (e.leg, e.drop) := by
        rw [places, List.mem_filter]
        refine ⟨mem_allPlaces _, ?_⟩
        have meter : (Work.start s.blocks).meter l d = some m := hm
        rw [Work.usedAt, meter]
        exact hu
      obtain ⟨e, he, hp⟩ := List.mem_map.mp used
      obtain ⟨hl, hd⟩ := Prod.mk.inj hp
      exact ⟨e, he, hl, hd⟩
  · exact if_pos (by simpa using hr)

end

section
set_option Elab.async false -- one theorem after another: side by side they ask for more threads than the check's memory limit grants
/-! PROOFS. What a round boundary makes of the counters, the announcement blocks and the meters (R1, R159, R161, R173, R179 to R182). -/

namespace Sys2Proof.Machine

/-! ### The band and the announcement blocks (R159, R161, R173) -/

section
variable (w : Work) (l : Leg)

theorem Work.mapLeg_beside {k : Leg} (f : LegRecord → LegRecord) (h : k ≠ l) : Work.Beside l w (w.mapLeg k f) :=
  ((Work.Logs.refl k .all w).mapLeg).beside (Ne.symm h)

/-- The block a leg composes: with the band in force and the cycle number of the boundary. -/
theorem Work.composeBlocks_leg :
    w.composeBlocks.leg l =
      { w.leg l with block := composeBlock l w.blocks.band w.stamp.cycle (w.leg l).hostBytes } := by
  obtain ⟨v, hv, ht⟩ := forLegs_at (l := l)
    (f := fun l w => w.mapLeg l fun r => { r with block := composeBlock l w.blocks.band w.stamp.cycle r.hostBytes })
    (fun k v hk => v.mapLeg_beside l _ hk) w
  rw [Work.composeBlocks, ht.leg, Work.leg_mapLeg_self, hv.leg, Work.shared_band hv.shared, Work.shared_stamp hv.shared]

theorem Work.composeBlocks_shared : w.composeBlocks.shared = w.shared := forLegs_keeps Work.shared _ (fun _ _ => rfl) w

theorem Work.composeBlocks_journal : w.composeBlocks.blocks.journal = w.blocks.journal :=
  forLegs_keeps (fun v => v.blocks.journal) _ (fun _ _ => rfl) w

/-- The band in force and the entries left of the schedule (R173). -/
theorem Work.applyBand_eq :
    w.applyBand.blocks = { w.blocks with
      band := ((w.blocks.bandPlan.filter fun e => e.boundary.le w.stamp).getLast?.map BandEntry.band).getD w.blocks.band
      bandPlan := w.blocks.bandPlan.filter fun e => !(e.boundary.le w.stamp) } := by
  unfold Work.applyBand
  dsimp only
  cases h : (w.blocks.bandPlan.filter fun e => e.boundary.le w.stamp).getLast? with
  | some e => rfl
  | none =>
    have undue : (w.blocks.bandPlan.filter fun e => !(e.boundary.le w.stamp)) = w.blocks.bandPlan := by
      rw [List.getLast?_eq_none_iff, List.filter_eq_nil_iff] at h
      exact List.filter_eq_self.mpr fun e he => by simpa using h e he
    rw [undue]
    rfl

end

/-! ### The closes of a boundary (R179 to R182) -/

/-- The cause with which a boundary closes the OPEN meters of a leg, if it does: PERIOD before HOST. -/
def Work.closeCause (w : Work) (due : Bool) (l : Leg) : Option CloseCause :=
  if due then some .period else if w.blocks.hostClose[l] then some .host else none

/-- The close of a meter with a cause, or none. -/
def Work.closeFor (w : Work) (c : Option CloseCause) (l : Leg) (d : Drop) : Work :=
  match c with
  | some c => (w.closeMeter l d c).1
  | none => w

section
variable {w : Work} {due : Bool} {l : Leg}

theorem Work.closeCause_period (h : due = true) : w.closeCause due l = some .period := if_pos h

theorem Work.closeCause_host (h : ¬due = true) (hl : w.blocks.hostClose[l] = true) : w.closeCause due l = some .host :=
  (if_neg h).trans (if_pos hl)

theorem Work.closeCause_none (h : ¬due = true) (hl : w.blocks.hostClose[l] = false) : w.closeCause due l = none :=
  (if_neg h).trans (if_neg (by rw [hl]; exact Bool.false_ne_true))

end

/-- The closes of a boundary are a sweep over the places. -/
theorem Work.boundaryCloses_eq (w : Work) :
    w.boundaryCloses =
      let v := allPlaces.foldl (fun v p => v.closeFor (v.closeCause (w.blocks.periodDue w.stamp) p.1) p.1 p.2) w
      { v with blocks := { v.blocks with hostClose := Vector.replicate 4 false } } := by
  have step (l : Leg) (d : Drop) (v : Work) :
      (if w.blocks.periodDue w.stamp then (v.closeMeter l d .period).1
        else if v.blocks.hostClose[l] then (v.closeMeter l d .host).1 else v) =
      v.closeFor (v.closeCause (w.blocks.periodDue w.stamp) l) l d := by
    unfold Work.closeFor Work.closeCause
    split
    · rfl
    · split <;> rfl
  unfold Work.boundaryCloses
  simp only [step]
  rw [forLegs_forDrops fun l d v => v.closeFor (v.closeCause (w.blocks.periodDue w.stamp) l) l d]

/-- The place a journal entry stands for. -/
def JournalEntry.place (e : JournalEntry) : Leg × Drop := (e.leg, e.drop)

/-- What continuing closes of the places `ps` make of the work `w₀`. -/
structure Work.ClosesSwept (w₀ : Work) (ps : List (Leg × Drop)) (w : Work) : Prop where
  shared : w.shared = w₀.shared
  legs : ∀ l, w.leg l = { w₀.leg l with meters := (w.leg l).meters }
  meters : ∀ l d, (l, d) ∉ ps → w.meter l d = w₀.meter l d
  written : ∃ new, w.blocks.journal.entries = w₀.blocks.journal.entries ++ new ∧
    w.blocks.journal.nextSeq = w₀.blocks.journal.nextSeq + new.length ∧ (new.map JournalEntry.place).Sublist ps ∧
    ∀ e ∈ new, e.cause.ending = false

theorem Work.ClosesSwept.trans {w₀ w w' : Work} {ps qs : List (Leg × Drop)} (h : w₀.ClosesSwept ps w) (k : w.ClosesSwept qs w') :
    w₀.ClosesSwept (ps ++ qs) w' := by
  obtain ⟨new, entries, nextSeq, places, causes⟩ := h.written
  obtain ⟨new', entries', nextSeq', places', causes'⟩ := k.written
  refine ⟨k.shared.trans h.shared, fun l => ?_, fun l d hp => ?_, new ++ new', ?_, ?_, ?_, fun e he => ?_⟩
  · rw [k.legs, h.legs]
  · rw [List.mem_append, not_or] at hp
    exact (k.meters l d hp.2).trans (h.meters l d hp.1)
  · rw [entries', entries, List.append_assoc]
  · rw [nextSeq', nextSeq, List.length_append, Nat.add_assoc]
  · rw [List.map_append]
    exact places.append places'
  · rcases List.mem_append.mp he with he | he
    · exact causes e he
    · exact causes' e he

theorem Work.ClosesSwept.refl (w : Work) (ps : List (Leg × Drop)) : w.ClosesSwept ps w :=
  ⟨rfl, fun _ => rfl, fun _ _ _ => rfl, [], (List.append_nil _).symm, rfl, List.nil_sublist _, fun _ h => absurd h List.not_mem_nil⟩

section
variable (w : Work) (l : Leg) (d : Drop)

/-- One continuing close. -/
theorem Work.closeMeter_swept {c : CloseCause} (hc : c.ending = false) : w.ClosesSwept [(l, d)] (w.closeMeter l d c).1 := by
  obtain ⟨leg, -, entries, nextSeq, -⟩ := w.closeMeter_spec l d c
  have outside := w.closeMeter_outside l d c
  refine ⟨Work.shared_of_outside outside, fun k => ?_, fun k e hp => ?_, _, entries, nextSeq, ?_, fun e he => ?_⟩
  · by_cases hk : k = l
    · subst hk
      rw [leg]
    · rw [Work.outside_leg outside hk]
  · by_cases hk : k = l
    · subst hk
      rw [Work.meter, leg, get_set, if_neg (by rintro rfl; exact hp (List.mem_singleton_self _))]
      rfl
    · rw [Work.meter, Work.outside_leg outside hk]
      rfl
  · unfold Work.closeEntries
    split
    · cases w.meter l d with
      | none => exact List.nil_sublist _
      | some m => exact List.Sublist.refl _
    · exact List.nil_sublist _
  · unfold Work.closeEntries at he
    split at he
    · obtain ⟨m, -, rfl⟩ := List.mem_map.mp he
      exact hc
    · exact absurd he List.not_mem_nil

theorem Work.closeFor_swept (due : Bool) : w.ClosesSwept [(l, d)] (w.closeFor (w.closeCause due l) l d) := by
  unfold Work.closeFor Work.closeCause
  cases due with
  | true => exact w.closeMeter_swept l d rfl
  | false =>
    cases w.blocks.hostClose[l] with
    | true => exact w.closeMeter_swept l d rfl
    | false => exact .refl w _

end

theorem Work.closesSwept_foldl (due : Bool) (ps : List (Leg × Drop)) (w : Work) :
    w.ClosesSwept ps (ps.foldl (fun v p => v.closeFor (v.closeCause due p.1) p.1 p.2) w) := by
  induction ps generalizing w with
  | nil => exact .refl w []
  | cons p ps ih => exact (w.closeFor_swept p.1 p.2 due).trans (ih _)

/-- A journal entry stands for a place. -/
def JournalEntry.isAt (l : Leg) (d : Drop) (e : JournalEntry) : Bool := e.leg == l && e.drop == d

theorem JournalEntry.isAt_iff {l : Leg} {d : Drop} {e : JournalEntry} : e.isAt l d = true ↔ e.place = (l, d) := by
  simp [JournalEntry.isAt, JournalEntry.place, Prod.ext_iff]

theorem filter_isAt_eq_nil {l : Leg} {d : Drop} {es : List JournalEntry} {ps : List (Leg × Drop)}
    (h : (es.map JournalEntry.place).Sublist ps) (hp : (l, d) ∉ ps) : es.filter (JournalEntry.isAt l d) = [] := by
  rw [List.filter_eq_nil_iff]
  intro e he hat
  exact hp (JournalEntry.isAt_iff.mp hat ▸ h.subset (List.mem_map_of_mem he))

theorem filter_isAt_eq_self {l : Leg} {d : Drop} {es : List JournalEntry} (h : (es.map JournalEntry.place).Sublist [(l, d)]) :
    es.filter (JournalEntry.isAt l d) = es :=
  List.filter_eq_self.mpr fun _ he => JournalEntry.isAt_iff.mpr (List.mem_singleton.mp (h.subset (List.mem_map_of_mem he)))

/-- Before its turn in the sweep of a boundary a meter is as it was, and the journal has at most 511 entries more. -/
structure Work.SweepReaches (w : Work) (l : Leg) (d : Drop) (v : Work) : Prop where
  stamp : v.stamp = w.stamp
  meter : v.meter l d = w.meter l d
  room : w.blocks.journal.entries.length + 512 ≤ 1024 → w.blocks.journal.nextSeq + 512 ≤ 4294967296 → v.blocks.journal.room = true
  full : w.blocks.journal.room = false → v.blocks.journal.room = false

/-- The closes `w'` of a boundary as one place sees them: the journal entries `new`, and `mine` of them of the place. -/
structure Work.ClosedAt (w : Work) (l : Leg) (d : Drop) (v' w' : Work) (mine : List JournalEntry) : Prop where
  meter : w'.meter l d = v'.meter l d
  written : ∃ new, w'.blocks.journal.entries = w.blocks.journal.entries ++ new ∧ new.filter (JournalEntry.isAt l d) = mine ∧
    new.Pairwise (fun a b => a.leg < b.leg ∨ a.leg = b.leg ∧ a.drop < b.drop) ∧ ∀ e ∈ new, e.cause.ending = false

theorem Journal.room_eq_true {j : Journal} : j.room = true ↔ j.entries.length < 1024 ∧ j.nextSeq ≤ 4294967295 := by
  simp [Journal.room]

/-- The closes of a boundary as one place sees them: its turn comes in its order. -/
theorem Work.boundaryCloses_at (w : Work) (l : Leg) (d : Drop) : ∃ v mine,
    w.SweepReaches l d v ∧
    (v.closeFor (w.closeCause (w.blocks.periodDue w.stamp) l) l d).blocks.journal.entries = v.blocks.journal.entries ++ mine ∧
    w.ClosedAt l d (v.closeFor (w.closeCause (w.blocks.periodDue w.stamp) l) l d) w.boundaryCloses mine := by
  have count : allPlaces.length = 512 := by simp [allPlaces, allLegs, allDrops, List.length_flatMap]
  obtain ⟨before, after, hs⟩ := List.append_of_mem (mem_allPlaces (l, d))
  have sorted : (before ++ (l, d) :: after).Pairwise placeBefore := hs ▸ allPlaces_sorted
  obtain ⟨-, hnodup, hdisjoint⟩ := List.nodup_append.mp (hs ▸ allPlaces_nodup)
  have hbefore : (l, d) ∉ before := fun h => hdisjoint _ h _ List.mem_cons_self rfl
  have hafter : (l, d) ∉ after := (List.nodup_cons.mp hnodup).1
  rw [hs, List.length_append, List.length_cons] at count
  rw [Work.boundaryCloses_eq, hs, List.foldl_append, List.foldl_cons]
  generalize w.blocks.periodDue w.stamp = due
  have first := Work.closesSwept_foldl due before w
  generalize before.foldl (fun v p => v.closeFor (v.closeCause due p.1) p.1 p.2) w = v at first ⊢
  have turn := v.closeFor_swept l d due
  have cause : v.closeCause due l = w.closeCause due l := by
    unfold Work.closeCause
    rw [show v.blocks.hostClose = w.blocks.hostClose from congrArg (·.2.2.2.2.2.2) first.shared]
  dsimp only
  rw [cause] at turn ⊢
  have last := Work.closesSwept_foldl due after (v.closeFor (w.closeCause due l) l d)
  obtain ⟨es, entries, nextSeq, places, causes⟩ := first.written
  obtain ⟨mine, entries', -, places', causes'⟩ := turn.written
  obtain ⟨es', entries'', -, places'', causes''⟩ := last.written
  have short : es.length ≤ before.length := by
    have := places.length_le
    rwa [List.length_map] at this
  refine ⟨v, mine, ⟨congrArg (·.1) first.shared, first.meters l d hbefore, fun hr hn => ?_, fun hr => ?_⟩, entries', last.meters l d hafter,
    es ++ mine ++ es', ?_, ?_, ?_, fun e he => ?_⟩
  · rw [Journal.room_eq_true, entries, nextSeq, List.length_append]
    omega
  · rw [← Bool.not_eq_true, Journal.room_eq_true] at hr ⊢
    rw [entries, nextSeq, List.length_append]
    omega
  · exact entries''.trans (by rw [entries', entries]; simp)
  · rw [List.filter_append, List.filter_append, filter_isAt_eq_nil places hbefore, filter_isAt_eq_self places',
      filter_isAt_eq_nil places'' hafter, List.nil_append, List.append_nil]
  · have each : ((es ++ mine ++ es').map JournalEntry.place).Sublist (before ++ (l, d) :: after) := by
      rw [List.map_append, List.map_append, List.append_assoc]
      exact places.append (places'.append places'')
    exact List.pairwise_map.mp (sorted.sublist each)
  · rw [List.mem_append, List.mem_append] at he
    rcases he with (he | he) | he
    exacts [causes e he, causes' e he, causes'' e he]

/-! ### One continuing close (R179, R182) -/

section
variable {v : Work} {l : Leg} {d : Drop} {m : Meter} {c : CloseCause}

theorem Work.closing_held (hm : v.meter l d = some m) (hc : c.ending = false) (hp : m.pending ≠ none) :
    v.closing l d c = ⟨some m, false, false⟩ := by
  obtain ⟨⟨was, asked⟩, hp⟩ := Option.ne_none_iff_exists'.mp hp
  simp [Work.closing, closeOf, hm, Meter.close, hp, hc]

theorem Work.closing_idle (hm : v.meter l d = some m) (hc : c.ending = false) (hp : m.pending = none) (hu : m.usage = false)
    (hf : m.flags = MeterFlags.clear) : v.closing l d c = ⟨some { m with start := v.stamp }, false, false⟩ := by
  simp [Work.closing, closeOf, hm, Meter.close, hp, hc, hu, hf]

theorem Work.closing_due (hm : v.meter l d = some m) (hc : c.ending = false) (hp : m.pending = none)
    (hu : m.usage = true ∨ m.flags ≠ MeterFlags.clear) :
    v.closing l d c =
      if v.blocks.journal.room then ⟨some (m.restarted v.stamp (v.drop l d).outOfService), true, false⟩
      else ⟨some (m.heldFor c v.stamp), false, false⟩ := by
  rcases hu with hu | hu <;> simp [Work.closing, closeOf, hm, Meter.close, hp, hc, hu]

/-- A meter that a continuing close restarts holds no usage. -/
theorem Meter.restarted_usage (m : Meter) (t : Stamp) (out : Bool) : (m.restarted t out).usage = false := by
  simp [Meter.restarted, Meter.opened, Meter.usage]

theorem Work.closeEntries_of_written {e : Bool} {left : Option Meter} (hm : v.meter l d = some m)
    (h : v.closing l d c = ⟨left, true, e⟩) : v.closeEntries l d c = [v.entryFor l d m c] := by
  simp [Work.closeEntries, h, hm]

theorem Work.closeEntries_of_not_written {e : Bool} {left : Option Meter} (h : v.closing l d c = ⟨left, false, e⟩) :
    v.closeEntries l d c = [] := by simp [Work.closeEntries, h]

theorem Work.closeMeter_meter : (v.closeMeter l d c).1.meter l d = (v.closing l d c).left := by
  rw [Work.meter, (v.closeMeter_spec l d c).leg, get_set, if_pos rfl]

end

/-! ### A hold of two rounds or more outlives the boundary (R33) -/

/-- No lost hold of the entry, nor of its resume state, runs out at the next boundary. -/
structure DropEntry.Lasts (e : DropEntry) : Prop where
  hold : ∀ n, e.hold = some n → 2 ≤ n
  resume : ∀ back n, e.resume = some back → back.hold = some n → 2 ≤ n

theorem DropEntry.Lasts.of_eq {e e' : DropEntry} (h : e.Lasts) (hold : e'.hold = e.hold) (resume : e'.resume = e.resume) : e'.Lasts :=
  ⟨hold ▸ h.hold, resume ▸ h.resume⟩

theorem DropEntry.Lasts.of_none {e : DropEntry} (hold : e.hold = none) (resume : e.resume = none) : e.Lasts :=
  ⟨by simp [hold], by simp [resume]⟩

/-- From `w` to `w'` the entry of drop `d` goes on lasting. -/
structure Work.LetsLast (l : Leg) (d : Drop) (w w' : Work) : Prop where
  lasts : (w.drop l d).Lasts → (w'.drop l d).Lasts

namespace Work.LetsLast

variable {l : Leg} {d c : Drop} {w w' w'' : Work}

theorem refl : LetsLast l d w w := ⟨id⟩

theorem trans (h : LetsLast l d w w') (k : LetsLast l d w' w'') : LetsLast l d w w'' := ⟨k.lasts ∘ h.lasts⟩

/-- Work that leaves the leg's entries. -/
theorem of_drops (h : LetsLast l d w w') (k : (w''.leg l).drops = (w'.leg l).drops) : LetsLast l d w w'' where
  lasts hl := by
    rw [Work.drop, k]
    exact h.lasts hl

theorem mapLeg {f : LegRecord → LegRecord} (h : LetsLast l d w w') (k : (f (w'.leg l)).drops = (w'.leg l).drops := by rfl) :
    LetsLast l d w (w'.mapLeg l f) :=
  h.of_drops (by rw [leg_mapLeg_self, k])

theorem mapMonitor {f : Monitor → Monitor} (h : LetsLast l d w w') : LetsLast l d w (w'.mapMonitor l f) := h.mapLeg

theorem raise {a : Option Leg} {b : Option Drop} {n : NoticeBody} (h : LetsLast l d w w') : LetsLast l d w (w'.raise a b n) := ⟨h.lasts⟩

theorem mapDrop {f : DropEntry → DropEntry} (h : LetsLast l d w w') (hf : (w'.drop l c).Lasts → (f (w'.drop l c)).Lasts) :
    LetsLast l d w (w'.mapDrop l c f) where
  lasts hl := by
    by_cases hc : d = c
    · subst hc
      rw [drop_mapDrop_self]
      exact hf (h.lasts hl)
    · rw [drop_mapDrop_of_ne (h := hc)]
      exact h.lasts hl

theorem forDrops {ds : List Drop} {f : Drop → Work → Work} (h : LetsLast l d w w')
    (hf : ∀ (c : Drop) (v : Work), LetsLast l d v (f c v)) : LetsLast l d w (forDrops ds f w') :=
  List.foldlRecOn (motive := fun v => LetsLast l d w v) ds (fun w d => f d w) h fun v hv c _ => hv.trans (hf c v)

theorem openMeter (h : LetsLast l d w w') : LetsLast l d w (w'.openMeter l c) := by
  unfold Work.openMeter
  split
  · rw [setMeter_eq]
    exact h.mapLeg
  · exact h

theorem toServing (h : LetsLast l d w w') : LetsLast l d w (w'.toServing l c) :=
  ((h.mapDrop fun e => ⟨e.hold, fun _ _ hr => by cases hr⟩).mapLeg).openMeter

theorem wakeUp (h : LetsLast l d w w') : LetsLast l d w (w'.wakeUp l c) := by
  have woken : LetsLast l d w ((w'.toServing l c).mapDrop l c fun e =>
      { e with wakeInterval := none, wakeCount := none, cleanSinceWake := false }) :=
    h.toServing.mapDrop fun e => e.of_eq rfl rfl
  unfold Work.wakeUp
  exact woken.mapLeg.raise

/-- The resume state brings its own hold. -/
theorem unhushDrop (h : LetsLast l d w w') : LetsLast l d w (w'.unhushDrop l c) := by
  unfold Work.unhushDrop
  split
  · exact h
  · next r hr =>
    split
    · split
      · exact h.wakeUp
      · exact h.toServing
    · have returned (t : Stamp) : LetsLast l d w ((w'.mapDrop l c fun e =>
          { e with
            state := r.state, since := t, resume := none, hold := r.hold, reason := r.reason
            trimCount := if r.stepHeld then min (e.trimCount + 1) 6 else e.trimCount }).mapLanesOf l c Lane.noCredit) :=
        (h.mapDrop fun e => ⟨fun n hn => e.resume r n hr hn, fun _ _ hn => by cases hn⟩).mapLeg
      dsimp only
      split
      · exact (returned _).raise
      · exact returned _

theorem queueUnhush (h : LetsLast l d w w') : LetsLast l d w (w'.queueUnhush l) := by
  unfold Work.queueUnhush
  split
  · rw [queueOrder_eq]
    exact h.mapLeg
  · exact h.mapLeg

theorem endHunt {b : Bool} (h : LetsLast l d w w') : LetsLast l d w (w'.endHunt l b) := by
  have raised (n : NoticeBody) : LetsLast l d w (w'.raise (some l) none n) := h.raise
  unfold Work.endHunt
  exact ((((raised _).mapMonitor).queueUnhush).forDrops fun _ v => refl.unhushDrop).mapMonitor

theorem departure (h : LetsLast l d w w') : LetsLast l d w (w'.departure l c) := by
  unfold Work.departure
  dsimp only
  split
  · split
    · split
      · split
        · exact h.mapMonitor.endHunt
        · exact h.mapMonitor
      · exact h
    · exact h
  · split
    · exact h.endHunt
    · exact h
  · exact h

theorem drained (h : LetsLast l d w w') : LetsLast l d w (w'.drained l) := by
  unfold Work.drained
  split
  · rw [setLeg_eq]
    exact h.mapLeg.raise
  · exact h

theorem vacate (h : LetsLast l d w w') : LetsLast l d w (w'.vacate l c) := by
  have unbound : LetsLast l d w (w'.unbound l c) := h.of_drops (by rw [unbound_leg])
  have reset (v : Work) (k : LetsLast l d w v) : LetsLast l d w (v.mapLeg l fun r => r.vacated c v.stamp) :=
    ((k.mapDrop (c := c) (f := fun _ => DropEntry.vacant v.stamp) fun _ => .of_none rfl rfl).of_drops
      (by rw [mapDrop_eq, leg_mapLeg_self, leg_mapLeg_self]; rfl))
  rw [vacate_eq]
  exact (reset _ unbound).raise.drained

theorem closeMeter {k : CloseCause} (h : LetsLast l d w w') : LetsLast l d w (w'.closeMeter l c k).1 :=
  h.of_drops (by rw [(w'.closeMeter_spec l c k).leg])

theorem enterRetiring {reason : RetireReason} (h : LetsLast l d w w') : LetsLast l d w (w'.enterRetiring l c reason) :=
  ((((h.mapLeg).mapLeg).mapDrop (c := c) fun _ => .of_none rfl rfl).raise).departure

theorem retire {reason : RetireReason} (h : LetsLast l d w w') : LetsLast l d w (w'.retire l c reason) := by
  rw [retire_eq]
  split
  · exact h
  · dsimp only
    split
    · exact (h.enterRetiring.closeMeter).vacate
    · exact h.enterRetiring.closeMeter

/-- The count of another drop's hold. -/
theorem holdTick (h : LetsLast l d w w') (hc : d ≠ c) : LetsLast l d w (w'.holdTick l c) := by
  have counted (f : DropEntry → DropEntry) : LetsLast l d w (w'.mapDrop l c f) :=
    ⟨fun hl => by rw [drop_mapDrop_of_ne (h := hc)]; exact h.lasts hl⟩
  unfold Work.holdTick
  dsimp only
  split
  · split
    · exact h.retire
    · exact counted _
  · split
    · split
      · exact h.retire
      · exact counted _
    · exact h
  · exact h

end Work.LetsLast

/-! ### A meter that nothing at the boundary touches -/

/-- The scope of what a boundary does beside the drop `d`: the closes are those of retirements, and no meter of `d` changes. -/
def Scope.besides (d : Drop) (sends : Prop) : Scope := ⟨True, False, sends, True, fun c => c ≠ d, fun c => c = .retire⟩

/-- Nothing that a boundary brings a leg touches the meter of a drop: no frame of the drop waits, no order of it is awaited, and no hold of
it runs out. -/
structure LegRecord.Untouched (r : LegRecord) (d : Drop) : Prop where
  fifo : ∀ f ∈ r.fifo, f.drop ≠ d
  orders : ∀ e ∈ r.orders, e.awaiting = true → ∀ c, e.target = some c → c ≠ d
  lasts : r.drops[d].Lasts

/-- An announcement block and meters touch no more. -/
theorem LegRecord.Untouched.of_sansMeters {r r' : LegRecord} {d : Drop} (k : r.Untouched d) (h : r'.sansMeters = r.sansMeters) :
    r'.Untouched d := by
  have fifo : r'.fifo = r.fifo := congrArg (·.fifo) h
  have orders : r'.orders = r.orders := congrArg (·.orders) h
  have drops : r'.drops = r.drops := congrArg (·.drops) h
  exact ⟨fifo ▸ k.fifo, orders ▸ k.orders, drops ▸ k.lasts⟩

section
variable {w : Work} {l : Leg} {d : Drop} {s : Prop}

/-- The count of a hold that lasts. -/
theorem Work.holdTick_lasts (h : (w.drop l d).Lasts) : Work.Reach l (.besides d s) w (w.holdTick l d) := by
  have refl : Work.Reach l (.besides d s) w w := .refl trivial
  unfold Work.holdTick
  dsimp only
  split
  · next n _ hn =>
    rw [if_neg (by have := h.hold n hn; omega)]
    exact refl.mapDrop
  · next back _ hback =>
    split
    · next n _ hn =>
      rw [if_neg (by have := h.resume back n hback hn; omega)]
      exact refl.mapDrop
    · exact refl
  · exact refl

theorem Work.holdsTicked_besides (h : (w.drop l d).Lasts) : Work.Reach l (.besides d s) w (w.holdsTicked l) := by
  obtain ⟨v, ⟨hv, lasts⟩, ht, -⟩ := foldl_at
    (R := fun v v' : Work => Work.Reach l (.besides d s) v v' ∧ Work.LetsLast l d v v') (fun _ => ⟨.refl trivial, .refl⟩)
    (fun _ _ _ h k => ⟨h.1.step k.1.runs, h.2.trans k.2⟩) (f := fun w d => w.holdTick l d)
    (xs := allDrops) (List.nodup_finRange 128)
    (List.mem_finRange d)
    (fun v c _ hc => ⟨(Work.Reach.refl trivial).holdTick hc rfl, Work.LetsLast.refl.holdTick (Ne.symm hc)⟩) w
  exact (hv.step (Work.holdTick_lasts (lasts.lasts h)).runs).step ht.runs

theorem Work.scheduleTicked_orders (w : Work) (l : Leg) : ((w.scheduleTicked l).leg l).orders = (w.leg l).orders := by
  unfold Work.scheduleTicked
  exact (congrArg LegRecord.orders (w.leg_mapLeg_self l _)).trans rfl

theorem LegRecord.fifo_of_base {r r' : LegRecord} (h : r'.base = r.base) : r'.fifo = r.fifo := congrArg (·.2.2.2.2.2.2) h

theorem Work.meter_of_leg {w w' : Work} (h : w'.leg l = w.leg l) : w'.meter l d = w.meter l d := congrArg (·.meters[d]) h

/-- Where nothing touches a drop's meter, the holds leave its frames and its orders to the round that begins. -/
theorem Work.holdsTicked_untouched (h : (w.leg l).Untouched d) :
    (∀ f ∈ (((w.holdsTicked l).scheduleTicked l).leg l).fifo, f.drop ≠ d) ∧
    ∀ e ∈ (((w.holdsTicked l).scheduleTicked l).leg l).orders, e.awaiting = true → ∀ c, e.target = some c → c ≠ d := by
  have held : Work.Reach l (.besides d False) w (w.holdsTicked l) := Work.holdsTicked_besides h.lasts
  constructor
  · have fifo : (((w.holdsTicked l).scheduleTicked l).leg l).fifo = ((w.holdsTicked l).leg l).fifo :=
      LegRecord.fifo_of_base (Work.scheduleTicked_base _ l)
    rw [fifo, held.fifo]
    exact h.fifo
  · rw [Work.scheduleTicked_orders]
    intro e he ha c hc
    obtain ⟨x, hx, hxa, hxt⟩ := held.runs.leg.orders.resolve_left id e he ha
    exact h.orders x hx hxa c (hxt.trans hc)

/-- What a boundary brings a leg leaves a meter that nothing touches, and writes entries of other drops alone. -/
theorem Work.legBoundary_besides (h : (w.leg l).Untouched d) :
    w.Logs l (.besides d True) (w.legBoundary l) ∧ (w.meter l d = none ∨ (w.legBoundary l).meter l d = w.meter l d) := by
  obtain ⟨m, ready, -⟩ := w.legReady_leg l
  have untouched : ((w.legReady l).leg l).Untouched d := by
    rw [ready]
    exact ⟨h.fifo, h.orders, h.lasts⟩
  obtain ⟨fifo, orders⟩ := Work.holdsTicked_untouched untouched
  have held : Work.Reach l (.besides d True) (w.legReady l) ((w.legReady l).holdsTicked l) := Work.holdsTicked_besides untouched.lasts
  have turned := (held.turns.trans (Work.scheduleTicked_turns _ l _)).trans
    (Work.beginRound_turns (σ := .besides d True) trivial trivial fifo orders)
  have meter : (w.legReady l).meter l d = w.meter l d := by
    rw [Work.meter, ready]
    rfl
  rw [Work.legBoundary_eq]
  refine ⟨(w.legReady_logs l).trans turned.logs, ?_⟩
  rw [← meter]
  exact (turned.leg.meters d).resolve_left fun hd => hd rfl

/-- The announcement block of a leg stands through its turn. -/
theorem Work.legBoundary_block (w : Work) (l : Leg) : ((w.legBoundary l).leg l).block = (w.leg l).block := by
  obtain ⟨m, ready, -⟩ := w.legReady_leg l
  rw [Work.legBoundary_eq, (Work.roundBegun_turns (w.legReady l) l).leg.block, ready]

end

/-! ### A round boundary as one meter sees it -/

/-- From `w` to `w'` the journal grows by ending closes of other meters than that of drop `d` of leg `l`. -/
def Work.Retires (l : Leg) (d : Drop) (w w' : Work) : Prop :=
  ∃ new, w'.blocks.journal.entries = w.blocks.journal.entries ++ new ∧ ∀ e ∈ new, e.cause.ending = true ∧ e.isAt l d = false

namespace Work.Retires

variable {l : Leg} {d : Drop} {w w' w'' : Work}

theorem refl : Retires l d w w := ⟨[], (List.append_nil _).symm, fun _ h => absurd h List.not_mem_nil⟩

theorem trans (h : Retires l d w w') (k : Retires l d w' w'') : Retires l d w w'' := by
  obtain ⟨new, entries, each⟩ := h
  obtain ⟨new', entries', each'⟩ := k
  refine ⟨new ++ new', by rw [entries', entries, List.append_assoc], fun e he => ?_⟩
  rcases List.mem_append.mp he with he | he
  exacts [each e he, each' e he]

/-- Work on a leg whose closes are those of retirements, and of other drops on the leg `l`. -/
theorem of_logs {k : Leg} {σ : Scope} (h : w.Logs k σ w') (hc : ∀ c, σ.causes c → c = .retire) (ht : k = l → ¬σ.touches d) :
    Retires l d w w' := by
  obtain ⟨new, entries, -, each⟩ := h.written
  refine ⟨new, entries, fun e he => ?_⟩
  obtain ⟨leg, touches, cause, -⟩ := each e he
  refine ⟨by rw [hc _ cause]; rfl, Bool.eq_false_iff.mpr fun hat => ?_⟩
  obtain ⟨hl, hd⟩ := Prod.mk.inj (JournalEntry.isAt_iff.mp hat)
  exact ht (leg.symm.trans hl) (hd ▸ touches)

end Work.Retires

/-- The legs' turns leave a meter that nothing touches. -/
theorem Work.boundary_besides {w : Work} {l : Leg} {d : Drop} (h : (w.boundaryOpened.leg l).Untouched d) :
    Work.Retires l d w.boundaryOpened w.boundary ∧
    (w.boundaryOpened.meter l d = none ∨ w.boundary.meter l d = w.boundaryOpened.meter l d) := by
  obtain ⟨v, ⟨hv, before⟩, ht, after⟩ := foldl_at (R := fun v v' : Work => Work.Beside l v v' ∧ Work.Retires l d v v')
    (fun v => ⟨.refl l v, .refl⟩) (fun _ _ _ h k => ⟨h.1.trans k.1, h.2.trans k.2⟩) (f := fun w l => w.legBoundary l)
    (xs := allLegs) (List.nodup_finRange 4) (List.mem_finRange l)
    (fun v k _ hk => ⟨(v.legBoundary_logs k).beside (Ne.symm hk),
      .of_logs (v.legBoundary_logs k) (fun _ h => h) fun e => absurd e hk⟩) w.boundaryOpened
  have untouched : (v.leg l).Untouched d := by rwa [hv.leg]
  obtain ⟨logs, meter⟩ := Work.legBoundary_besides untouched
  have turn : Work.Retires l d v (v.legBoundary l) := .of_logs logs (fun _ h => h) fun _ hd => hd rfl
  have same : v.meter l d = w.boundaryOpened.meter l d := Work.meter_of_leg hv.leg
  have last : w.boundary.meter l d = (v.legBoundary l).meter l d := Work.meter_of_leg ht.leg
  rw [last, ← same]
  exact ⟨(before.trans turn).trans after, meter⟩

/-! ### A boundary put together -/

section
variable (w : Work) (l : Leg) (d : Drop)

/-- The work of a boundary before its closes: the band and the announcement blocks at an announcement-block boundary. -/
def Work.opening : Work := if w.stamp.round % 64 = 0 then w.blockBoundary else w

theorem Work.boundaryOpened_eq : w.boundaryOpened = w.opening.boundaryCloses := rfl

/-- What stays before the closes: all but the band, its schedule and the announcement blocks. -/
theorem Work.opening_kept :
    w.opening.stamp = w.stamp ∧ w.opening.blocks.journal = w.blocks.journal ∧ w.opening.blocks.quotaBands = w.blocks.quotaBands ∧
    w.opening.blocks.period = w.blocks.period ∧ w.opening.blocks.hostClose = w.blocks.hostClose := by
  unfold Work.opening
  split
  · have shared := w.applyBand.composeBlocks_shared
    simp only [Work.shared, w.applyBand_eq, Prod.mk.injEq] at shared
    obtain ⟨-, -, -, quotaBands, -, period, hostClose⟩ := shared
    have journal := w.applyBand.composeBlocks_journal
    rw [w.applyBand_eq] at journal
    exact ⟨w.blockBoundary_stamp, journal, quotaBands, period, hostClose⟩
  · exact ⟨rfl, rfl, rfl, rfl, rfl⟩

theorem Work.opening_leg : w.opening.leg l = { w.leg l with block := (w.opening.leg l).block } := by
  unfold Work.opening
  split
  · have leg := w.applyBand.composeBlocks_leg l
    rw [w.applyBand_leg] at leg
    have block := congrArg LegRecord.block leg
    exact leg.trans (congrArg (fun x => { w.leg l with block := x }) block.symm)
  · rfl

/-- The band, its schedule and the blocks before the closes (R159, R161, R173). -/
theorem Work.opening_block :
    (w.stamp.round % 64 = 0 →
      w.opening.blocks.band =
        ((w.blocks.bandPlan.filter fun e => e.boundary.le w.stamp).getLast?.map BandEntry.band).getD w.blocks.band ∧
      w.opening.blocks.bandPlan = (w.blocks.bandPlan.filter fun e => !(e.boundary.le w.stamp)) ∧
      (w.opening.leg l).block = composeBlock l w.opening.blocks.band w.stamp.cycle (w.leg l).hostBytes) ∧
    (w.stamp.round % 64 ≠ 0 → w.opening = w) := by
  unfold Work.opening
  refine ⟨fun h => ?_, fun h => if_neg h⟩
  rw [if_pos h]
  have shared := w.applyBand.composeBlocks_shared
  have block := congrArg LegRecord.block (w.applyBand.composeBlocks_leg l)
  rw [← Work.shared_band shared, w.applyBand_leg, w.applyBand_stamp] at block
  simp only [Work.shared, w.applyBand_eq, Prod.mk.injEq] at shared
  obtain ⟨-, -, band, -, bandPlan, -⟩ := shared
  exact ⟨band, bandPlan, block⟩

/-- What the closes of a boundary leave of all legs, and of the block of one. -/
theorem Work.boundaryCloses_kept :
    w.boundaryCloses.blocks.band = w.blocks.band ∧ w.boundaryCloses.blocks.bandPlan = w.blocks.bandPlan ∧
    w.boundaryCloses.blocks.quotaBands = w.blocks.quotaBands ∧ w.boundaryCloses.blocks.period = w.blocks.period ∧
    w.boundaryCloses.blocks.hostClose = Vector.replicate 4 false ∧ (w.boundaryCloses.leg l).block = (w.leg l).block := by
  have swept := Work.closesSwept_foldl (w.blocks.periodDue w.stamp) allPlaces w
  rw [Work.boundaryCloses_eq]
  generalize allPlaces.foldl (fun v p => v.closeFor (v.closeCause (w.blocks.periodDue w.stamp) p.1) p.1 p.2) w = v at swept ⊢
  obtain ⟨shared, legs, -, -⟩ := swept
  simp only [Work.shared, Prod.mk.injEq] at shared
  obtain ⟨-, -, band, quotaBands, bandPlan, period, -⟩ := shared
  exact ⟨band, bandPlan, quotaBands, period, rfl, (congrArg LegRecord.block (legs l)).trans rfl⟩

/-- The legs' turns leave what the legs share, and their announcement blocks. -/
theorem Work.boundary_kept : w.boundary.shared = w.boundaryOpened.shared ∧ (w.boundary.leg l).block = (w.boundaryOpened.leg l).block := by
  obtain ⟨v, hv, ht⟩ := w.boundary_at l
  have turned := Work.shared_of_outside (v.legBoundary_logs l).outside
  have block := congrArg LegRecord.block ht.leg
  exact ⟨(ht.shared.trans turned).trans hv.shared, (block.trans (v.legBoundary_block l)).trans (congrArg LegRecord.block hv.leg)⟩

end

/-- What a boundary makes of what the legs share, and of a leg's announcement block. -/
theorem Work.boundary_blocks (w : Work) (l : Leg) :
    w.boundary.blocks.quotaBands = w.blocks.quotaBands ∧ w.boundary.blocks.period = w.blocks.period ∧
    w.boundary.blocks.hostClose = Vector.replicate 4 false ∧ w.boundary.blocks.band = w.opening.blocks.band ∧
    w.boundary.blocks.bandPlan = w.opening.blocks.bandPlan ∧ (w.boundary.leg l).block = (w.opening.leg l).block := by
  obtain ⟨shared, block⟩ := w.boundary_kept l
  rw [Work.boundaryOpened_eq] at shared block
  obtain ⟨cband, cbandPlan, cquotaBands, cperiod, chostClose, cblock⟩ := w.opening.boundaryCloses_kept l
  obtain ⟨-, -, oquotaBands, operiod, -⟩ := w.opening_kept
  simp only [Work.shared, Prod.mk.injEq] at shared
  obtain ⟨-, -, band, quotaBands, bandPlan, period, hostClose⟩ := shared
  exact ⟨(quotaBands.trans cquotaBands).trans oquotaBands, (period.trans cperiod).trans operiod, hostClose.trans chostClose,
    band.trans cband, bandPlan.trans cbandPlan, block.trans cblock⟩

/-- A boundary as a meter that nothing touches sees it: its close comes at `v` in the sweep, and the journal grows by `new`, of which
`mine` are of its place. -/
structure Work.BoundaryAt (w : Work) (l : Leg) (d : Drop) (v : Work) (new mine : List JournalEntry) : Prop where
  reaches : w.SweepReaches l d v
  closes : (v.closeFor (w.closeCause (w.blocks.periodDue w.stamp) l) l d).blocks.journal.entries = v.blocks.journal.entries ++ mine
  meter : (v.closeFor (w.closeCause (w.blocks.periodDue w.stamp) l) l d).meter l d = none ∨
    w.boundary.meter l d = (v.closeFor (w.closeCause (w.blocks.periodDue w.stamp) l) l d).meter l d
  entries : w.boundary.blocks.journal.entries = w.blocks.journal.entries ++ new
  sorted : (new.filter fun e => !e.cause.ending).Pairwise fun a b => a.leg < b.leg ∨ a.leg = b.leg ∧ a.drop < b.drop
  mine : new.filter (JournalEntry.isAt l d) = mine

theorem Work.boundary_at_meter {w : Work} {l : Leg} {d : Drop} (h : (w.leg l).Untouched d) :
    ∃ v new mine, w.BoundaryAt l d v new mine := by
  have untouched : (w.boundaryOpened.leg l).Untouched d := h.of_sansMeters (w.boundaryOpened_sansMeters l)
  obtain ⟨⟨retired, hretired, ending⟩, stays⟩ := Work.boundary_besides untouched
  obtain ⟨stamp, journal, -, period, hostClose⟩ := w.opening_kept
  have meter : w.opening.meter l d = w.meter l d := congrArg (·.meters[d]) (w.opening_leg l)
  obtain ⟨v, mine, ⟨hstamp, hmeter, room, full⟩, closes, last, new, entries, own, sorted, causes⟩ := w.opening.boundaryCloses_at l d
  have due : w.opening.blocks.periodDue w.opening.stamp = w.blocks.periodDue w.stamp := by
    unfold Blocks.periodDue
    rw [stamp, period]
  have cause : w.opening.closeCause (w.blocks.periodDue w.stamp) l = w.closeCause (w.blocks.periodDue w.stamp) l := by
    unfold Work.closeCause
    rw [hostClose]
  rw [due, cause] at closes last
  rw [← Work.boundaryOpened_eq] at last entries
  rw [journal] at room full entries
  refine ⟨v, new ++ retired, mine, ⟨hstamp.trans stamp, hmeter.trans meter, room, full⟩, closes, ?_, ?_, ?_, ?_⟩
  · rwa [← last]
  · rw [hretired, entries, List.append_assoc]
  · rw [List.filter_append, List.filter_eq_self.mpr fun e he => by simp [causes e he],
      List.filter_eq_nil_iff.mpr fun e he => by simp [(ending e he).1], List.append_nil]
    exact sorted
  · rw [List.filter_append, own, List.filter_eq_nil_iff.mpr fun e he => by simp [(ending e he).2], List.append_nil]

section
variable {w v : Work} {l : Leg} {d : Drop} {m : Meter} {new mine : List JournalEntry}

/-- A boundary without a close for the meter. -/
theorem Work.BoundaryAt.unclosed (h : w.BoundaryAt l d v new mine) (hm : w.meter l d = some m)
    (hc : w.closeCause (w.blocks.periodDue w.stamp) l = none) : w.boundary.meter l d = some m ∧ mine = [] := by
  obtain ⟨reaches, closes, meter, -, -, -⟩ := h
  have hv := reaches.meter.trans hm
  rw [hc] at closes meter
  exact ⟨(meter.resolve_left (by simp [Work.closeFor, hv])).trans hv, List.self_eq_append_right.mp closes⟩

/-- A boundary that closes the meter with a continuing cause. -/
theorem Work.BoundaryAt.closed {c : CloseCause} (h : w.BoundaryAt l d v new mine)
    (hc : w.closeCause (w.blocks.periodDue w.stamp) l = some c) :
    ((v.closing l d c).left = none ∨ w.boundary.meter l d = (v.closing l d c).left) ∧ mine = v.closeEntries l d c := by
  obtain ⟨-, closes, meter, -, -, -⟩ := h
  rw [hc] at closes meter
  have entries := (v.closeMeter_spec l d c).entries
  refine ⟨?_, List.append_cancel_left (closes.symm.trans entries)⟩
  rw [← Work.closeMeter_meter]
  exact meter

end

/-- The round counter moves one on, through its wrap (R1). -/
theorem Timebase.nextRound_round {t : Timebase} (h : t.round ≤ 4095) : t.nextRound.round = (t.round + 1) % 4096 := by
  simp only [Timebase.nextRound]
  split <;> omega

/-- Whether the periodic close falls due. -/
theorem Blocks.periodDue_iff {b : Blocks} {t : Stamp} :
    b.periodDue t = true ↔ t.round = 0 ∧ b.period ≠ 0 ∧ t.cycle ≠ 0 ∧ b.period ∣ t.cycle := by
  simp [Blocks.periodDue, Nat.dvd_iff_mod_eq_zero, and_assoc]

end Sys2Proof.Machine

open Sys2Proof Sys2Proof.Machine

/-- Settles O17: the counters and what all legs share by the frames of a boundary's parts, the blocks by their composition, and a meter by
its place in the sweep of the closes and by the turns of the legs, which leave it. -/
theorem boundariesAdvanceCountersAndBlocks : Obligations.BoundariesAdvanceCountersAndBlocks := by
  refine ⟨fun s hr hok => ?_, fun s hr hok => ⟨fun h63 => ?_, fun h63 => ?_⟩, fun l d m s hr hok hm hf ho hh hb => ?_⟩
  · obtain ⟨t, he, -, hblocks, -⟩ := exec_roundBoundary_next hr
    obtain ⟨quotaBands, period, -⟩ := (Work.start s.blocks.atNextRound).boundary_blocks 0
    have round := hok.round
    have next := Timebase.nextRound_round round
    have time : t.blocks.time = s.blocks.time.nextRound := (congrArg Blocks.time hblocks).trans (boundary_time _)
    refine ⟨t, he, ?_, ?_, ?_, ?_, ?_, ?_, (congrArg Blocks.quotaBands hblocks).trans quotaBands,
      (congrArg Blocks.period hblocks).trans period, fun h63 => ?_, fun h95 => ?_⟩
    · rw [time]
      rfl
    · rw [time, next]
    · rw [time]
      by_cases h95 : s.blocks.time.round = 4095
      · rw [if_pos h95]
        exact if_pos (by omega)
      · rw [if_neg h95]
        exact if_neg (by omega)
    · rw [time]
      exact hr
    · rw [time]
      rfl
    · rw [time]
      rfl
    · rw [← he]
      exact congrArg Host.Outcome.next (if_pos (by rw [next]; omega))
    · rw [← he]
      exact congrArg Host.Outcome.next (if_pos (by rw [next]; omega))
  · obtain ⟨t, he, hleg, hblocks, -⟩ := exec_roundBoundary_next hr
    have hnow : (Work.start s.blocks.atNextRound).stamp = s.boundary := nextRound_now hok
    have next : s.blocks.time.nextRound.round % 64 = 0 := by
      rw [Timebase.nextRound_round hok.round]
      omega
    have opened (l : Leg) := ((Work.start s.blocks.atNextRound).opening_block l).1 next
    rw [hnow] at opened
    have shared (l : Leg) := (Work.start s.blocks.atNextRound).boundary_blocks l
    generalize Work.boundary (Work.start s.blocks.atNextRound) = w at hleg hblocks shared
    obtain ⟨-, -, -, band, bandPlan, -⟩ := shared 0
    obtain ⟨oband, obandPlan, -⟩ := opened 0
    have hband : t.blocks.band = _ := ((congrArg Blocks.band hblocks).trans band).trans oband
    refine ⟨t, (congrArg Host.Outcome.next (if_pos next)).trans he, fun e hl => ?_, fun hnil => ?_,
      ((congrArg Blocks.bandPlan hblocks).trans bandPlan).trans obandPlan, fun l => ?_⟩
    · exact hband.trans (congrArg (fun o => (Option.map BandEntry.band o).getD s.blocks.band) hl)
    · exact hband.trans (congrArg (fun es => (Option.map BandEntry.band (List.getLast? es)).getD s.blocks.band) hnil)
    · obtain ⟨-, -, -, -, -, block⟩ := shared l
      obtain ⟨-, -, oblock⟩ := opened l
      rw [hleg, block, oblock, hband, oband]
      rfl
  · obtain ⟨t, he, hleg, hblocks, -⟩ := exec_roundBoundary_next hr
    have next : s.blocks.time.nextRound.round % 64 ≠ 0 := by
      have := hok.round
      rw [Timebase.nextRound_round hok.round]
      omega
    have opened := ((Work.start s.blocks.atNextRound).opening_block 0).2 next
    have shared (l : Leg) := (Work.start s.blocks.atNextRound).boundary_blocks l
    rw [opened] at shared
    generalize Work.boundary (Work.start s.blocks.atNextRound) = w at hleg hblocks shared
    obtain ⟨-, -, -, band, bandPlan, -⟩ := shared 0
    refine ⟨t, he, (congrArg Blocks.band hblocks).trans band, (congrArg Blocks.bandPlan hblocks).trans bandPlan, fun l => ?_⟩
    obtain ⟨-, -, -, -, -, block⟩ := shared l
    rw [hleg]
    exact block
  · obtain ⟨t, he, hleg, hblocks, -⟩ := exec_roundBoundary_next hr
    have hnow : (Work.start s.blocks.atNextRound).stamp = s.boundary := nextRound_now hok
    have untouched : ((Work.start s.blocks.atNextRound).leg l).Untouched d :=
      ⟨hf, fun e he ha c hc e' => by subst e'; exact absurd ((ho e he hc).symm.trans ha) Bool.false_ne_true, hh, hb⟩
    obtain ⟨v, new, mine, seen⟩ := Work.boundary_at_meter untouched
    have meter : (Work.start s.blocks.atNextRound).meter l d = some m := hm
    obtain ⟨stamp, hv, room, full⟩ := seen.reaches
    rw [hnow] at stamp
    rw [meter] at hv
    have tmeter : t.meter l d = (Work.boundary (Work.start s.blocks.atNextRound)).meter l d :=
      congrArg (fun r : LegRecord => r.meters[d]) (hleg l)
    have due : (Work.start s.blocks.atNextRound).blocks.periodDue (Work.start s.blocks.atNextRound).stamp = true ↔
        s.boundary.round = 0 ∧ s.blocks.period ≠ 0 ∧ s.boundary.cycle ≠ 0 ∧ s.blocks.period ∣ s.boundary.cycle := by
      rw [hnow]
      exact Blocks.periodDue_iff
    obtain ⟨-, -, hostClose, -⟩ := (Work.start s.blocks.atNextRound).boundary_blocks l
    refine ⟨t, new, he, fun k => ?_, (congrArg (fun b : Blocks => b.journal.entries) hblocks).trans seen.entries, seen.sorted,
      fun hdue hhost => ?_, fun cause hcause => ?_⟩
    · rw [hblocks, hostClose]
      exact Vector.getElem_replicate k.isLt
    · obtain ⟨stays, own⟩ := seen.unclosed meter (Work.closeCause_none (mt due.mp hdue) hhost)
      exact ⟨tmeter.trans stays, seen.mine.trans own⟩
    · obtain ⟨hc, ending⟩ : (Work.start s.blocks.atNextRound).closeCause
          ((Work.start s.blocks.atNextRound).blocks.periodDue (Work.start s.blocks.atNextRound).stamp) l = some cause ∧
          cause.ending = false := by
        rcases hcause with ⟨hdue, rfl⟩ | ⟨hdue, hhost, rfl⟩
        · exact ⟨Work.closeCause_period (due.mpr hdue), rfl⟩
        · exact ⟨Work.closeCause_host (mt due.mp hdue) hhost, rfl⟩
      obtain ⟨left, own⟩ := seen.closed hc
      have own := seen.mine.trans own
      have becomes {m' : Meter} (h : (v.closing l d cause).left = some m') : t.meter l d = some m' :=
        (tmeter.trans (left.resolve_left (by simp [h]))).trans h
      refine ⟨fun hp => becomes (by rw [Work.closing_held hv ending hp]), fun hp hu hflags => ?_, fun hp hu => ⟨fun hlen hseq => ?_,
        fun hfull => ?_⟩⟩
      · rw [← stamp]
        exact becomes (by rw [Work.closing_idle hv ending hp hu hflags])
      · have written := Work.closing_due hv ending hp hu
        rw [if_pos (room hlen hseq)] at written
        rw [Work.closeEntries_of_written hv written] at own
        refine ⟨⟨v.blocks.journal.nextSeq, ?_⟩, _, becomes (by rw [written]), Meter.restarted_usage m _ _, stamp, rfl, rfl, rfl, rfl⟩
        rw [← stamp]
        exact own
      · have held := Work.closing_due hv ending hp hu
        rw [if_neg (by rw [full hfull]; exact Bool.false_ne_true)] at held
        rw [← stamp]
        exact becomes (by rw [held]; rfl)

end

section
set_option Elab.async false -- one theorem after another: side by side they ask for more threads than the check's memory limit grants
/-! PROOFS. The bindings of enrolment and drop entries as a property of the work: the changes that keep them, said once (R24, R144, R145). -/

namespace Sys2Proof.Machine

/-! ### What the bindings are made of -/

/-- The search of a monitor holds a drop: as a candidate of a hunt, or as the suspect of a check (R145, R147). -/
def Monitor.Searches (m : Monitor) (d : Drop) : Prop :=
  (m.state = .hunting ∧ ∃ cs, m.candidates = some cs ∧ d ∈ cs) ∨ (m.state = .verifying ∧ m.suspectDrop = some d)

theorem Monitor.not_searches {m : Monitor} {d : Drop} (h : m.state.searching = false) : ¬m.Searches d := by
  rintro (⟨hs, -⟩ | ⟨hs, -⟩) <;> rw [hs] at h <;> cases h

theorem Monitor.searches_hunting {m : Monitor} {cs : List Drop} {d : Drop} (h : m.state = .hunting) (hcs : m.candidates = some cs) :
    m.Searches d ↔ d ∈ cs := by
  simp [Monitor.Searches, h, hcs]

theorem Monitor.searches_verifying {m : Monitor} {d : Drop} (h : m.state = .verifying) : m.Searches d ↔ m.suspectDrop = some d := by
  simp [Monitor.Searches, h]

/-- What the bindings read of an enrolment entry. -/
def EnrolEntry.tie (e : EnrolEntry) : Serial × Option (Leg × Drop) := (e.serial, e.binding)

/-- What the bindings read of a drop entry. -/
def DropEntry.tie (e : DropEntry) : DropState × Option (Fin 512) × Option Serial × Option DropState :=
  (e.state, e.enrolRef, e.serial, e.resume.map Resume.state)

/-- The bindings agree on both sides, and what the searches hold may be held, but for one drop that `gone` names: it entered RETIRING or
QUARANTINED in the event and has not left the search yet. The drops of `used` are known to be in use throughout a stretch of work. -/
structure Work.Bound (gone : Option (Leg × Drop)) (used : Leg → Drop → Prop) (w : Work) : Prop where
  listed   : ∀ (i : Fin 512) (e : EnrolEntry) (l : Leg) (d : Drop), w.blocks.enrol[i] = some e → e.binding = some (l, d) →
    (w.drop l d).enrolRef = some i ∧ (w.drop l d).serial = some e.serial
  bound    : ∀ (l : Leg) (d : Drop) (i : Fin 512), (w.drop l d).enrolRef = some i →
    ∃ e, w.blocks.enrol[i] = some e ∧ e.binding = some (l, d)
  vacant   : ∀ (l : Leg) (d : Drop), (w.drop l d).state = .vacant ↔ (w.drop l d).enrolRef = none
  resumes  : ∀ (l : Leg) (d : Drop) (r : Resume), (w.drop l d).resume = some r → r.state.hushable = true
  searched : ∀ (l : Leg) (d : Drop), gone ≠ some (l, d) → (w.leg l).monitor.Searches d → (w.drop l d).state.candidate = true
  inUse    : ∀ (l : Leg) (d : Drop), used l d → (w.drop l d).enrolRef ≠ none

/-- The bindings of a work agree, with nothing excepted. -/
abbrev Work.Tied (w : Work) : Prop := w.Bound none fun _ _ => False

/-- The invariant of the state is that of the work on its blocks. -/
theorem State.bindingsOk_iff {s : State} {w : Work} (hw : w.blocks = s.blocks) : s.BindingsOk ↔ w.Tied := by
  obtain ⟨b, t, ns⟩ := w
  obtain rfl : b = s.blocks := hw
  constructor
  · intro h
    refine ⟨h.listed, h.bound, h.vacant, h.resumes, fun l d _ hs => ?_, nofun⟩
    rcases hs with ⟨hs, cs, hcs, hd⟩ | ⟨hs, hd⟩
    · exact h.candidates l cs hs hcs d hd
    · exact h.suspect l d hs hd
  · intro h
    exact ⟨h.listed, h.bound, h.vacant, h.resumes, fun l cs hs hcs d hd => h.searched l d nofun (.inl ⟨hs, cs, hcs, hd⟩),
      fun l d hs hd => h.searched l d nofun (.inr ⟨hs, hd⟩)⟩

/-- An entry changed to another state of an entry in use, bound as it was. -/
structure DropEntry.Restates (e e' : DropEntry) : Prop where
  ref : e'.enrolRef = e.enrolRef := by rfl
  serial : e'.serial = e.serial := by rfl
  state : e'.state ≠ .vacant := by nofun
  resumes : ∀ r, e'.resume = some r → r.state.hushable = true := by nofun

theorem Work.drop_mapDrop (w : Work) (l k : Leg) (d c : Drop) (f : DropEntry → DropEntry) :
    (w.mapDrop l d f).drop k c = if k = l ∧ c = d then f (w.drop l d) else w.drop k c := by
  by_cases hk : k = l
  · subst hk
    by_cases hc : c = d
    · rw [hc, Work.drop_mapDrop_self, if_pos ⟨rfl, rfl⟩]
    · rw [Work.drop_mapDrop_of_ne w k d c f hc, if_neg (fun h => hc h.2)]
  · rw [if_neg (fun h => hk h.1), Work.mapDrop_eq, Work.drop, Work.leg_mapLeg_of_ne w l k _ hk]
    rfl

theorem Work.monitor_mapDrop (w : Work) (l k : Leg) (d : Drop) (f : DropEntry → DropEntry) :
    ((w.mapDrop l d f).leg k).monitor = (w.leg k).monitor := by
  by_cases hk : k = l
  · subst hk
    rw [Work.mapDrop_eq, Work.leg_mapLeg_self]
  · rw [Work.mapDrop_eq, Work.leg_mapLeg_of_ne w l k _ hk]

namespace Work.Bound

variable {w w' : Work} {l : Leg} {d : Drop} {g : Option (Leg × Drop)} {u : Leg → Drop → Prop}

/-! ### Changes that leave what the bindings read -/

/-- Work that leaves what the bindings read, and puts no drop in a search that may not be held, keeps them. -/
theorem of_ties (h : w.Bound g u) (he : ∀ i : Fin 512, w'.blocks.enrol[i].map EnrolEntry.tie = w.blocks.enrol[i].map EnrolEntry.tie)
    (hd : ∀ k c, (w'.drop k c).tie = (w.drop k c).tie)
    (hm : ∀ k c, (w'.leg k).monitor.Searches c → (w.leg k).monitor.Searches c ∨ (w.drop k c).state.candidate = true) :
    w'.Bound g u := by
  have state k c : (w'.drop k c).state = (w.drop k c).state := congrArg (·.1) (hd k c)
  have ref k c : (w'.drop k c).enrolRef = (w.drop k c).enrolRef := congrArg (·.2.1) (hd k c)
  have serial k c : (w'.drop k c).serial = (w.drop k c).serial := congrArg (·.2.2.1) (hd k c)
  have resume k c : (w'.drop k c).resume.map Resume.state = (w.drop k c).resume.map Resume.state := congrArg (·.2.2.2) (hd k c)
  refine ⟨fun i e k c hi hb => ?_, fun k c i hi => ?_, fun k c => ?_, fun k c r hr => ?_, fun k c hg hs => ?_, fun k c hu => ?_⟩
  · have := he i
    rw [hi, Option.map_some, eq_comm, Option.map_eq_some_iff] at this
    obtain ⟨x, hx, ht⟩ := this
    obtain ⟨h1, h2⟩ := h.listed i x k c hx ((congrArg Prod.snd ht).trans hb)
    exact ⟨(ref k c).trans h1, (serial k c).trans (h2.trans (congrArg some (congrArg Prod.fst ht)))⟩
  · obtain ⟨x, hx, hb⟩ := h.bound k c i ((ref k c).symm.trans hi)
    have := he i
    rw [hx, Option.map_some, Option.map_eq_some_iff] at this
    obtain ⟨e, hi, ht⟩ := this
    exact ⟨e, hi, (congrArg Prod.snd ht).trans hb⟩
  · rw [state, ref]
    exact h.vacant k c
  · have := resume k c
    rw [hr, Option.map_some, eq_comm, Option.map_eq_some_iff] at this
    obtain ⟨x, hx, hs⟩ := this
    rw [← hs]
    exact h.resumes k c x hx
  · rw [state]
    rcases hm k c hs with hs | hc
    · exact h.searched k c hg hs
    · exact hc
  · rw [ref]
    exact h.inUse k c hu

/-- Only the enrolment list and the legs are read. -/
theorem of_blocks (h : w.Bound g u) (he : w'.blocks.enrol = w.blocks.enrol := by rfl) (hl : w'.blocks.legs = w.blocks.legs := by rfl) :
    w'.Bound g u := by
  have leg k : w'.leg k = w.leg k := by rw [Work.leg, hl]; rfl
  exact h.of_ties (fun i => by rw [he]) (fun k c => by rw [drop, leg]; rfl) fun k c hs => .inl (leg k ▸ hs)

theorem raise {a : Option Leg} {b : Option Drop} {n : NoticeBody} (h : w.Bound g u) : (w.raise a b n).Bound g u := h.of_blocks

theorem raiseDropState {m : Option Bool} (h : w.Bound g u) : (w.raiseDropState l d m).Bound g u := h.raise

theorem mapJournal {f : Journal → Journal} (h : w.Bound g u) : (w.mapJournal f).Bound g u := h.of_blocks

/-- A change of a leg that leaves what the bindings read of its entries, and of its monitor no more than may be held. -/
theorem mapLeg {f : LegRecord → LegRecord} (h : w.Bound g u)
    (hd : ∀ c : Drop, (f (w.leg l)).drops[c].tie = (w.leg l).drops[c].tie := by exact fun _ => rfl)
    (hm : ∀ c : Drop, (f (w.leg l)).monitor.Searches c →
      (w.leg l).monitor.Searches c ∨ (w.drop l c).state.candidate = true := by exact fun _ => .inl) :
    (w.mapLeg l f).Bound g u := by
  refine h.of_ties (fun i => rfl) (fun k c => ?_) (fun k c hs => ?_)
  · by_cases hk : k = l
    · subst hk
      rw [drop, leg_mapLeg_self]
      exact hd c
    · rw [drop, leg_mapLeg_of_ne w l k f hk]
      rfl
  · by_cases hk : k = l
    · subst hk
      rw [leg_mapLeg_self] at hs
      exact hm c hs
    · rw [leg_mapLeg_of_ne w l k f hk] at hs
      exact .inl hs

theorem mapMonitor {f : Monitor → Monitor} (h : w.Bound g u)
    (hm : ∀ c : Drop, (f (w.leg l).monitor).Searches c →
      (w.leg l).monitor.Searches c ∨ (w.drop l c).state.candidate = true := by exact fun _ => .inl) :
    (w.mapMonitor l f).Bound g u := h.mapLeg (hm := hm)

/-- A monitor that stands in no search holds no drop. -/
theorem mapMonitor_idle {f : Monitor → Monitor} (h : w.Bound g u) (hf : (f (w.leg l).monitor).state.searching = false := by rfl) :
    (w.mapMonitor l f).Bound g u := h.mapMonitor fun _ hs => absurd hs (Monitor.not_searches hf)

theorem mapControl {f : LegControl → LegControl} (h : w.Bound g u) : (w.mapControl l f).Bound g u := h.mapLeg

theorem mapStats {f : WindowStats → WindowStats} (h : w.Bound g u) : (w.mapStats l f).Bound g u := h.mapLeg

theorem setMeter {m : Option Meter} (h : w.Bound g u) : (w.setMeter l d m).Bound g u := h.mapLeg

theorem mapLanesOf {f : Lane → Lane} (h : w.Bound g u) : (w.mapLanesOf l d f).Bound g u := h.mapLeg

/-- An entry changed in what the bindings do not read. -/
theorem mapDrop {f : DropEntry → DropEntry} (h : w.Bound g u)
    (hf : (f (w.drop l d)).tie = (w.drop l d).tie := by rfl) : (w.mapDrop l d f).Bound g u := by
  refine h.mapLeg (fun c => ?_)
  dsimp only
  rw [get_set]
  split
  · next hc => rw [hc]; exact hf
  · rfl

theorem foldl {α : Type} {xs : List α} {f : Work → α → Work} (h : w.Bound g u) (hf : ∀ w, ∀ x ∈ xs, w.Bound g u → (f w x).Bound g u) :
    (xs.foldl f w).Bound g u := List.foldlRecOn xs f h fun _ hb x hx => hf _ x hx hb

theorem forDrops {ds : List Drop} {f : Drop → Work → Work} (h : w.Bound g u) (hf : ∀ w, ∀ d ∈ ds, w.Bound g u → (f d w).Bound g u) :
    (forDrops ds f w).Bound g u := h.foldl hf

theorem forLegs {f : Leg → Work → Work} (h : w.Bound g u) (hf : ∀ l w, w.Bound g u → (f l w).Bound g u) : (forLegs f w).Bound g u :=
  forLegs_preserves (Bound g u) f hf w h

/-! ### An entry in use that changes its state -/

/-- An entry in use takes another state: one that a search may hold, or the drop is in no search. -/
theorem restate {f : DropEntry → DropEntry} (h : w.Bound g u) (hd : (w.drop l d).state ≠ .vacant)
    (hf : (w.drop l d).Restates (f (w.drop l d)) := by exact {})
    (hc : (f (w.drop l d)).state.candidate = true ∨ g = some (l, d) ∨ ¬(w.leg l).monitor.Searches d := by exact .inl rfl) :
    (w.mapDrop l d f).Bound g u := by
  have ref k c : ((w.mapDrop l d f).drop k c).enrolRef = (w.drop k c).enrolRef := by
    rw [drop_mapDrop]
    split
    · next hk => rw [hk.1, hk.2, hf.ref]
    · rfl
  have serial k c : ((w.mapDrop l d f).drop k c).serial = (w.drop k c).serial := by
    rw [drop_mapDrop]
    split
    · next hk => rw [hk.1, hk.2, hf.serial]
    · rfl
  refine ⟨fun i e k c hi hb => ?_, fun k c i hi => ?_, fun k c => ?_, fun k c r hr => ?_, fun k c hg hs => ?_, fun k c hu => ?_⟩
  · rw [ref, serial]
    exact h.listed i e k c hi hb
  · exact h.bound k c i ((ref k c).symm.trans hi)
  · rw [ref, ← h.vacant, drop_mapDrop]
    split
    · next hk => rw [hk.1, hk.2]; exact iff_of_false hf.state hd
    · rfl
  · rw [drop_mapDrop] at hr
    split at hr
    · exact hf.resumes r hr
    · exact h.resumes k c r hr
  · rw [monitor_mapDrop] at hs
    rw [drop_mapDrop]
    split
    · next hk =>
      obtain ⟨rfl, rfl⟩ := hk
      rcases hc with hc | hc | hc
      · exact hc
      · exact absurd hc hg
      · exact absurd hs hc
    · exact h.searched k c hg hs
  · rw [ref]
    exact h.inUse k c hu

/-- A drop that left the search needs no exception. -/
theorem settle (h : w.Bound g u) (hg : ∀ l d, g = some (l, d) → ¬(w.leg l).monitor.Searches d) : w.Bound none u :=
  { h with searched := fun l d _ hs => h.searched l d (fun e => hg l d e hs) hs }

/-- Fewer drops known to be in use. -/
theorem weaken {v : Leg → Drop → Prop} (h : w.Bound g u) (hv : ∀ l d, v l d → u l d := by exact fun _ _ => False.elim) : w.Bound g v :=
  { h with inUse := fun l d hd => h.inUse l d (hv l d hd) }

/-- The drops in use now. -/
theorem useNow (h : w.Bound g u) : w.Bound g fun l d => u l d ∨ (w.drop l d).state ≠ .vacant :=
  { h with inUse := fun l d hd => hd.elim (h.inUse l d) (mt (h.vacant l d).mpr) }

theorem used (h : w.Bound g u) (hd : u l d) : (w.drop l d).state ≠ .vacant := mt (h.vacant l d).mp (h.inUse l d hd)

theorem except (h : w.Bound none u) : w.Bound g u := { h with searched := fun l d _ hs => h.searched l d nofun hs }

/-- An entry that no search may hold is in none. -/
theorem not_searches (h : w.Bound none u) (hd : (w.drop l d).state.candidate = false) : ¬(w.leg l).monitor.Searches d := fun hs => by
  rw [h.searched l d nofun hs] at hd
  cases hd

/-! ### An entry that leaves its enrolment entry, and one that takes it -/

/-- Both sides of the binding of an entry given up (R24). -/
theorem unbound_vacant {t : Stamp} (h : w.Bound none u) (hn : ¬(w.leg l).monitor.Searches d) (hd : ¬u l d) :
    ((w.unbound l d).mapDrop l d fun _ => DropEntry.vacant t).Bound none u := by
  have enrol : ∀ i : Fin 512, (w.drop l d).enrolRef ≠ some i → (w.unbound l d).blocks.enrol[i] = w.blocks.enrol[i] := by
    intro i hi
    rw [unbound]
    split
    · next j hj =>
      have : j.val ≠ i.val := fun e => hi (by rw [hj, Fin.ext e])
      simp [mapEnrol, Vector.getElem_set_ne, this]
    · rfl
  have free : ∀ (i : Fin 512) (e : EnrolEntry), (w.unbound l d).blocks.enrol[i] = some e → (w.drop l d).enrolRef = some i →
      e.binding = none := by
    intro i e he hi
    rw [unbound, hi] at he
    simp only [mapEnrol, Fin.getElem_fin, Vector.getElem_set_self, Option.map_eq_some_iff] at he
    obtain ⟨x, -, rfl⟩ := he
    rfl
  have entry k c : ((w.unbound l d).mapDrop l d fun _ => DropEntry.vacant t).drop k c =
      if k = l ∧ c = d then DropEntry.vacant t else w.drop k c := by
    rw [drop_mapDrop, drop, unbound_leg]
    rfl
  refine ⟨fun i e k c hi hb => ?_, fun k c i hi => ?_, fun k c => ?_, fun k c r hr => ?_, fun k c _ hs => ?_, fun k c hu => ?_⟩
  · change (w.unbound l d).blocks.enrol[i] = some e at hi
    have hne : (w.drop l d).enrolRef ≠ some i := fun hr => by rw [free i e hi hr] at hb; cases hb
    rw [enrol i hne] at hi
    obtain ⟨h1, h2⟩ := h.listed i e k c hi hb
    rw [entry, if_neg (by rintro ⟨rfl, rfl⟩; exact hne h1)]
    exact ⟨h1, h2⟩
  · rw [entry] at hi
    split at hi
    · cases hi
    · next hk =>
      obtain ⟨e, he, hb⟩ := h.bound k c i hi
      refine ⟨e, (enrol i fun hr => ?_).trans he, hb⟩
      obtain ⟨x, hx, hxb⟩ := h.bound l d i hr
      obtain rfl : e = x := Option.some_inj.mp (he.symm.trans hx)
      rw [hxb] at hb
      cases hb
      exact hk ⟨rfl, rfl⟩
  · rw [entry]
    split
    · exact iff_of_true rfl rfl
    · exact h.vacant k c
  · rw [entry] at hr
    split at hr
    · cases hr
    · exact h.resumes k c r hr
  · rw [monitor_mapDrop, unbound_leg] at hs
    rw [entry]
    split
    · next hk =>
      obtain ⟨rfl, rfl⟩ := hk
      exact absurd hs hn
    · exact h.searched k c nofun hs
  · rw [entry, if_neg (by rintro ⟨rfl, rfl⟩; exact hd hu)]
    exact h.inUse k c hu

theorem setLeg {st : LegState} {cause : Option FaultCause} {n : Nat} (h : w.Bound g u) : (w.setLeg l st cause n).Bound g u :=
  h.mapControl.raise

theorem drained (h : w.Bound g u) : (w.drained l).Bound g u := by
  unfold Work.drained
  split
  · exact h.setLeg
  · exact h

/-- An entry that no search holds becomes VACANT. -/
theorem vacate (h : w.Bound none u) (hn : ¬(w.leg l).monitor.Searches d) (hd : ¬u l d := by exact id) :
    (w.vacate l d).Bound none u :=
  ((h.unbound_vacant hn hd).mapLeg (f := _)).raiseDropState.drained

/-- An unbound enrolment entry claims a VACANT drop entry (R24, R28). -/
theorem bind {i : Fin 512} {e : EnrolEntry} {f : DropEntry → DropEntry} (h : w.Bound none u) (hi : w.blocks.enrol[i] = some e)
    (hb : e.binding = none) (hd : (w.drop l d).state = .vacant) (hs : (f (w.drop l d)).state = .found)
    (hser : (f (w.drop l d)).serial = some e.serial) (href : (f (w.drop l d)).enrolRef = some i)
    (hr : (f (w.drop l d)).resume = none) :
    ((w.mapEnrol i fun e => { e with binding := some (l, d) }).mapDrop l d f).Bound none u := by
  have free : (w.drop l d).enrolRef = none := (h.vacant l d).mp hd
  have enrol : ∀ j : Fin 512, (w.mapEnrol i fun e => { e with binding := some (l, d) }).blocks.enrol[j] =
      if j = i then some { e with binding := some (l, d) } else w.blocks.enrol[j] := by
    intro j
    by_cases hj : j = i
    · rw [if_pos hj, hj, mapEnrol_enrol_self, hi]
      rfl
    · rw [if_neg hj]
      have : i.val ≠ j.val := fun e => hj (Fin.ext e.symm)
      simp [mapEnrol, Vector.getElem_set_ne, this]
  have entry k c : ((w.mapEnrol i fun e => { e with binding := some (l, d) }).mapDrop l d f).drop k c =
      if k = l ∧ c = d then f (w.drop l d) else w.drop k c := by
    rw [drop_mapDrop]
    rfl
  refine ⟨fun j x k c hj hxb => ?_, fun k c j hj => ?_, fun k c => ?_, fun k c r hkr => ?_, fun k c _ hks => ?_, fun k c hu => ?_⟩
  · change (w.mapEnrol i _).blocks.enrol[j] = some x at hj
    rw [enrol] at hj
    split at hj
    · next hji =>
      cases hj
      cases hxb
      rw [entry, if_pos ⟨rfl, rfl⟩, href, hser, hji]
      exact ⟨rfl, rfl⟩
    · obtain ⟨h1, h2⟩ := h.listed j x k c hj hxb
      rw [entry, if_neg (by rintro ⟨rfl, rfl⟩; rw [free] at h1; cases h1)]
      exact ⟨h1, h2⟩
  · change ∃ e, (w.mapEnrol i _).blocks.enrol[j] = some e ∧ e.binding = some (k, c)
    rw [enrol]
    rw [entry] at hj
    split at hj
    · next hk =>
      rw [href] at hj
      cases hj
      rw [if_pos rfl]
      exact ⟨_, rfl, by rw [hk.1, hk.2]⟩
    · obtain ⟨x, hx, hxb⟩ := h.bound k c j hj
      have hne : j ≠ i := by
        rintro rfl
        rw [Option.some_inj.mp (hx.symm.trans hi), hb] at hxb
        cases hxb
      rw [if_neg hne]
      exact ⟨x, hx, hxb⟩
  · rw [entry]
    split
    · exact iff_of_false (by rw [hs]; nofun) (by rw [href]; nofun)
    · exact h.vacant k c
  · rw [entry] at hkr
    split at hkr
    · rw [hr] at hkr; cases hkr
    · exact h.resumes k c r hkr
  · rw [monitor_mapDrop] at hks
    rw [entry]
    split
    · rw [hs]; rfl
    · exact h.searched k c nofun hks
  · rw [entry]
    split
    · rw [href]; nofun
    · exact h.inUse k c hu

theorem forget (h : w.Bound g u) : (w.forget l d).Bound g u := h.mapLeg

theorem claim {i : Fin 512} {e : EnrolEntry} {power : Nat} (h : w.Bound none u) (hi : w.blocks.enrol[i] = some e)
    (hb : e.binding = none) (hd : (w.drop l d).state = .vacant) : (w.claim l d i e.serial power).Bound none u :=
  (h.bind hi hb hd rfl rfl rfl rfl).forget.raiseDropState

end Work.Bound

end Sys2Proof.Machine
end

section
set_option Elab.async false -- one theorem after another: side by side they ask for more threads than the check's memory limit grants
/-! PROOFS. Every operation of the blocks keeps the bindings two-sided (R24, R144, R145). -/

namespace Sys2Proof.Machine

theorem DropState.ne_vacant_of_heard {st : DropState} (h : st.heard = true) : st ≠ .vacant := by
  rintro rfl
  cases h

theorem DropState.ne_vacant_of_hushable {st : DropState} (h : st.hushable = true) : st ≠ .vacant := by
  rintro rfl
  cases h

theorem DropState.candidate_of_hushable {st : DropState} (h : st.hushable = true) : st.candidate = true := by
  cases st <;> first | rfl | cases h

theorem DropEntry.resumeOf_hushable {e : DropEntry} (h : e.state.hushable = true) : e.resumeOf.state.hushable = true := by
  unfold DropEntry.resumeOf
  dsimp only
  split
  · rfl
  · exact h

namespace Work.Bound

variable {w : Work} {l : Leg} {d : Drop} {g : Option (Leg × Drop)} {u : Leg → Drop → Prop}

/-! ### Orders and owed orders -/

theorem queueOrder {e : OrderEntry} (h : w.Bound g u) : (w.queueOrder l e).Bound g u := h.mapLeg

theorem removeOrders {k : OrderKind} (h : w.Bound g u) : (w.removeOrders l d k).Bound g u := h.mapLeg

theorem purge (h : w.Bound g u) : (w.purge l d).Bound g u := h.mapLeg

theorem generate {k : OwedKind} (h : w.Bound g u) : (w.generate l d k).Bound g u := by
  unfold Work.generate
  split
  · exact h
  · split
    · exact h.queueOrder
    · split
      · exact h
      · exact h.mapLeg

/-! ### Meters and the journal -/

theorem judgeLevel (h : w.Bound g u) : w.judgeLevel.Bound g u := by
  unfold Work.judgeLevel
  dsimp only
  split
  · exact h.mapJournal
  · split
    · exact h.mapJournal.raise
    · exact h

theorem writeEntry {m : Meter} {c : CloseCause} (h : w.Bound g u) : (w.writeEntry l d m c).Bound g u := h.mapJournal.judgeLevel

theorem afterWritten {m : Meter} {c : CloseCause} (h : w.Bound g u) : (w.afterWritten l d m c).Bound g u := by
  unfold Work.afterWritten
  split <;> exact h.setMeter

theorem closeMeter {c : CloseCause} (h : w.Bound g u) : (w.closeMeter l d c).1.Bound g u := by
  unfold Work.closeMeter
  split
  · exact h
  · split
    · split
      · split <;> exact h.setMeter
      · exact h
    · split
      · exact h.setMeter
      · split
        · exact h.setMeter
        · split
          · exact h.writeEntry.afterWritten
          · exact h.setMeter.raise

theorem judgeQuota (h : w.Bound g u) : (w.judgeQuota l d).Bound g u := by
  unfold Work.judgeQuota
  split
  · exact h
  · split
    · exact h
    · split
      · exact h.setMeter.raise
      · exact h

theorem charge {up : Bool} {n : Nat} {b : Fin 4} (h : w.Bound g u) : (w.charge l d up n b).Bound g u := by
  unfold Work.charge
  split
  · exact h
  · exact h.setMeter.judgeQuota

theorem shedBytes {n : Nat} (h : w.Bound g u) : (w.shedBytes l d n).Bound g u := by
  unfold Work.shedBytes
  split
  · exact h
  · exact h.setMeter

theorem outage (h : w.Bound g u) : (w.outage l d).Bound g u := by
  unfold Work.outage
  split
  · exact h
  · exact h.setMeter

theorem openMeter (h : w.Bound g u) : (w.openMeter l d).Bound g u := by
  unfold Work.openMeter
  split
  · exact h.setMeter
  · exact h

theorem clearQuota {n : Nat} (h : w.Bound g u) : (w.clearQuota l d n).Bound g u := by
  unfold Work.clearQuota
  split
  · exact h
  · split
    · exact h.setMeter
    · exact h

/-! ### Service and the return from HUSHED -/

theorem toServing (h : w.Bound g u) (hd : (w.drop l d).state ≠ .vacant) : (w.toServing l d).Bound g u :=
  (h.restate hd).mapLanesOf.openMeter

theorem wakeUp (h : w.Bound g u) (hd : (w.drop l d).state ≠ .vacant) : (w.wakeUp l d).Bound g u :=
  (h.toServing hd).mapDrop.removeOrders.raiseDropState

theorem unhushDrop (h : w.Bound g u) (hd : (w.drop l d).state ≠ .vacant) : (w.unhushDrop l d).Bound g u := by
  unfold Work.unhushDrop
  split
  · exact h
  · next r hr =>
    have hr := h.resumes l d r hr
    split
    · split
      · exact h.wakeUp hd
      · exact h.toServing hd
    · have k : (w.mapDrop l d fun e =>
          { e with
            state := r.state, since := w.stamp, resume := none, hold := r.hold, reason := r.reason
            trimCount := if r.stepHeld then min (e.trimCount + 1) 6 else e.trimCount }).Bound g u :=
        h.restate hd { state := DropState.ne_vacant_of_hushable hr } (.inl (DropState.candidate_of_hushable hr))
      dsimp only
      split
      · exact k.mapLanesOf.raiseDropState
      · exact k.mapLanesOf

theorem unhushAll {keep : Option Drop} (h : w.Bound g u) : (w.unhushAll l keep).Bound g u := by
  refine weaken (h.useNow.forDrops fun v c hc k => k.unhushDrop (k.used (.inr ?_))) fun _ _ => .inl
  have hs : (w.drop l c).state = .hushed := by
    simpa [Work.hushedDrops, LegRecord.dropsWhere, Work.drop] using (List.mem_filter.mp (List.mem_of_mem_filter hc)).2
  rw [hs]
  nofun

/-! ### The end of a hunt, loss, retirement, quarantine -/

theorem dropStepAsks (h : w.Bound g u) : (w.dropStepAsks l).Bound g u := h.mapMonitor

theorem queueUnhush (h : w.Bound g u) : (w.queueUnhush l).Bound g u := by
  unfold Work.queueUnhush
  split
  · exact h.queueOrder
  · exact h.mapMonitor

theorem endSearch {n : NoticeBody} (h : w.Bound g u) : (w.endSearch l n).Bound g u := by
  have k : (((w.raise (some l) none n).dropStepAsks l).queueUnhush l).Bound g u := h.raise.dropStepAsks.queueUnhush
  exact k.unhushAll

theorem endHunt {b : Bool} (h : w.Bound g u) : (w.endHunt l b).Bound g u := by
  obtain ⟨verdict, last, e⟩ := endHunt_eq w l b
  rw [e]
  exact h.endSearch.mapMonitor_idle

/-- A drop that left the leg's search is held by no search. -/
theorem settle_of (h : w.Bound (some (l, d)) u) (hn : ¬(w.leg l).monitor.Searches d) : w.Bound none u :=
  h.settle fun _ _ e => by
    obtain ⟨rfl, rfl⟩ := Prod.mk.inj (Option.some.inj e)
    exact hn

theorem departure (h : w.Bound g u) : (w.departure l d).Bound g u := by
  unfold Work.departure
  dsimp only
  split
  · next hm =>
    split
    · next cs hcs =>
      split
      · have k : (w.mapMonitor l fun m => { m with candidates := some (cs.filter fun c => c != d) }).Bound g u := by
          refine h.mapMonitor fun c hc => .inl ?_
          have hc : c ∈ cs.filter fun c => c != d := by simpa [Monitor.Searches, hm] using hc
          exact (Monitor.searches_hunting hm hcs).mpr (List.mem_of_mem_filter hc)
        split
        · exact k.endHunt
        · exact k
      · exact h
    · exact h
  · split
    · exact h.endHunt
    · exact h
  · exact h

theorem lose {reason : LostReason} {saved : Option Nat} (h : w.Bound g u) (hd : (w.drop l d).state ≠ .vacant) :
    (w.lose l d reason saved).Bound g u := by
  have k : (((w.mapLanesOf l d Lane.ownerGone).outage l d).purge l d).Bound g fun k c => u k c ∨ (w.drop k c).state ≠ .vacant :=
    h.useNow.mapLanesOf.outage.purge
  exact (k.restate (k.used (.inr hd))).raiseDropState.departure.weaken fun _ _ => .inl

theorem loseByOrigin (h : w.Bound g u) (hd : (w.drop l d).state ≠ .vacant) : (w.loseByOrigin l d).Bound g u := by
  unfold Work.loseByOrigin
  split <;> exact h.lose hd

end Work.Bound

section
variable (w : Work) (l : Leg) (d : Drop)

theorem Work.endHunt_not_searches (b : Bool) : ¬((w.endHunt l b).leg l).monitor.Searches d := by
  obtain ⟨verdict, last, e⟩ := w.endHunt_eq l b
  rw [e, Work.mapMonitor_eq, Work.leg_mapLeg_self]
  exact Monitor.not_searches rfl

/-- A drop that left the search is held by none (R145, R147). -/
theorem Work.departure_not_searches : ¬((w.departure l d).leg l).monitor.Searches d := by
  unfold Work.departure
  dsimp only
  split
  · next hm =>
    split
    · next cs hcs =>
      split
      · split
        · exact Work.endHunt_not_searches _ l d true
        · simp [Work.mapMonitor_eq, Monitor.Searches, hm]
      · next hd =>
        rw [Monitor.searches_hunting hm hcs]
        exact fun hc => hd (List.contains_iff_mem.mpr hc)
    · next hn => simp [Monitor.Searches, hm, hn]
  · next hm =>
    split
    · exact Work.endHunt_not_searches w l d true
    · next hd =>
      rw [Monitor.searches_verifying hm]
      exact fun hs => hd (beq_iff_eq.mpr hs)
  · next hh hv => exact fun hs => hs.elim (fun hs => hh hs.1) fun hs => hv hs.1

end

namespace Work.Bound

variable {w : Work} {l : Leg} {d : Drop} {g : Option (Leg × Drop)} {u : Leg → Drop → Prop}

theorem enterRetiring {reason : RetireReason} (h : w.Bound none u) (hd : (w.drop l d).state ≠ .vacant) :
    (w.enterRetiring l d reason).Bound none u := by
  have k : ((w.mapLeg l fun r => { r with lanes := r.lanes.map fun o => o.filter fun x => x.owner != d }).purge l d).Bound
      (some (l, d)) fun k c => u k c ∨ (w.drop k c).state ≠ .vacant := (h.useNow.mapLeg).purge.except
  exact ((k.restate (k.used (.inr hd)) (hc := .inr (.inl rfl))).raiseDropState.departure.settle_of
    (Work.departure_not_searches _ l d)).weaken fun _ _ => .inl

/-- A retirement, the vacancy that a complete close brings included (R34, R35). -/
theorem retire {reason : RetireReason} (h : w.Tied) : (w.retire l d reason).Tied := by
  rw [retire_eq]
  split
  · exact h
  · next hr =>
    have k : (w.enterRetiring l d reason).Tied := h.enterRetiring (by rintro hv; simp [hv, DropState.resting] at hr)
    have hn : ¬((w.enterRetiring l d reason).leg l).monitor.Searches d := Work.departure_not_searches _ l d
    dsimp only
    split
    · refine k.closeMeter.vacate ?_
      rwa [((w.enterRetiring l d reason).closeMeter_spec l d reason.closeCause).leg]
    · exact k.closeMeter

/-- A drop that leaves the search for QUARANTINED, still to be settled (R148). -/
theorem quarantine (h : w.Bound none u) (hd : (w.drop l d).state ≠ .vacant) : (w.quarantine l d).Bound (some (l, d)) u := by
  unfold Work.quarantine
  dsimp only
  refine raiseDropState (outage (mapLanesOf ?_))
  split
  · exact (h.except.restate hd (hc := .inr (.inl rfl))).purge.queueOrder
  · exact (h.except.restate hd (hc := .inr (.inl rfl))).purge.mapMonitor

end Work.Bound

end Sys2Proof.Machine
end

section
set_option Elab.async false -- one theorem after another: side by side they ask for more threads than the check's memory limit grants
/-! PROOFS. Every operation of the blocks keeps the bindings two-sided: admission, orders, the monitor, the receiver (R24, R144, R145). -/

namespace Sys2Proof.Machine

theorem DropState.ne_vacant_of_candidate {st : DropState} (h : st.candidate = true) : st ≠ .vacant := by
  rintro rfl
  cases h

theorem DropEntry.powerStepped_tie (e : DropEntry) (step : Int) : (e.powerStepped step).tie = e.tie := by
  unfold DropEntry.powerStepped DropEntry.tie
  split
  · simp only [Option.map_map]
    rfl
  · rfl

theorem DropEntry.heardClean_tie (e : DropEntry) (level : Nat) : (e.heardClean level).tie = e.tie := by
  unfold DropEntry.heardClean
  split <;> rfl

theorem DropEntry.buildStarts_tie (e : DropEntry) : e.buildStarts.tie = e.tie := by
  unfold DropEntry.buildStarts
  dsimp only
  split <;> split <;> rfl

theorem DropEntry.buildEnds_tie (e : DropEntry) : e.buildEnds.tie = e.tie := by
  unfold DropEntry.buildEnds
  dsimp only
  split <;> rfl

/-- A resume state changed by an echo is one that may be resumed (R121, R127). -/
theorem DropEntry.resumeAs_hushable {e : DropEntry} {st : DropState} (h : st.hushable = true) (r : Resume)
    (hr : (e.resumeAs st).resume = some r) : r.state.hushable = true := by
  obtain ⟨x, -, rfl⟩ := Option.map_eq_some_iff.mp hr
  exact h

theorem DropEntry.hushedFrom_state {e : DropEntry} {st : DropState} (h : e.hushedFrom st = true) : e.state = .hushed := by
  unfold DropEntry.hushedFrom at h
  rw [Bool.and_eq_true, beq_iff_eq] at h
  exact h.1

/-- An order's failure makes no VACANT entry LOST (R52). -/
theorem failOutcome_lost {e : OrderEntry} {x : DropEntry} {reason : LostReason} (h : failOutcome e x = .lost reason) :
    x.state ≠ .vacant := by
  intro hs
  unfold failOutcome at h
  rw [hs] at h
  cases hk : e.order.kind <;> rw [hk] at h <;> cases h

namespace Work.Bound

variable {w : Work} {l : Leg} {d : Drop} {g : Option (Leg × Drop)} {u : Leg → Drop → Prop}

/-! ### Admission (R73 to R75) -/

theorem createLane {x : Lane} (h : w.Bound g u) : (w.createLane l x).Bound g u := h.mapLeg

theorem serveDrop {m : Option Bool} (h : w.Bound g u) (hd : (w.drop l d).state ≠ .vacant) : (w.serveDrop l d m).Bound g u :=
  (h.toServing hd).raiseDropState

/-- An entry that keeps its resume state where it takes another state. -/
theorem restates_of_resume {f : DropEntry → DropEntry} (h : w.Bound g u) (ref : (f (w.drop l d)).enrolRef = (w.drop l d).enrolRef := by rfl)
    (serial : (f (w.drop l d)).serial = (w.drop l d).serial := by rfl) (state : (f (w.drop l d)).state ≠ .vacant := by nofun)
    (resume : (f (w.drop l d)).resume = (w.drop l d).resume := by rfl) : (w.drop l d).Restates (f (w.drop l d)) :=
  ⟨ref, serial, state, fun r hr => h.resumes l d r (resume.symm.trans hr)⟩

theorem awaitDrop {c : AwaitingCause} (h : w.Bound g u) (hd : (w.drop l d).state ≠ .vacant) : (w.awaitDrop l d c).Bound g u :=
  (h.restate hd h.restates_of_resume).raiseDropState.raise

theorem admitByMode (h : w.Bound g u) (hd : (w.drop l d).state ≠ .vacant) : (w.admitByMode l d).Bound g u := by
  unfold Work.admitByMode
  split
  · split
    · exact h.serveDrop hd
    · exact h.awaitDrop hd
  · exact h.awaitDrop hd

theorem admitFresh (h : w.Bound g u) (hd : (w.drop l d).state ≠ .vacant) : (w.admitFresh l d).Bound g u := by
  have h := h.useNow
  refine weaken (u := fun k c => u k c ∨ (w.drop k c).state ≠ .vacant) ?_ fun _ _ => .inl
  unfold Work.admitFresh
  dsimp only
  split
  · have k := h.foldl (xs := templatePorts (((w.enrolOf l d).map EnrolEntry.templates).getD []))
      (f := fun w pf => w.createLane l (Lane.fresh d pf.1 pf.2)) fun v _ _ k => k.createLane
    split
    · exact k.admitByMode (k.used (.inr hd))
    · exact k.generate.admitByMode (k.generate.used (.inr hd))
  · exact h.awaitDrop hd

theorem rebindLanes (h : w.Bound g u) : (w.rebindLanes l d).Bound g u := by
  unfold Work.rebindLanes
  split
  · exact h
  · exact h.mapLanesOf.generate

theorem trimEnds {b : Bool} (h : w.Bound g u) (hd : (w.drop l d).state ≠ .vacant) : (w.trimEnds l d b).Bound g u := by
  have k : (w.mapDrop l d fun e => { e with marginal := b }).Bound g fun k c => u k c ∨ (w.drop k c).state ≠ .vacant := h.useNow.mapDrop
  refine weaken (u := fun k c => u k c ∨ (w.drop k c).state ≠ .vacant) ?_ fun _ _ => .inl
  unfold Work.trimEnds
  dsimp only
  split
  · exact k.admitFresh (k.used (.inr hd))
  · split
    · exact k.rebindLanes.serveDrop (k.rebindLanes.used (.inr hd))
    · split
      · exact k.admitFresh (k.used (.inr hd))
      · exact k.rebindLanes.admitByMode (k.rebindLanes.used (.inr hd))

/-! ### Hushing and asks (R43, R144) -/

theorem hushDrop (h : w.Bound g u) : (w.hushDrop l d).Bound g u := by
  unfold Work.hushDrop
  dsimp only
  split
  · next hh =>
    have k : (w.mapDrop l d fun e =>
        { e with state := .hushed, since := w.stamp, resume := some e.resumeOf, hold := none, reason := none }).Bound g u :=
      h.restate (DropState.ne_vacant_of_hushable hh)
        { resumes := by rintro _ ⟨⟩; exact DropEntry.resumeOf_hushable hh }
    split
    · exact k.mapLanesOf
    · exact k
  · exact h

theorem applyHush {set : List Drop} (h : w.Bound g u) : (w.applyHush l set).Bound g u :=
  h.forDrops fun w c _ k => by
    split
    · exact k.hushDrop
    · split
      · next hs => exact k.unhushDrop (by rw [beq_iff_eq.mp hs]; nofun)
      · exact k

theorem doAsk {a : MonitorAsk} (h : w.Bound g u) : (w.doAsk l a).Bound g u := by
  unfold Work.doAsk
  split
  · cases a with
    | stepHush set n => exact h.queueOrder.applyHush
    | stepUnhush keep => exact h.queueOrder.unhushAll
    | mute d => exact h.queueOrder
    | unhush => exact h.queueOrder
  · exact h.mapMonitor

theorem retryAsks (h : w.Bound g u) : (w.retryAsks l).Bound g u := foldl h.mapMonitor fun _ _ _ k => k.doAsk

theorem retryOwed (h : w.Bound g u) : (w.retryOwed l).Bound g u :=
  foldl (h.mapLeg (f := fun r => { r with owed := [] })) fun _ _ _ k => k.generate

theorem retryOrders (h : w.Bound g u) : (w.retryOrders l).Bound g u := h.retryAsks.retryOwed

/-! ### Waits and failures (R50 to R52) -/

theorem applyFailure {k : OrderKind} {o : FailOutcome} (h : w.Bound g u)
    (hl : ∀ reason, o = .lost reason → (w.drop l d).state ≠ .vacant) : (w.applyFailure l d k o).Bound g u := by
  unfold Work.applyFailure
  split
  · next reason =>
    split
    · exact h.loseByOrigin (hl reason rfl)
    · exact h.lose (hl reason rfl)
  · split
    · next hs => exact h.trimEnds (by rw [beq_iff_eq.mp hs]; nofun)
    · exact h.mapDrop
  · split
    · exact h.removeOrders.mapDrop
    · exact h
  · exact h
  · exact h

theorem failOrder (h : w.Bound g u) : (w.failOrder l d).Bound g u := by
  unfold Work.failOrder
  split
  · exact h
  · next e _ =>
    refine applyFailure (raise h.mapLeg) fun reason ho => ?_
    rw [raise_drop, drop, leg_mapLeg_self]
    exact failOutcome_lost ho

theorem settleWaits (h : w.Bound g u) : (w.settleWaits l).Bound g u := forDrops h.mapLeg fun _ _ _ k => k.failOrder

/-! ### The selection of a round (R45 to R48) -/

theorem sendOrder {i : Nat} (h : w.Bound g u) : (w.sendOrder l i).1.Bound g u := by
  unfold Work.sendOrder
  dsimp only
  split
  · exact h
  · split
    · dsimp only
      exact mapDrop h.mapLeg
    · dsimp only
      split
      · exact mapMonitor h.mapLeg
      · exact h.mapLeg

theorem sendOrders (h : w.Bound g u) : (w.sendOrders l).1.Bound g u := by
  rw [sendOrders_eq]
  have k : (w.sendAll l (w.leg l).chosen).1.Bound g u :=
    List.foldlRecOn _ _ (motive := fun acc : Work × List OrderPlace => acc.1.Bound g u) h fun _ k _ _ => k.sendOrder
  exact k.mapLeg (f := fun r => { r with orders := r.orders.filter fun e => !e.spent })

/-! ### Echoes and completions (R49, R53) -/

theorem toDormant {n : Nat} (h : w.Bound g u) (hd : (w.drop l d).state ≠ .vacant) : (w.toDormant l d n).Bound g u :=
  (h.restate hd h.restates_of_resume).mapLanesOf.raiseDropState

/-- The resume state of a HUSHED entry changed by an echo (R121, R127). -/
theorem resumeAs {f : DropEntry → DropEntry} {st : DropState} (h : w.Bound g u) (hd : (w.drop l d).state = .hushed)
    (hst : st.hushable = true := by rfl) (ref : (f (w.drop l d)).enrolRef = (w.drop l d).enrolRef := by rfl)
    (serial : (f (w.drop l d)).serial = (w.drop l d).serial := by rfl) (state : (f (w.drop l d)).state = (w.drop l d).state := by rfl)
    (resume : (f (w.drop l d)).resume = ((w.drop l d).resumeAs st).resume := by rfl) : (w.mapDrop l d f).Bound g u :=
  h.restate (by rw [hd]; nofun)
    ⟨ref, serial, by rw [state, hd]; nofun, fun r hr => DropEntry.resumeAs_hushable hst r (resume.symm.trans hr)⟩
    (.inl (by rw [state, hd]; rfl))

theorem applyCompletion {e : OrderEntry} (h : w.Bound g u) : (w.applyCompletion l d e).Bound g u := by
  unfold Work.applyCompletion
  dsimp only
  split
  · split
    · next hf => exact (h.restate (by rw [beq_iff_eq.mp hf]; nofun) h.restates_of_resume).raiseDropState
    · exact h
  · exact h.mapDrop (DropEntry.powerStepped_tie _ _)
  · exact h.foldl fun w n _ k => k.mapLeg
  · split
    · next hs =>
      rw [Bool.and_eq_true, beq_iff_eq] at hs
      exact h.toDormant (by rw [hs.1]; nofun)
    · split
      · next hs =>
        rw [Bool.and_eq_true] at hs
        exact h.resumeAs (st := .dormant) (DropEntry.hushedFrom_state hs.1)
      · exact h
  · split
    · next hs => exact h.wakeUp (by rw [beq_iff_eq.mp hs]; nofun)
    · split
      · next hs => exact h.resumeAs (st := .serving) (DropEntry.hushedFrom_state hs)
      · split
        · exact h.mapDrop
        · exact h
  · exact h

theorem deliverEcho {e : Option (Fin 16)} (h : w.Bound g u) : (w.deliverEcho l d e).Bound g u := by
  rcases w.deliverEcho_cases l d e with ⟨-, k⟩ | ⟨q, w', -, rfl, -, k⟩ | ⟨q, x, w', -, rfl, -, -, -, -, k⟩ <;> rw [k]
  · exact h
  · exact h.mapLeg
  · exact applyCompletion (mapLeg h.mapLeg)

/-! ### The Rogue Monitor (R130 to R151) -/

theorem beginSpan {b : Bool} (h : w.Bound g u) : (w.beginSpan l b).Bound g u := by
  unfold Work.beginSpan
  split <;> exact h.mapMonitor

theorem raiseSuspect {c : Signatures} {x : Option Drop} (h : w.Bound g u) : (w.raiseSuspect l c x).Bound g u := h.raise

theorem startStep {k : StepKind} (h : w.Bound g u) : (w.startStep l k).Bound g u := by
  unfold Work.startStep
  cases k with
  | control => exact h.mapMonitor
  | fullHush => exact h.mapMonitor.doAsk
  | split => exact h.mapMonitor.doAsk
  | verify => exact h.mapMonitor.doAsk
  | finalControl => exact h.mapMonitor.doAsk

/-- A hunt for the candidates of the leg begins (R145). -/
theorem hunt {f : Monitor → Monitor} (h : w.Bound g u) (hs : (f (w.leg l).monitor).state = .hunting := by rfl)
    (hc : (f (w.leg l).monitor).candidates = some (w.leg l).candidateList := by rfl) : (w.mapMonitor l f).Bound g u :=
  h.mapMonitor fun d hd => .inr <| by
    simpa [LegRecord.candidateList, LegRecord.dropsWhere, Work.drop, allDrops] using (Monitor.searches_hunting hs hc).mp hd

theorem confirm {sp : Span} (h : w.Bound g u) : (w.confirm l sp).Bound g u := by
  unfold Work.confirm
  split
  · next d hv =>
    refine startStep (raiseSuspect (h.mapMonitor fun c hc => .inr ?_))
    have hc : d = c := by simpa [Monitor.Searches, Monitor.idle] using hc
    subst hc
    unfold verifiable at hv
    split at hv
    · split at hv
      · next hall =>
        obtain rfl := Option.some.inj hv
        simp only [Bool.and_eq_true] at hall
        exact hall.2
      · cases hv
    · cases hv
  · exact startStep (raiseSuspect h.hunt)

theorem confirmCulprit (h : w.Bound none u) (hd : (w.drop l d).state ≠ .vacant) : (w.confirmCulprit l d).Bound none u := by
  have hd : ((w.dropStepAsks l).drop l d).state ≠ .vacant := by rwa [Work.dropStepAsks, mapMonitor_eq, drop, leg_mapLeg_self]
  have k := (h.dropStepAsks.quarantine hd).raise (a := some l) (b := some d)
    (n := .rogueConfirmed (((w.dropStepAsks l).quarantine l d).drop l d).serial ((w.leg l).monitor.state == .verifying)
      (w.leg l).monitor.stepReached.2)
  refine beginSpan (settle_of k.mapMonitor_idle ?_)
  rw [mapMonitor_eq, leg_mapLeg_self]
  exact Monitor.not_searches rfl

/-- Some of a hunt's candidates are left (R145, R146). -/
theorem narrow {cs : List Drop} (h : w.Bound g u) (hcs : ∀ d ∈ cs, d ∈ (w.leg l).monitor.candidates.getD []) : (w.narrow l cs).Bound g u := by
  have k : (w.mapMonitor l fun m => { m with candidates := some cs }).Bound g u := by
    refine h.mapMonitor fun c hc => .inl ?_
    rcases hc with ⟨hs, xs, hxs, hc⟩ | hv
    · obtain rfl : cs = xs := Option.some.inj hxs
      have hc := hcs c hc
      cases hm : (w.leg l).monitor.candidates with
      | none => rw [hm] at hc; cases hc
      | some ys => rw [hm] at hc; exact .inl ⟨hs, ys, hm, hc⟩
    · exact .inr hv
  unfold Work.narrow
  split
  · exact k.endHunt
  · exact k.startStep
  · exact k.startStep

end Work.Bound

end Sys2Proof.Machine
end

section
set_option Elab.async false -- one theorem after another: side by side they ask for more threads than the check's memory limit grants
/-! PROOFS. Every operation of the blocks keeps the bindings two-sided: readings, the boundary, the receiver and the requests (R24, R144,
R145). -/

namespace Sys2Proof.Machine

namespace Work.Bound

variable {w : Work} {l : Leg} {d : Drop} {g : Option (Leg × Drop)} {u : Leg → Drop → Prop}

theorem huntAfterCheck (h : w.Bound g u) : (w.huntAfterCheck l).Bound g u := by
  unfold Work.huntAfterCheck
  exact startStep (raiseSuspect h.hunt)

/-- What the search holds is in use. -/
theorem ne_vacant_of_searches (h : w.Bound none u) (hd : (w.leg l).monitor.Searches d) : (w.drop l d).state ≠ .vacant :=
  DropState.ne_vacant_of_candidate (h.searched l d nofun hd)

theorem applyReading {s : ProbeStep} {lit : Bool} (h : w.Bound none u) (hs : (w.leg l).monitor.state.searching = true) :
    (w.applyReading l s lit).Bound none u := by
  unfold Work.applyReading
  dsimp only
  split
  · split
    · exact h.startStep
    · exact h.endHunt
  · next hm _ =>
    split
    · exact h.huntAfterCheck
    · split
      · next d hd => exact h.confirmCulprit (h.ne_vacant_of_searches ((Monitor.searches_verifying hm).mpr hd))
      · exact h.endHunt
  · split
    · exact h.endHunt
    · split
      · exact h.endHunt
      · exact h.startStep
  · split
    · exact h.endHunt
    · exact h.narrow fun _ hd => hd
  · split <;> exact h.narrow fun _ hd => List.mem_of_mem_filter hd
  · split
    · exact h.endHunt
    · exact h.startStep
  · next hv =>
    have hm : (w.leg l).monitor.state = .hunting := by
      revert hs hv
      cases (w.leg l).monitor.state <;> simp [MonitorState.searching]
    split
    · next d ds hcs =>
      refine h.confirmCulprit (h.ne_vacant_of_searches (.inl ⟨hm, ?_⟩))
      cases hc : (w.leg l).monitor.candidates with
      | none => rw [hc] at hcs; cases hcs
      | some cs => rw [hc] at hcs; exact ⟨cs, rfl, by rw [show cs = d :: ds from hcs]; exact List.mem_cons_self⟩
    · exact h.endHunt
    · exact h.endHunt

theorem observeStep {r : RoundReport} (h : w.Bound none u) (hs : (w.leg l).monitor.state.searching = true) :
    (w.observeStep l r).Bound none u := by
  unfold Work.observeStep
  dsimp only
  split
  · exact h
  · split
    · split
      · exact applyReading h.mapMonitor (by rw [mapMonitor_eq, leg_mapLeg_self]; exact hs)
      · exact h.mapMonitor
    · exact h

theorem endSpan {sp : Span} {t : Stamp} (h : w.Bound g u) : (w.endSpan l sp t).Bound g u := by
  have k : ∀ (a : Option Nat) (b : Option Span), (w.mapMonitor l fun m => { m with reference := a, span := b }).Bound g u :=
    fun _ _ => h.mapMonitor
  unfold Work.endSpan
  dsimp only
  split
  · split
    · exact raiseSuspect ((k _ _).mapMonitor_idle)
    · exact k _ _
  · split
    · exact (k _ _).confirm
    · exact k _ _
  · exact k _ _

theorem takeReport {r : RoundReport} (h : w.Bound none u) : (w.takeReport l r).Bound none u := by
  unfold Work.takeReport
  dsimp only
  split
  · next hm => exact h.observeStep (by rw [hm]; rfl)
  · next hm => exact h.observeStep (by rw [hm]; rfl)
  · split
    · exact h
    · split
      · exact h.endSpan
      · exact h.mapMonitor

theorem suspectTimeout (h : w.Bound g u) : (w.suspectTimeout l).Bound g u := by
  unfold Work.suspectTimeout
  dsimp only
  split
  · split
    · exact h.mapMonitor_idle
    · exact h
  · exact h

theorem holdoffEnds (h : w.Bound g u) : (w.holdoffEnds l).Bound g u := beginSpan h.mapMonitor_idle

theorem holdoffTick (h : w.Bound g u) : (w.holdoffTick l).Bound g u := by
  unfold Work.holdoffTick
  dsimp only
  split
  · split
    · exact h.holdoffEnds
    · exact h.mapMonitor
  · exact h

theorem holdoffExpires (h : w.Bound g u) : (w.holdoffExpires l).Bound g u := by
  unfold Work.holdoffExpires
  dsimp only
  split
  · split
    · exact h.holdoffEnds
    · exact h
  · exact h

theorem stepTick (h : w.Bound g u) : (w.stepTick l).Bound g u := h.mapMonitor

theorem resumeSpan (h : w.Bound g u) : (w.resumeSpan l).Bound g u := by
  unfold Work.resumeSpan
  dsimp only
  split
  · exact h.mapMonitor.beginSpan
  · exact h.mapMonitor.beginSpan
  · exact h.mapMonitor

theorem disarmByHost (h : w.Bound g u) : (w.disarmByHost l).Bound g u := h.mapMonitor_idle

theorem disarmForLeg (h : w.Bound g u) : (w.disarmForLeg l).Bound g u := h.mapMonitor_idle

theorem abandonHunt (h : w.Bound g u) : (w.abandonHunt l).Bound g u := (unhushAll h.dropStepAsks.queueUnhush).disarmByHost

theorem rogueSettings {s : MonitorSettings} (h : w.Bound g u) : (w.rogueSettings l s).Bound g u := by
  unfold Work.rogueSettings
  split
  · exact h.mapMonitor_idle.beginSpan
  · exact h.mapMonitor_idle.beginSpan
  · exact h.mapMonitor
  · exact h.mapMonitor

theorem arm (h : w.Bound g u) : (w.arm l).Bound g u := h.mapMonitor_idle.beginSpan

/-! ### The boundary -/

theorem setState {st : DropState} (h : w.Bound g u) (hd : (w.drop l d).state ≠ .vacant) (hs : st ≠ .vacant := by nofun)
    (hc : st.candidate = true := by rfl) : (w.setState l d st).Bound g u :=
  h.restate (f := fun e => { e with state := st, since := w.stamp }) hd
    (h.restates_of_resume (f := fun e => { e with state := st, since := w.stamp }) (state := hs)) (.inl hc)

/-- An entry that was eligible for ranging becomes RANGING (R62). -/
theorem awardWindow (h : w.Bound g u) : (w.awardWindow l).1.Bound g u := by
  have k : (w.mapLeg l fun r => { r with requests := (w.leg l).requestsAt w.stamp }).Bound g u := h.mapLeg
  unfold Work.awardWindow
  dsimp only
  split
  · next d _ hd =>
    have hf : (w.drop l d).state = .found := by
      have hd : (w.leg l).asksRanging w.stamp = some d := hd
      unfold LegRecord.asksRanging at hd
      split at hd
      · have := List.find?_some hd
        simp only [LegRecord.eligibleForRanging, LegRecord.waitsForRanging, Bool.and_eq_true, beq_iff_eq] at this
        exact this.1.1.1
      · cases hd
    refine k.setState (st := .ranging) ?_
    rw [drop, leg_mapLeg_self]
    exact ne_of_eq_of_ne hf nofun
  · exact k.mapLeg (f := fun r => { r with schedule := { r.schedule with roundsSince := 0, neverPlaced := false } })
  · exact k

theorem windowAwarded (h : w.Bound g u) : (w.windowAwarded l).Bound g u :=
  h.awardWindow.mapLeg (f := fun r => { r with drops := r.drops.map DropEntry.buildStarts })
    fun c => by simp [DropEntry.buildStarts_tie]

theorem buildFull (h : w.Bound g u) : (w.buildFull l).Bound g u := by
  rw [buildFull_eq]
  generalize w.mapBuilt l = built
  refine h.windowAwarded.mapLeg (fun c => ?_) fun c hs => .inl (by simpa [LegRecord.takeMap, LegRecord.afterBuild] using hs)
  simp only [LegRecord.takeMap, LegRecord.afterBuild, Fin.getElem_fin, Vector.getElem_ofFn]
  split
  · exact DropEntry.buildEnds_tie _
  · rfl

theorem buildEmpty (h : w.Bound g u) : (w.buildEmpty l).Bound g u := h.mapLeg

theorem discardDown {n : Nat} (h : w.Bound g u) : (w.discardDown l n).Bound g u := h.mapStats

theorem sendFrame {f : Frame} (h : w.Bound g u) : (w.sendFrame l f).Bound g u := by
  unfold Work.sendFrame
  dsimp only
  split
  · exact (h.mapLeg (f := fun r => { r with allowance := r.allowance.set f.drop.val (r.allowance[f.drop] - f.data.length) })).charge
  · exact h.charge

theorem fillFrames {fs sent : List Frame} {room : Nat} (h : w.Bound g u) : (fillFrames l fs room sent w).1.Bound g u := by
  induction fs generalizing room sent w with
  | nil => exact h
  | cons f fs ih =>
    unfold Machine.fillFrames
    split
    · exact ih h.discardDown
    · split
      · exact ih h.shedBytes
      · split
        · exact h
        · exact ih h.sendFrame

theorem assemble {os : List OrderPlace} (h : w.Bound g u) : (w.assemble l os).Bound g u := by
  rw [assemble_eq]
  have filled : (w.filled l os).1.Bound g u := by
    unfold Work.filled
    split
    · exact h
    · rw [fill_eq]
      dsimp only
      have k : (w.drained? l (128000 - (w.header l os (w.mapNow l)).length)).1.Bound g u :=
        (h.mapLeg (f := fun r => { r with allowance := Vector.replicate 128 r.control.settings.downThrottle })).fillFrames
      exact k.mapLeg (f := fun r => { r with fifo := _ })
  exact filled.mapLeg (f := fun r => { r with sending := _ })

theorem ordersSent (h : w.Bound g u) : (w.ordersSent l).1.Bound g u := by
  unfold Work.ordersSent
  refine sendOrders (retryOrders ?_)
  split
  · exact h.settleWaits
  · exact h

theorem beginRound (h : w.Bound g u) : (w.beginRound l).Bound g u := by
  rw [beginRound_eq]
  split
  · refine assemble ?_
    split
    · exact h.ordersSent.buildFull
    · exact h.ordersSent.buildEmpty
  · exact h

theorem holdTick (h : w.Tied) : (w.holdTick l d).Tied := by
  unfold Work.holdTick
  dsimp only
  split
  · split
    · exact h.retire
    · exact h.mapDrop
  · next r _ hr =>
    split
    · split
      · exact h.retire
      · refine h.mapDrop ?_
        simp [DropEntry.tie, hr]
    · exact h
  · exact h

theorem recover (h : w.Bound g u) : (w.recover l).Bound g u := by
  unfold Work.recover
  dsimp only
  split
  · exact h.setLeg
  · exact h

theorem endPreparing (h : w.Bound g u) : (w.endPreparing l).Bound g u := by
  unfold Work.endPreparing
  dsimp only
  split
  · exact h.setLeg
  · exact h

theorem endRetiming (h : w.Bound g u) : (w.endRetiming l).Bound g u := by
  unfold Work.endRetiming
  dsimp only
  split
  · exact h.setLeg.resumeSpan
  · exact h

theorem advanceLeg (h : w.Bound g u) : (w.advanceLeg l).Bound g u := h.recover.endPreparing.endRetiming.mapControl

theorem legBoundary (h : w.Tied) : (w.legBoundary l).Tied := by
  have ready : (w.legReady l).Tied := (stepTick h.holdoffTick.suspectTimeout).advanceLeg
  have ticked : ((w.legReady l).holdsTicked l).Tied := ready.forDrops fun _ _ _ k => k.holdTick
  rw [legBoundary_eq]
  generalize (w.legReady l).holdsTicked l = v at ticked ⊢
  exact beginRound (ticked.mapLeg (f := fun r => { r with schedule := r.schedule.tick }))

theorem boundaryCloses (h : w.Bound g u) : w.boundaryCloses.Bound g u := by
  have k := h.forLegs (f := fun l v => Machine.forDrops allDrops (fun d v =>
      if w.blocks.periodDue w.stamp then (v.closeMeter l d .period).1
      else if v.blocks.hostClose[l] then (v.closeMeter l d .host).1 else v) v) fun l v k => k.forDrops fun v d _ k => by
    split
    · exact k.closeMeter
    · split
      · exact k.closeMeter
      · exact k
  unfold Work.boundaryCloses
  dsimp only
  generalize Machine.forLegs _ w = v at k
  exact k.of_blocks

theorem setBlock {b : LegRecord → Vector Byte 64} (h : w.Bound g u) : (w.mapLeg l fun r => { r with block := b r }).Bound g u :=
  h.mapLeg

theorem blockBoundary (h : w.Bound g u) : w.blockBoundary.Bound g u := by
  have k : w.applyBand.Bound g u := by
    unfold Work.applyBand
    dsimp only
    split
    · exact h
    · exact h.of_blocks (Eq.refl _) (Eq.refl _)
  unfold Work.blockBoundary Work.composeBlocks
  exact k.forLegs fun l v k => k.setBlock

theorem boundary (h : w.Tied) : w.boundary.Tied := by
  have k : (if w.stamp.round % 64 = 0 then w.blockBoundary else w).Tied := by
    split
    · exact h.blockBoundary
    · exact h
  exact k.boundaryCloses.forLegs fun _ _ k => k.legBoundary

theorem holdExpires (h : w.Tied) : (w.holdExpires l d).Tied := by
  unfold Work.holdExpires
  dsimp only
  generalize Option.any _ _ = expired
  cases expired with
  | true => exact h.retire
  | false => exact h

theorem discoveryDue (h : w.Bound g u) : (w.discoveryDue l).Bound g u := by
  refine h.mapLeg (hd := fun c => ?_) (hm := fun c hs => .inl ?_)
  · split <;> rfl
  · split at hs <;> exact hs

theorem wakeCheckDue (h : w.Bound g u) : (w.wakeCheckDue l d).Bound g u := by
  unfold Work.wakeCheckDue
  split
  · exact h.mapDrop
  · exact h

theorem bringDue {p : OrderEntry → Bool} (h : w.Bound g u) : (w.bringDue l d p).Bound g u := h.mapLeg

theorem resendFallsDue (h : w.Bound g u) : (w.resendFallsDue l d).Bound g u := by
  unfold Work.resendFallsDue
  split
  · exact h.bringDue
  · exact h

theorem waitFails (h : w.Bound g u) : (w.waitFails l d).Bound g u := by
  unfold Work.waitFails
  split
  · exact h.bringDue.failOrder
  · exact h

/-! ### Trim, drift and what a clean burst delivers (R69 to R72, R107 to R112) -/

theorem driftStep {n : Nat} (h : w.Bound g u) : (w.driftStep l d n).Bound g u := by
  unfold Work.driftStep
  dsimp only
  split
  · exact mapDrop h.mapDrop
  · exact generate h.mapDrop

theorem judgeTrim {n : Nat} (h : w.Bound g u) (hd : (w.drop l d).state ≠ .vacant) : (w.judgeTrim l d n).Bound g u := by
  unfold Work.judgeTrim
  dsimp only
  split
  · exact h
  · split
    · exact h.trimEnds hd
    · split
      · exact h.trimEnds hd
      · exact h.generate

theorem judgeDrift {n : Nat} (h : w.Bound g u) : (w.judgeDrift l d n).Bound g u := by
  unfold Work.judgeDrift
  dsimp only
  split
  · exact h.mapDrop
  · split
    · exact h
    · split
      · exact h.driftStep
      · exact h.mapDrop

theorem judgeBurst {n : Nat} (h : w.Bound g u) : (w.judgeBurst l d n).Bound g u := by
  unfold Work.judgeBurst
  split
  · next hs => exact h.judgeTrim (by rw [hs]; nofun)
  · exact h.judgeDrift
  · exact h

theorem takeStatus {x : BurstHeader} (h : w.Bound g u) : (w.takeStatus l d x).Bound g u := by
  unfold Work.takeStatus
  dsimp only
  split
  · next hs =>
    rw [Bool.and_eq_true] at hs
    exact h.lose (DropState.ne_vacant_of_heard hs.2)
  · split
    · next hs =>
      rw [Bool.and_eq_true, beq_iff_eq] at hs
      exact h.wakeUp (by rw [hs.2]; nofun)
    · exact h

theorem takeBacklog {b : Vector (BitVec 24) 4} (h : w.Bound g u) : (w.takeBacklog l d b).Bound g u := h.mapLanesOf

theorem takePayload {b : Burst} {p : List Byte} (h : w.Bound g u) : (w.takePayload l b p).Bound g u := by
  unfold Work.takePayload
  dsimp only
  split
  · exact h.mapLeg
  · exact charge h.mapLeg

theorem afterWake {st : DropState} (h : w.Bound g u) : (w.afterWake l d st).Bound g u := by
  unfold Work.afterWake
  split
  · exact h.mapDrop
  · exact h

theorem deliverClean {b : Burst} {f : FoundBurst} (h : w.Bound g u) : (w.deliverClean l b f).Bound g u := by
  unfold Work.deliverClean
  dsimp only
  split
  · exact h.takePayload
  · exact afterWake (takePayload (takeBacklog (judgeBurst (takeStatus (h.deliverEcho.mapDrop (DropEntry.heardClean_tie _ _))))))

theorem missBurst (h : w.Bound g u) : (w.missBurst l d).Bound g u := by
  unfold Work.missBurst
  dsimp only
  split
  · next hs =>
    have k : (w.mapDrop l d fun e => { e with missed := min (e.missed + 1) 8 }).Bound g u := h.mapDrop
    split
    · refine k.lose ?_
      rw [drop_mapDrop_self]
      exact DropState.ne_vacant_of_heard hs
    · exact k
  · exact h

theorem lastMiss (h : w.Bound g u) : (w.lastMiss l d).Bound g u := by
  unfold Work.lastMiss
  split
  · exact h.missBurst
  · exact h

theorem lastDrift {n : Nat} (h : w.Bound g u) : (w.lastDrift l d n).Bound g u := by
  unfold Work.lastDrift
  dsimp only
  split
  · exact h.driftStep
  · exact h

theorem windowEnds {x : WindowLight} (h : w.Bound g u) : (w.windowEnds l x).Bound g u := by
  unfold Work.windowEnds
  split
  · dsimp only
    split
    · exact deliverClean h.mapLeg
    · exact missBurst h.mapLeg
  · exact h

end Work.Bound

end Sys2Proof.Machine
end

section
set_option Elab.async false -- one theorem after another: side by side they ask for more threads than the check's memory limit grants
/-! PROOFS. Every event, every boundary and every request keeps the bindings two-sided; so does every step (R24, R144, R145). -/

namespace Sys2Proof.Machine

/-- An entry found in the enrolment list by some test (R20 to R24). -/
theorem Blocks.enrolWhere_some {b : Blocks} {p : EnrolEntry → Bool} {i : Fin 512} {e : EnrolEntry}
    (h : b.enrolWhere p = some i) (he : b.enrol[i] = some e) : p e = true := by
  have := List.find?_some h
  rw [he] at this
  exact this

namespace Work.Bound

variable {w : Work} {l : Leg} {d : Drop} {g : Option (Leg × Drop)} {u : Leg → Drop → Prop}

/-! ### Strangers, matching and ranging (R25 to R29, R63 to R66) -/

theorem stranger {x : Serial} {y : StrangerWhy} {t : Stamp} (h : w.Bound g u) : (w.stranger l x y t).Bound g u := by
  unfold Work.stranger
  dsimp only
  split
  · exact raise h.mapLeg
  · exact h.mapLeg

theorem refind {n : Nat} (h : w.Bound g u) (hd : (w.drop l d).state ≠ .vacant) : (w.refind l d n).Bound g u := by
  have k := h.restate (f := fun e =>
    { e.resetCounts with
      state := .found, since := w.stamp, origin := some (.reused (e.hold.getD 0) e.lostReason), hold := none, reason := none
      power := min n 31, level := none }) hd (h.restates_of_resume (f := fun e =>
    { e.resetCounts with
      state := .found, since := w.stamp, origin := some (.reused (e.hold.getD 0) e.lostReason), hold := none, reason := none
      power := min n 31, level := none }))
  exact k.forget.raiseDropState

theorem matchAnnounce {t : Stamp} {x : Serial} {n : Nat} (h : w.Bound none u) : (w.matchAnnounce l t x n).Bound none u := by
  unfold Work.matchAnnounce
  split
  · exact h.stranger
  · next i hi =>
    split
    · exact h
    · next e he =>
      split
      · next hb =>
        split
        · next hs =>
          split
          · next hl => subst hl; exact h.refind (by rw [hs]; nofun)
          · exact h.raise
        · exact h
        · exact h.raise
      · next hb =>
        split
        · exact h.stranger
        · split
          · next d ds hds =>
            have hd : (w.drop l d).state = .vacant := by
              have hm : d ∈ (w.leg l).dropsWhere fun x => x.state == .vacant := by rw [hds]; exact List.mem_cons_self
              simpa [LegRecord.dropsWhere, allDrops, Work.drop] using hm
            have hx : e.serial = x := beq_iff_eq.mp (Blocks.enrolWhere_some hi he)
            rw [← hx]
            exact h.claim he hb hd
          · exact h.raise

theorem discoveryEnds {light : FrameLight} {as : List FoundAnnounce} (h : w.Bound none u) : (w.discoveryEnds l light as).Bound none u := by
  unfold Work.discoveryEnds
  split
  · exact h
  · split
    · exact h
    · exact foldl h.mapLeg fun _ _ _ k => k.matchAnnounce

/-- A failed attempt outside a search (R65). -/
theorem rangingFails {c : RangingCause} (h : w.Tied) (hd : (w.drop l d).state = .ranging)
    (hs : (w.leg l).monitor.state.searching = false) : (w.rangingFails l d c).Tied := by
  have k : (w.mapDrop l d fun e => { e with rangingAttempts := min (e.rangingAttempts + 1) 3 }).Tied := h.mapDrop
  have hd : ((w.mapDrop l d fun e => { e with rangingAttempts := min (e.rangingAttempts + 1) 3 }).drop l d).state ≠ .vacant := by
    rw [drop_mapDrop_self]
    exact ne_of_eq_of_ne hd nofun
  have hs : ((w.mapDrop l d fun e => { e with rangingAttempts := min (e.rangingAttempts + 1) 3 }).leg l).monitor.state.searching = false := by
    rwa [monitor_mapDrop]
  unfold Work.rangingFails
  dsimp only
  generalize (w.mapDrop l d fun e => { e with rangingAttempts := min (e.rangingAttempts + 1) 3 }) = v at k hd hs ⊢
  split
  · exact k.setState hd
  · split
    · exact k.raise.vacate (Monitor.not_searches hs)
    · exact k.raise.loseByOrigin hd

theorem rangingReplied {a : Int} {n : Nat} (h : w.Tied) (hd : (w.drop l d).state = .ranging)
    (hs : (w.leg l).monitor.state.searching = false) : (w.rangingReplied l d a n).Tied := by
  have k : (w.mapDrop l d fun e => { e with level := some n }).Tied := h.mapDrop
  have hd : ((w.mapDrop l d fun e => { e with level := some n }).drop l d).state = .ranging := by
    rw [drop_mapDrop_self]
    exact hd
  have hs : ((w.mapDrop l d fun e => { e with level := some n }).leg l).monitor.state.searching = false := by
    rwa [monitor_mapDrop]
  unfold Work.rangingReplied
  dsimp only
  generalize (w.mapDrop l d fun e => { e with level := some n }) = v at k hd hs ⊢
  split
  · exact k.rangingFails hd hs
  · exact (k.setState (st := .found) (ne_of_eq_of_ne hd nofun)).mapDrop.generate

theorem takeRanging {b : Bool} {r : Option (Int × Nat)} (h : w.Tied) : (w.takeRanging l d b r).Tied := by
  unfold Work.takeRanging
  split
  · exact h
  · next hd =>
    have hd : (w.drop l d).state = .ranging := by simpa using hd
    split
    · exact h.setState (ne_of_eq_of_ne hd nofun)
    · next hs =>
      have hs : (w.leg l).monitor.state.searching = false := by
        simp only [Bool.or_eq_true, not_or, Bool.not_eq_true] at hs
        exact hs.1
      split
      · exact h.rangingReplied hd hs
      · exact h.rangingFails hd hs

theorem rangingEnds {bs : List FoundBurst} (h : w.Tied) : (w.rangingEnds l bs).Tied := by
  unfold Work.rangingEnds
  split
  · exact h
  · split
    · exact takeRanging h.mapLeg
    · exact h

theorem roundReceived {light : FrameLight} (h : w.Bound none u) : (w.roundReceived l light).Bound none u := by
  unfold Work.roundReceived
  split
  · exact h
  · exact takeReport h.mapLeg

theorem frameArrives {tag : BitVec 32} {data : List Byte} (h : w.Bound g u) : (w.frameArrives tag data).Bound g u := by
  unfold Work.frameArrives
  dsimp only
  split
  · exact h.mapLeg
  · exact h.discardDown

/-! ### Legs -/

theorem leaveService (h : w.Bound g u) : (w.leaveService l).Bound g u := by
  unfold Work.leaveService
  dsimp only
  exact disarmForLeg (mapLeg (discardDown h.mapLeg))

/-- What a leg fault makes of one entry, the monitor DISARMED already (R15). -/
theorem faultDrop (h : w.Tied) (hs : (w.leg l).monitor.state = .disarmed) : (w.faultDrop l d).Tied := by
  have hn : ¬(w.leg l).monitor.Searches d := Monitor.not_searches (by rw [hs]; rfl)
  unfold Work.faultDrop
  dsimp only
  split
  · next hd => exact h.lose (by rw [hd]; nofun)
  · next hd => exact h.lose (by rw [hd]; nofun)
  · next hd => exact h.lose (by rw [hd]; nofun)
  · next hd => exact h.lose (by rw [hd]; nofun)
  · next hd =>
    split
    · exact h.lose (by rw [hd]; nofun)
    · exact h.lose (by rw [hd]; nofun)
    · exact h.vacate hn
  · next hd =>
    split
    · exact h.lose (by rw [hd]; nofun)
    · exact h.lose (by rw [hd]; nofun)
    · exact h.vacate hn
  · exact h

/-- What a leg fault makes of the entries of a leg that is quiet (R15). -/
theorem faultDrops (h : w.Tied) (hq : (w.leg l).Quiet) :
    (Machine.forDrops allDrops (fun d w => w.faultDrop l d) (w.unhushAll l none)).Tied := by
  have quiet : ((w.unhushAll l none).leg l).Quiet :=
    (Work.forDrops_touches (P := fun _ => True) (fun d _ v hv => (Touches.refl hv).unhushDrop trivial) hq).quiet
  have k : (w.unhushAll l none).Tied := h.unhushAll
  generalize w.unhushAll l none = v at k quiet
  refine (List.foldlRecOn (motive := fun w : Work => w.Tied ∧ (w.leg l).Quiet) _ _ ⟨k, quiet⟩ fun v hv d _ => ?_).1
  exact ⟨hv.1.faultDrop hv.2.disarmed, ((Touches.refl (P := fun _ => True) hv.2).faultDrop trivial).quiet⟩

theorem faultLeg {cause : FaultCause} (h : w.Tied) : (w.faultLeg l cause).Tied := by
  have serve : (Machine.forDrops allDrops (fun d w => w.faultDrop l d)
      (((w.setLeg l .fault (some cause)).leaveService l).unhushAll l none)).Tied := by
    have k : ((w.setLeg l .fault (some cause)).leaveService l).Tied := h.setLeg.leaveService
    have quiet : (((w.setLeg l .fault (some cause)).leaveService l).leg l).Quiet := by
      rw [leaveService_eq, raise_leg, leg_mapLeg_self]
      exact LegRecord.outOfService_quiet _ _ _
    exact k.faultDrops quiet
  unfold Work.faultLeg
  split
  · exact serve
  · exact serve
  · exact serve
  · exact h.setLeg
  · exact h
  · exact h

theorem drainLeg (h : w.Tied) : (w.drainLeg l).Tied := by
  unfold Work.drainLeg
  dsimp only
  have k : ((w.setLeg l .draining).leaveService l).Tied := h.setLeg.leaveService
  generalize (w.setLeg l .draining).leaveService l = v at k
  have lanes : (v.mapLeg l fun r => { r with lanes := Vector.replicate 256 none }).Tied :=
    k.mapLeg (f := fun r => { r with lanes := Vector.replicate 256 none })
  exact (lanes.forDrops fun _ _ _ k => k.retire).drained

theorem legOn {n : Nat} (h : w.Bound g u) : (w.legOn l n).Bound g u := by
  unfold Work.legOn
  dsimp only
  split
  · exact setLeg h.mapLeg
  · exact setLeg (mapLeg h.mapLeg)

theorem reachDrop {n : Nat} {x : Int} (h : w.Bound g u) : (w.reachDrop l n x d).Bound g u := by
  have move (hd : (w.drop l d).state ≠ .vacant) :
      (if (w.drop l d).rtt.any fun r => decide (r > 8 * n) then w.lose l d .outOfReach
        else w.mapDrop l d fun e => { e with eqd := e.eqd.map fun q => shiftDelay q x }).Bound g u := by
    split
    · exact h.lose hd
    · exact h.mapDrop
  unfold Work.reachDrop
  dsimp only
  split
  · next hs => exact move (by rw [hs]; nofun)
  · next hs => exact move (by rw [hs]; nofun)
  · next hs => exact move (by rw [hs]; nofun)
  · next hs => exact move (by rw [hs]; nofun)
  · exact h.removeOrders
  · exact h.mapDrop
  · exact h

theorem abandonSpan (h : w.Bound g u) : (w.abandonSpan l).Bound g u := h.mapMonitor

theorem changeReach {n : Nat} {x : Int} (h : w.Bound g u) : (w.changeReach l n x).Bound g u := by
  unfold Work.changeReach
  exact (setLeg (queueOrder (forDrops h.mapLeg fun _ _ _ k => k.reachDrop))).abandonSpan

theorem lock (h : w.Bound g u) : w.lock.Bound g u := by
  have k : (w.mapTime fun t => { t with part := .ready, everLocked := true }).Bound g u := h.of_blocks
  unfold Work.lock
  dsimp only
  split
  · split
    · exact k.raise
    · exact (k.forLegs fun _ _ k => k.mapControl).raise
  · exact h

theorem unlock (h : w.Tied) : w.unlock.Tied := by
  unfold Work.unlock
  split
  · exact (h.of_blocks (w' := w.mapTime fun t => { t with part := .locking })).forLegs fun _ _ k => k.faultLeg
  · exact h

theorem pulse (h : w.Bound g u) : w.pulse.Bound g u := by
  unfold Work.pulse
  dsimp only
  split
  · exact raise (h.of_blocks (w' := w.mapTime Timebase.capture))
  · exact h

end Work.Bound

end Sys2Proof.Machine
end

section
set_option Elab.async false -- one theorem after another: side by side they ask for more threads than the check's memory limit grants
/-! PROOFS. Every request, every event and every boundary keeps the bindings two-sided; so does every step (R24, R144, R145). -/

namespace Sys2Proof.Machine

/-- A meter that is written or leaves, the entry as it was. -/
theorem Work.written_drop (w : Work) (l k : Leg) (d c : Drop) (m : Meter) (cause : CloseCause) :
    ((w.writeEntry l d m cause).afterWritten l d m cause).drop k c = w.drop k c := by
  have meters (v : Work) (o : Option Meter) : (v.setMeter l d o).drop k c = v.drop k c := by
    by_cases hk : k = l
    · rw [hk, Work.drop, Work.setMeter_leg]
      rfl
    · rw [Work.drop, Work.setMeter_eq, Work.leg_mapLeg_of_ne _ _ _ _ hk]
      rfl
  unfold Work.afterWritten
  split <;> rw [meters, Work.drop, Work.writeEntry_leg] <;> rfl

/-- An entry read from a request is bound to nothing (R21). -/
theorem readEnrol_binding {x : WireEnrol} {e : EnrolEntry} (h : readEnrol x = some e) : e.binding = none := by
  unfold readEnrol at h
  split at h
  · cases h
  · split at h <;> cases h
    rfl

/-- The position of a serial holds the entry with that serial (R22). -/
theorem Blocks.enrolled_some {b : Blocks} {x : Serial} {i : Fin 512} {e : EnrolEntry} (h : b.enrolled x = some (i, e)) :
    b.enrol[i] = some e ∧ e.serial = x := by
  unfold Blocks.enrolled at h
  split at h
  · next j hj =>
    obtain ⟨y, hy, hp⟩ := Option.map_eq_some_iff.mp h
    obtain ⟨rfl, rfl⟩ := Prod.mk.inj hp
    exact ⟨hy, beq_iff_eq.mp (Blocks.enrolWhere_some hj hy)⟩
  · cases h

namespace Work.Bound

variable {w : Work} {l : Leg} {d : Drop} {g : Option (Leg × Drop)} {u : Leg → Drop → Prop}

/-! ### The enrolment list -/

/-- A position of the list takes another entry, unbound as the one before it. -/
theorem setEnrol {i : Fin 512} {o : Option EnrolEntry} (h : w.Bound g u) (ho : ∀ e, o = some e → e.binding = none)
    (hi : ∀ e, w.blocks.enrol[i] = some e → e.binding = none) :
    ({ w with blocks := { w.blocks with enrol := w.blocks.enrol.set i.val o } } : Work).Bound g u := by
  have enrol (j : Fin 512) : (w.blocks.enrol.set i.val o)[j] = if j = i then o else w.blocks.enrol[j] := by
    by_cases hj : j = i
    · rw [if_pos hj, hj]
      exact Vector.getElem_set_self _
    · rw [if_neg hj]
      exact Vector.getElem_set_ne _ _ fun e => hj (Fin.ext e.symm)
  refine { h with listed := fun j e k c hj hb => ?_, bound := fun k c j hj => ?_ }
  · change (w.blocks.enrol.set i.val o)[j] = some e at hj
    rw [enrol] at hj
    split at hj
    · rw [ho e hj] at hb
      cases hb
    · exact h.listed j e k c hj hb
  · change ∃ e, (w.blocks.enrol.set i.val o)[j] = some e ∧ _
    obtain ⟨e, he, hb⟩ := h.bound k c j hj
    have hji : j ≠ i := by
      rintro rfl
      rw [hi e he] at hb
      cases hb
    rw [enrol, if_neg hji]
    exact ⟨e, he, hb⟩

theorem enrolAt {i : Fin 512} {e : EnrolEntry} (h : w.Bound g u) (he : e.binding = none) (hi : w.blocks.enrol[i] = none) :
    (w.enrolAt i e).Bound g u := by
  unfold Work.enrolAt
  refine (h.setEnrol (fun x hx => ?_) fun x hx => ?_).forLegs fun _ _ k => k.mapLeg
  · cases hx
    exact he
  · rw [hi] at hx
    cases hx

theorem unenrol {i : Fin 512} {e : EnrolEntry} (h : w.Bound g u) (hi : w.blocks.enrol[i] = some e) (he : e.binding = none) :
    (w.unenrol i).Bound g u :=
  h.setEnrol nofun fun x hx => by rw [← Option.some_inj.mp (hi.symm.trans hx), he]

theorem setQuota {i : Fin 512} {n : Nat} (h : w.Bound g u) : (w.setQuota i n).Bound g u := by
  have k : (w.mapEnrol i fun e => { e with quota := n }).Bound g u := by
    refine h.of_ties (fun j => ?_) (fun _ _ => rfl) fun _ _ => .inl
    by_cases hj : j = i
    · rw [hj, mapEnrol_enrol_self, Option.map_map]
      rfl
    · have : i.val ≠ j.val := fun e => hj (Fin.ext e.symm)
      simp [mapEnrol, Vector.getElem_set_ne, this]
  unfold Work.setQuota
  dsimp only
  split
  · exact k
  · split
    · exact k.clearQuota
    · exact k.judgeQuota

/-! ### Drops and lanes -/

theorem dismiss (h : w.Tied) : (w.dismiss l d).Tied := by
  unfold Work.dismiss
  dsimp only
  split
  · exact h.retire.queueOrder
  · exact h.retire

theorem completeRetirement (h : w.Bound none u) (hd : ¬u l d) : (w.completeRetirement l d).Bound none u := by
  unfold Work.completeRetirement
  split
  · next hr =>
    simp only [Bool.and_eq_true, beq_iff_eq] at hr
    refine h.setMeter.vacate ?_ hd
    rw [setMeter_leg]
    exact h.not_searches (by rw [hr.1]; rfl)
  · exact h

theorem storeLane {n : Fin 256} {x : Lane} {m : Bool} (h : w.Bound g u) : (w.storeLane l n x m).Bound g u := by
  have k : (w.mapLeg l fun r => { r with lanes := r.lanes.set n.val (some x) }).Bound g u := h.mapLeg
  unfold Work.storeLane
  dsimp only
  split
  · exact k.generate
  · exact k

theorem removeLane {n : Fin 256} (h : w.Bound g u) : (w.removeLane l n d).Bound g u :=
  (h.mapLeg (f := fun r => { r with lanes := r.lanes.set n.val none, orders := unbindLane n r.orders })).generate

theorem dropQueuedSleep (h : w.Bound g u) : (w.dropQueuedSleep l d).Bound g u := h.mapLeg

theorem release (h : w.Bound g u) (hd : (w.drop l d).state = .quarantined) : (w.release l d).Bound g u := by
  have k : ((w.removeOrders l d .mute).mapMonitor l fun m => { m with asks := m.asks.filter fun a => a != .mute d }).Bound g
      fun k c => u k c ∨ (w.drop k c).state ≠ .vacant := h.useNow.removeOrders.mapMonitor
  have hv := k.used (.inr (by rw [hd]; nofun) : u l d ∨ (w.drop l d).state ≠ .vacant)
  have hr : ((w.removeOrders l d .mute).mapMonitor l fun m => { m with asks := m.asks.filter fun a => a != .mute d }).Bound g u :=
    k.weaken fun _ _ => .inl
  unfold Work.release
  dsimp only
  generalize (w.removeOrders l d .mute).mapMonitor l (fun m => { m with asks := m.asks.filter fun a => a != .mute d }) = v at hv hr ⊢
  exact (hr.restate (f := fun e =>
    { e.resetCounts with state := .found, since := v.stamp, origin := some .released, reason := none, level := none }) hv
    (hr.restates_of_resume (f := fun e =>
      { e.resetCounts with state := .found, since := v.stamp, origin := some .released, reason := none, level := none }))).forget.raiseDropState

/-! ### Closes and the journal -/

theorem writeHeldMeter (h : w.Bound none u) (hd : ¬u l d) : (w.writeHeldMeter l d).Bound none u := by
  unfold Work.writeHeldMeter
  split
  · exact h
  · split
    · exact h
    · split
      · dsimp only
        split
        · next hr =>
          simp only [Bool.and_eq_true, beq_iff_eq] at hr
          exact h.writeEntry.afterWritten.vacate (h.writeEntry.afterWritten.not_searches (by rw [hr.2]; rfl)) hd
        · exact h.writeEntry.afterWritten
      · exact h

theorem writeHeld (h : w.Tied) : w.writeHeld.Tied :=
  h.forLegs fun _ _ h => h.forDrops fun _ _ _ h => h.writeHeldMeter id

theorem releaseEntries {n : Nat} (h : w.Bound g u) : (w.releaseEntries n).Bound g u := by
  unfold Work.releaseEntries
  dsimp only
  split
  · exact h.mapJournal
  · exact h.mapJournal.judgeLevel

/-! ### An empty part -/

/-- With every entry VACANT, no enrolment entry bound and no search under way the bindings agree. -/
theorem of_vacant (he : ∀ (i : Fin 512) (e : EnrolEntry), w.blocks.enrol[i] = some e → e.binding = none)
    (hd : ∀ l d, ∃ t, w.drop l d = DropEntry.vacant t) (hm : ∀ l, (w.leg l).monitor.state.searching = false) : w.Tied := by
  refine ⟨fun i e k c hi hb => ?_, fun k c i hi => ?_, fun k c => ?_, fun k c r hr => ?_, fun k c _ hs => ?_, fun _ _ => False.elim⟩
  · rw [he i e hi] at hb
    cases hb
  · obtain ⟨t, ht⟩ := hd k c
    rw [ht] at hi
    cases hi
  · obtain ⟨t, ht⟩ := hd k c
    rw [ht]
    exact iff_of_true rfl rfl
  · obtain ⟨t, ht⟩ := hd k c
    rw [ht] at hr
    cases hr
  · exact absurd hs (Monitor.not_searches (hm k))

theorem restart : w.restart.Tied := by
  obtain ⟨es, h⟩ := w.restart_restarted
  refine of_vacant (fun i e hi => ?_) (fun k c => ?_) fun k => ?_
  · rw [h.enrol, Fin.getElem_fin, Vector.getElem_map, Option.map_eq_some_iff] at hi
    obtain ⟨x, -, rfl⟩ := hi
    rfl
  · obtain ⟨meters, -, e⟩ := h.legs k
    rw [drop, e]
    exact ⟨w.stamp, Vector.getElem_replicate _⟩
  · obtain ⟨meters, -, e⟩ := h.legs k
    rw [e]
    rfl

theorem pinReset (b : Blocks) : (Work.start b.pinReset).Tied := by
  have leg (k : Leg) : (Work.start b.pinReset).leg k = _ := Vector.getElem_ofFn k.isLt
  refine of_vacant (fun i e hi => ?_) (fun k c => ?_) fun k => ?_
  · rw [show (Work.start b.pinReset).blocks.enrol = Vector.replicate 512 none from rfl, Fin.getElem_fin, Vector.getElem_replicate] at hi
    cases hi
  · rw [drop, leg]
    exact ⟨⟨0, 0⟩, Vector.getElem_replicate _⟩
  · rw [leg]
    rfl

/-! ### The events -/

theorem now {c : Instr} {f : Work → Work} (hc : c.Now f) (h : w.Tied) : (f w).Tied := by
  cases hc with
  | lock => exact h.lock
  | unlock => exact h.unlock
  | pulse => exact h.pulse
  | laserFault l => exact h.mapControl.faultLeg
  | laserFree l => exact h.mapControl
  | windowEnds l x => exact h.windowEnds
  | lastMiss l d => exact h.lastMiss
  | lastDrift l d v => exact h.lastDrift
  | discoveryEnds l x as => exact h.discoveryEnds
  | rangingEnds l bs => exact h.rangingEnds
  | roundReceived l x => exact h.roundReceived
  | spanEnds l r =>
    dsimp only [Work.spanEnds]
    split
    · exact h.takeReport
    · exact h
  | stepReads l r =>
    dsimp only [Work.stepReads]
    split
    · exact h.takeReport
    · exact h
  | frameArrives tag data => exact h.frameArrives
  | writeHeld => exact h.writeHeld
  | completeRetirement l d => exact h.completeRetirement id
  | drained l => exact h.drained

theorem atBoundary {c : Instr} {f : Work → Work} (hc : c.AtBoundary f) (h : w.Tied) : (f w).Tied := by
  cases hc with
  | endPreparing l => exact h.endPreparing
  | endRetiming l => exact h.endRetiming
  | recover l => exact h.recover
  | holdExpires l d => exact h.holdExpires
  | discoveryDue l => exact h.discoveryDue
  | wakeCheckDue l d => exact h.wakeCheckDue
  | resendFallsDue l d => exact h.resendFallsDue
  | waitFails l d => exact h.waitFails
  | retryOrders l => exact h.retryOrders
  | suspectTimeout l => exact h.suspectTimeout
  | holdoffExpires l => exact h.holdoffExpires

/-! ### The requests -/

theorem doLegOn (b : Byte) (n : BitVec 16) : Handler.Keeps Tied (doLegOn b n) := onLeg_keeps fun l p w h => by
  split
  · exact h
  · split
    · exact h
    · exact h.legOn

theorem doLegOff (b : Byte) : Handler.Keeps Tied (doLegOff b) := onLeg_keeps fun l p w h => by
  split
  · rw [Answer.ok_work]; exact h.drainLeg
  · rw [Answer.ok_work]; exact h.drainLeg
  · rw [Answer.ok_work]; exact h.drainLeg
  · rw [Answer.ok_work]; exact h.drainLeg
  · exact h
  · exact h

theorem doLegSet (b : Byte) (x : WireLegSet) : Handler.Keeps Tied (doLegSet b x) := onLeg_keeps fun l p w h => by
  dsimp only
  split
  · exact h
  · rw [Answer.ok_work]; exact h.mapControl

theorem doSetReach (b : Byte) (n : BitVec 16) : Handler.Keeps Tied (doSetReach b n) := onLeg_keeps fun l p w h => by
  dsimp only
  split
  · exact h
  · split
    · exact h
    · split
      · exact h
      · split
        · exact h
        · split
          · exact h
          · exact h.changeReach

theorem doStrangerRead (b c : Byte) : Handler.Keeps Tied (doStrangerRead b c) := onLeg_keeps fun l p w h => by
  dsimp only [Answer.ok]
  split
  · exact h
  · exact h.mapLeg

theorem doAdmit (b c : Byte) : Handler.Keeps Tied (doAdmit b c) := onDrop_keeps fun l d p w h => by
  split
  · next hs => exact h.serveDrop (by rw [hs]; nofun)
  · exact h

theorem doDismiss (b c : Byte) : Handler.Keeps Tied (doDismiss b c) := onDrop_keeps fun l d p w h => by
  dsimp only
  split
  · exact h
  · split
    · exact h
    · exact h.dismiss

theorem doLaneAdd (b c q k : Byte) (x y : BitVec 16) : Handler.Keeps Tied (doLaneAdd b c q k x y) := onDrop_keeps fun l d p w h => by
  dsimp only
  split
  · split
    · exact h
    · split
      · exact h
      · split
        · exact h
        · split
          · exact h
          · split
            · exact h
            · exact h.createLane.generate
  · exact h

theorem doLaneChange (b n k q : Byte) (x y : BitVec 16) : Handler.Keeps Tied (doLaneChange b n k q x y) := onLeg_keeps fun l p w h => by
  dsimp only
  split
  · exact h
  · split
    · exact h
    · split
      · exact h
      · split
        · exact h
        · split
          · exact h
          · split
            · exact h
            · split
              · exact h
              · split
                · exact h
                · split
                  · exact h
                  · exact h.storeLane

theorem doLaneRemove (b n : Byte) : Handler.Keeps Tied (doLaneRemove b n) := onLeg_keeps fun l p w h => by
  dsimp only
  split
  · exact h
  · split
    · exact h
    · split
      · exact h
      · exact h.removeLane

theorem doSleep (b c : Byte) (n : BitVec 16) : Handler.Keeps Tied (doSleep b c n) := onDrop_keeps fun l d p w h => by
  dsimp only
  split
  · exact h
  · split
    · exact h
    · exact h.queueOrder

theorem queueWake (l : Leg) (d : Drop) : Handler.Keeps Tied (queueWake l d) := fun p w h => by
  unfold Machine.queueWake
  split
  · exact h.queueOrder
  · exact h

theorem doWake (b c : Byte) : Handler.Keeps Tied (doWake b c) := onDrop_keeps fun l d p w h => by
  dsimp only
  split
  · split
    · exact h
    · exact queueWake l d p w h
  · split
    · exact h
    · split
      · split
        · exact queueWake l d p _ h.mapDrop
        · exact h
      · split
        · exact h.dropQueuedSleep
        · exact h
  · exact h

theorem doRogueSet (b : Byte) (x : WireRogue) : Handler.Keeps Tied (doRogueSet b x) := onLeg_keeps fun l p w h => by
  dsimp only
  split
  · split
    · exact h
    · split
      · exact h
      · exact h.rogueSettings
  · exact h

theorem doRogueArm (b : Byte) : Handler.Keeps Tied (doRogueArm b) := onLeg_keeps fun l p w h => by
  split
  · exact h
  · split
    · exact h.arm
    · exact h

theorem doRogueDisarm (b : Byte) : Handler.Keeps Tied (doRogueDisarm b) := onLeg_keeps fun l p w h => by
  split
  · exact h
  · exact h.abandonHunt
  · exact h.abandonHunt
  · exact h.disarmByHost
  · exact h.disarmByHost
  · exact h.disarmByHost

theorem doRelease (b c : Byte) : Handler.Keeps Tied (doRelease b c) := onDrop_keeps fun l d p w h => by
  split
  · next hs => exact h.release hs
  · exact h

theorem doEnrolAdd (x : WireEnrol) : Handler.Keeps Tied (doEnrolAdd x) := fun p w h => by
  unfold Machine.doEnrolAdd
  split
  · exact h
  · next e he =>
    split
    · exact h
    · split
      · exact h
      · next i hi =>
        refine h.enrolAt (readEnrol_binding he) ?_
        simpa using List.find?_some hi

theorem doEnrolRemove (x : Serial) : Handler.Keeps Tied (doEnrolRemove x) := fun p w h => by
  unfold Machine.doEnrolRemove
  split
  · exact h
  · next i e he =>
    split
    · exact h
    · next hb =>
      refine h.unenrol (Blocks.enrolled_some he).1 (by simpa using hb)

theorem doQuotaSet (a : BitVec 32) (q : BitVec 64) : Handler.Keeps Tied (doQuotaSet a q) := fun p w h => by
  unfold Machine.doQuotaSet
  split
  · exact h
  · split
    · exact h
    · exact h.setQuota

theorem doJournalRelease (q : BitVec 32) : Handler.Keeps Tied (doJournalRelease q) := fun p w h => by
  have k : (w.releaseEntries q.toNat).Tied := h.releaseEntries
  unfold Machine.doJournalRelease
  rw [Answer.ok_work]
  exact k.writeHeld

theorem doRestart : Handler.Keeps Tied doRestart := fun p w h => by
  unfold Machine.doRestart
  split
  · exact h
  · exact restart

/-- Every request keeps the bindings two-sided. -/
theorem request (q : Request) : Handler.Keeps Tied (runRequest q) := by
  cases q with
  | restart => exact doRestart
  | legOn l n => exact doLegOn l n
  | legOff l => exact doLegOff l
  | legSet l x => exact doLegSet l x
  | setReach l n => exact doSetReach l n
  | announceSet l x => exact onLeg_keeps fun l p w h => by rw [Answer.ok_work]; exact h.mapLeg
  | enrolAdd x => exact doEnrolAdd x
  | enrolRemove x => exact doEnrolRemove x
  | enrolRead x =>
    intro p w h
    dsimp only [runRequest, doEnrolRead]
    split <;> exact h
  | strangerRead l c => exact doStrangerRead l c
  | admitDrop l d => exact doAdmit l d
  | dismiss l d => exact doDismiss l d
  | laneAdd l d q c x y => exact doLaneAdd l d q c x y
  | laneChange l n c q x y => exact doLaneChange l n c q x y
  | laneRemove l n => exact doLaneRemove l n
  | windowStats l => exact onLeg_keeps fun l p w h => by rw [Answer.ok_work]; exact h.mapStats
  | sleep l d n => exact doSleep l d n
  | wake l d => exact doWake l d
  | rogueSet l x => exact doRogueSet l x
  | rogueArm l => exact doRogueArm l
  | rogueDisarm l => exact doRogueDisarm l
  | release l d => exact doRelease l d
  | quotaSet a q => exact doQuotaSet a q
  | journalRelease q => exact doJournalRelease q
  | journalWatermark v => exact fun p w h => h.mapJournal.judgeLevel
  | journalRead c m =>
    intro p w h
    dsimp only [runRequest, doJournalRead]
    split
    · exact h
    · rw [Answer.ok_work]; exact h.mapJournal
  | bandSet b k c r =>
    intro p w h
    dsimp only [runRequest, doBandSet]
    split
    · exact h
    · split
      · exact h.of_blocks
      · exact h
    · split
      · exact h
      · exact h.of_blocks
  | bandQuotaSet f => exact fun p w h => h.of_blocks
  | periodSet n => exact fun p w h => h.of_blocks
  | closePeriod m =>
    intro p w h
    dsimp only [runRequest, doClosePeriod]
    split
    · exact h
    · exact h.of_blocks
  | portSet m k =>
    intro p w h
    dsimp only [runRequest, doPortSet]
    split <;> exact h
  | identify | status | clearLatch | pulseRead | bandRead => exact fun p w h => h
  | legStatus l | mapRead l | rogueRead l => exact onLeg_keeps fun l p w h => h
  | dropRead l d => exact onDrop_keeps fun l d p w h => h
  | laneRead l n =>
    refine onLeg_keeps fun l p w h => ?_
    dsimp only
    split <;> exact h
  | meterRead l d =>
    refine onDrop_keeps fun l d p w h => ?_
    split <;> exact h

end Work.Bound

/-- The bindings of a work are those of its blocks. -/
theorem Work.Bound.start {w : Work} (h : w.Tied) : (Work.start w.blocks).Tied := h.of_blocks

/-- The blocks whose bindings agree. -/
theorem Work.Bound.kept : Blocks.Kept fun b => (Work.start b).Tied where
  pinReset b _ := Work.Bound.pinReset b
  beat _ h _ := h.of_blocks
  boundary b h _ := (Work.Bound.boundary (w := Work.start b.atNextRound) h.of_blocks).start
  now c f b hc h := (h.now hc).start
  atBoundary c f b hc h _ := (Work.Bound.atBoundary hc (w := Work.atNextBoundary b) h.of_blocks).start
  request q p b h := (Work.Bound.request q p (Work.start b) h).start

/-- Settles O14: beats, boundaries, events and requests each keep the bindings two-sided, strengthened by what a search may hold. -/
theorem stepKeepsBindingsTwoSided : Obligations.StepKeepsBindingsTwoSided := by
  intro s t h he
  rw [State.bindingsOk_iff (w := Work.start s.blocks) rfl] at h
  rw [State.bindingsOk_iff (w := Work.start t.blocks) rfl]
  exact Work.Bound.kept.step h he

end Sys2Proof.Machine
end

section
set_option Elab.async false -- one theorem after another: side by side they ask for more threads than the check's memory limit grants
/-! PROOFS. The shared changes of an entry as equations of its leg's record, and the obligations on ADMIT, RELEASE and the requests that
clear what they read (R26, R37, R80, R117, R152, R168, R200, R203). -/

namespace Sys2Proof.Machine

/-! ### Lanes and meters of one drop -/

/-- A lane table with every lane of drop `d` changed. -/
def lanesFor (d : Drop) (f : Lane → Lane) (t : Vector (Option Lane) 256) : Vector (Option Lane) 256 :=
  t.map fun o => o.map fun x => if x.owner = d then f x else x

theorem lanesFor_get (d : Drop) (f : Lane → Lane) (t : Vector (Option Lane) 256) (n : Fin 256) :
    (lanesFor d f t)[n] = t[n].map fun x => if x.owner = d then f x else x := Vector.getElem_map _ _

theorem lanesFor_some {d : Drop} {f : Lane → Lane} {t : Vector (Option Lane) 256} {n : Fin 256} {x : Lane} (h : t[n] = some x) :
    (lanesFor d f t)[n] = some (if x.owner = d then f x else x) := by
  rw [lanesFor_get, h]
  rfl

section
variable (w : Work) (l : Leg) (d : Drop)

theorem Work.mapLanesOf_eq (f : Lane → Lane) : w.mapLanesOf l d f = w.mapLeg l fun r => { r with lanes := lanesFor d f r.lanes } := rfl

theorem Work.setMeter_self : w.setMeter l d (w.meter l d) = w := by
  have h : (w.leg l).meters.set d.val (w.meter l d) = (w.leg l).meters := Vector.set_getElem_self _
  rw [Work.setMeter, Work.mapLeg, h]
  exact w.mapLeg_id l

/-- The meter of a drop that enters SERVING: its own, or one opened for its account (R168). -/
def Work.openedMeter : Option Meter :=
  match w.meter l d with
  | some m => some m
  | none => (w.enrolOf l d).map fun e => Meter.opened e.account w.stamp

theorem Work.openMeter_eq : w.openMeter l d = w.setMeter l d (w.openedMeter l d) := by
  unfold Work.openMeter Work.openedMeter
  cases hm : w.meter l d with
  | some m => exact ((congrArg (w.setMeter l d) hm).symm.trans (w.setMeter_self l d)).symm
  | none =>
    cases he : w.enrolOf l d with
    | some e => rfl
    | none => exact ((congrArg (w.setMeter l d) hm).symm.trans (w.setMeter_self l d)).symm

theorem Work.openedMeter_of_some {m : Meter} (h : w.meter l d = some m) : w.openedMeter l d = some m := by
  unfold Work.openedMeter
  rw [h]

theorem Work.openedMeter_of_none {i : Fin 512} {e : EnrolEntry} (h : w.meter l d = none) (hi : (w.drop l d).enrolRef = some i)
    (he : w.blocks.enrol[i] = some e) : w.openedMeter l d = some (Meter.opened e.account w.stamp) := by
  unfold Work.openedMeter Work.enrolOf
  rw [h, hi]
  simp only [he]
  rfl

end

theorem Meter.opened_usage (a : Nat) (t : Stamp) : (Meter.opened a t).usage = false := by
  simp [Meter.opened, Meter.usage]

/-! ### An entry that enters SERVING (R72, R80, R168) -/

/-- An entry that entered SERVING at stamp `t`. -/
def DropEntry.served (e : DropEntry) (t : Stamp) : DropEntry :=
  { e with state := .serving, since := t, outOfBand := 0, awaitingCause := none, origin := none, resume := none }

/-- A leg whose drop `d` entered SERVING with the meter given. -/
def LegRecord.served (r : LegRecord) (d : Drop) (t : Stamp) (m : Option Meter) : LegRecord :=
  { r with
    drops := r.drops.set d.val (r.drops[d].served t)
    lanes := lanesFor d Lane.ownerServes r.lanes
    meters := r.meters.set d.val m }

section
variable (w : Work) (l : Leg) (d : Drop)

theorem Work.toServing_eq : w.toServing l d = w.mapLeg l fun r => r.served d w.stamp (w.openedMeter l d) := by
  obtain ⟨v, hv⟩ : ∃ v, v = w.mapLeg l fun r =>
    { r with drops := r.drops.set d.val (r.drops[d].served w.stamp), lanes := lanesFor d Lane.ownerServes r.lanes } := ⟨_, rfl⟩
  have opens : w.toServing l d = v.openMeter l d := by
    unfold Work.toServing
    dsimp only
    rw [hv, Work.mapDrop_eq, Work.mapLanesOf_eq, Work.mapLeg_mapLeg]
    rfl
  have meter : v.openedMeter l d = w.openedMeter l d := by
    have hm : v.meter l d = w.meter l d := by rw [hv, Work.meter, Work.leg_mapLeg_self]; rfl
    have he : v.enrolOf l d = w.enrolOf l d := by
      unfold Work.enrolOf
      rw [hv, Work.drop, Work.leg_mapLeg_self]
      dsimp only
      rw [get_set, if_pos rfl]
      rfl
    unfold Work.openedMeter
    rw [hm, he, hv]
    rfl
  rw [opens, Work.openMeter_eq, meter, hv, Work.setMeter_eq, Work.mapLeg_mapLeg]
  rfl

theorem Work.serveDrop_leg (m : Option Bool) : (w.serveDrop l d m).leg l = (w.leg l).served d w.stamp (w.openedMeter l d) := by
  rw [Work.serveDrop, Work.toServing_eq, Work.raiseDropState, Work.raise_leg, Work.leg_mapLeg_self]

theorem Work.serveDrop_raised (m : Option Bool) : (w.serveDrop l d m).raised =
    w.raised ++ [⟨some l, some d, w.stamp, .dropState .serving w.stamp (w.drop l d).reason none m⟩] := by
  have entry : (w.toServing l d).drop l d = (w.drop l d).served w.stamp := by
    rw [Work.toServing_eq, Work.drop, Work.leg_mapLeg_self]
    simp only [LegRecord.served]
    rw [get_set, if_pos rfl]
    rfl
  rw [Work.serveDrop, Work.raiseDropState, Work.raise_raised, entry, Work.toServing_eq]
  rfl

end

/-! ### Requests on one drop -/

section
variable {tag leg drop : Byte} {l : Leg} {d : Drop} {s : State}

theorem exec_admit_awaiting (hl : toLeg? leg = some l) (hd : toDrop? drop = some d) (ht : s.takes tag = true)
    (hs : (s.drop l d).state = .awaiting) :
    exec (.admitDrop tag leg drop) s =
      .next ((s.withBlocks ((Work.start s.blocks).serveDrop l d none).blocks).reply 0x1C tag .none
        ((Work.start s.blocks).serveDrop l d none).raised) := by
  refine exec_answered (c := .admitDrop tag leg drop) (q := .admitDrop leg drop) rfl ht ?_
  rw [runRequest, doAdmit, onDrop_of_some hl hd, Work.drop_start, if_pos hs]

theorem exec_release_quarantined (hl : toLeg? leg = some l) (hd : toDrop? drop = some d) (ht : s.takes tag = true)
    (hs : (s.drop l d).state = .quarantined) :
    exec (.release tag leg drop) s =
      .next ((s.withBlocks ((Work.start s.blocks).release l d).blocks).reply 0x34 tag .none ((Work.start s.blocks).release l d).raised) := by
  refine exec_answered (c := .release tag leg drop) (q := .release leg drop) rfl ht ?_
  rw [runRequest, doRelease, onDrop_of_some hl hd, Work.drop_start, if_pos hs]

end

/-- An entry whose quarantine the host ended (R152). -/
def DropEntry.released (e : DropEntry) (t : Stamp) : DropEntry :=
  { e.resetCounts with state := .found, since := t, origin := some .released, reason := none, level := none }

theorem Work.release_leg (w : Work) (l : Leg) (d : Drop) :
    (w.release l d).leg l =
      { w.leg l with
        orders := (w.leg l).orders.filter fun e => !(e.target == some d && e.order.kind == .mute)
        monitor := { (w.leg l).monitor with asks := (w.leg l).monitor.asks.filter fun a => a != .mute d }
        drops := (w.leg l).drops.set d.val ((w.drop l d).released w.stamp)
        lastEcho := (w.leg l).lastEcho.set d.val none
        histories := (w.leg l).histories.set d.val History.empty } := by
  unfold Work.release
  dsimp only
  rw [Work.raiseDropState, Work.raise_leg, Work.forget, Work.mapDrop_eq, Work.mapMonitor_eq, Work.removeOrders, Work.mapLeg_mapLeg,
    Work.mapLeg_mapLeg, Work.mapLeg_mapLeg, Work.leg_mapLeg_self]
  rfl

/-- Settles O53: both requests as the equations of the leg's record that their work leaves. -/
theorem admitAndReleaseChangeTheDrop : Obligations.AdmitAndReleaseChangeTheDrop := by
  refine ⟨fun tag leg drop s ht hb => ⟨exec_drop_range (q := .admitDrop leg drop) rfl rfl ht hb,
      exec_drop_range (q := .release leg drop) rfl rfl ht hb⟩,
    fun tag leg drop l d s hl hd ht => ⟨fun hs => ⟨_, exec_admit_awaiting hl hd ht hs, ?_⟩, fun hs => ?_⟩,
    fun tag leg drop l d s hl hd ht => ⟨fun hs => ⟨_, exec_release_quarantined hl hd ht hs, ?_⟩, fun hs => ?_⟩⟩
  · have leg := (Work.start s.blocks).serveDrop_leg l d none
    have raised := (Work.start s.blocks).serveDrop_raised l d none
    have outside := (Work.start s.blocks).serveDrop_outside l d none
    generalize (Work.start s.blocks).serveDrop l d none = w at leg raised outside ⊢
    change w.drop l d = _ ∧ (∀ n x, _ → (_ → _ → (w.leg l).lanes[n] = _) ∧ (_ → (w.leg l).lanes[n] = _)) ∧
      (∀ m, _ → w.meter l d = _) ∧ (∀ i e, _ → _ → _ → ∃ m, w.meter l d = _ ∧ _) ∧ (w.leg l).orders = _ ∧
      (∀ c : Drop, _ → w.drop l c = _) ∧ _ ∧ ∀ k : Leg, k ≠ l → w.leg k = s.leg k
    have meter : w.meter l d = (Work.start s.blocks).openedMeter l d := by
      rw [Work.meter, leg]
      simp only [LegRecord.served]
      rw [get_set, if_pos rfl]
    refine ⟨?_, fun n x hx => ⟨fun ho hx' => ?_, fun hn => ?_⟩, fun m hm => ?_, fun i e hm hi he => ?_, ?_, fun c hc => ?_, ?_, fun k hk =>
      Work.outside_leg outside hk⟩
    · rw [Work.drop, leg]
      simp only [LegRecord.served]
      rw [get_set, if_pos rfl]
      rfl
    · rw [leg]
      exact (lanesFor_some hx).trans (by rw [if_pos ho, Lane.ownerServes, if_pos hx'])
    · rw [leg]
      refine (lanesFor_some hx).trans ?_
      split
      · next ho => rw [Lane.ownerServes, if_neg (hn.resolve_left fun h => h ho)]
      · rfl
    · rw [meter]
      exact Work.openedMeter_of_some _ l d hm
    · rw [meter]
      exact ⟨_, Work.openedMeter_of_none _ l d hm hi he, rfl, rfl, Meter.opened_usage _ _, rfl⟩
    · rw [leg]
      rfl
    · rw [Work.drop, leg]
      simp only [LegRecord.served]
      rw [get_set, if_neg hc]
      rfl
    · rw [raised]
      rfl
  · refine exec_refused (c := .admitDrop tag leg drop) (q := .admitDrop leg drop) rfl ht ?_
    rw [runRequest, doAdmit, onDrop_of_some hl hd, Work.drop_start, if_neg hs]
  · have leg := (Work.start s.blocks).release_leg l d
    have outside := (Work.start s.blocks).release_outside l d
    generalize (Work.start s.blocks).release l d = w at leg outside ⊢
    have entry : w.drop l d = (s.drop l d).released s.now := by
      rw [Work.drop, leg]
      dsimp only
      rw [get_set, if_pos rfl]
      rfl
    have others (c : Drop) (hc : c ≠ d) : w.drop l c = s.drop l c := by
      rw [Work.drop, leg]
      dsimp only
      rw [get_set, if_neg hc]
      rfl
    have histories : (w.leg l).histories[d] = History.empty ∧ (w.leg l).lastEcho[d] = none := by
      rw [leg]
      exact ⟨by rw [get_set, if_pos rfl], by rw [get_set, if_pos rfl]⟩
    have orders : ∀ e ∈ (w.leg l).orders, ¬(e.target = some d ∧ e.order = .mute) := by
      rw [leg]
      rintro e he ⟨h1, h2⟩
      have := (List.mem_filter.mp he).2
      simp [h1, h2, Order.kind] at this
    have rest : (w.leg l).lanes = (s.leg l).lanes ∧ (w.leg l).meters = (s.leg l).meters := by
      rw [leg]
      exact ⟨rfl, rfl⟩
    change (w.drop l d).state = _ ∧ (w.drop l d).origin = _ ∧ (w.drop l d).reason = _ ∧ (w.drop l d).level = _ ∧
      (w.drop l d).since = _ ∧ (w.drop l d).missed = _ ∧ (w.drop l d).trimCount = _ ∧ (w.drop l d).rangingAttempts = _ ∧
      (w.drop l d).nextEcho = _ ∧ (w.drop l d).marginal = _ ∧ (w.drop l d).outOfBand = _ ∧ (w.drop l d).noBurst = _ ∧
      (w.drop l d).cleanSinceWake = _ ∧ (w.drop l d).sleepCancelled = _ ∧ (w.drop l d).serial = _ ∧ (w.drop l d).enrolRef = _ ∧
      (w.drop l d).power = _ ∧ _
    rw [entry]
    exact ⟨rfl, rfl, rfl, rfl, rfl, rfl, rfl, rfl, rfl, rfl, rfl, rfl, rfl, rfl, rfl, rfl, rfl, histories.1, histories.2, orders,
      rest.1, rest.2, others, fun k hk => Work.outside_leg outside hk⟩
  · refine exec_refused (c := .release tag leg drop) (q := .release leg drop) rfl ht ?_
    rw [runRequest, doRelease, onDrop_of_some hl hd, Work.drop_start, if_neg hs]

/-! ### Requests that clear what they read (R26, R117, R200, R203) -/

/-- The notices and the replies of a queue together are its records. -/
theorem noticeCount_add_replies (q : List OutRecord) : q.length - noticeCount q = (q.filter fun x => !x.isNotice).length := by
  have := List.length_eq_length_filter_add (l := q) OutRecord.isNotice
  rw [noticeCount]
  omega

/-- Settles O26: each request's owner is one answer, with what it clears. -/
theorem clearingRequestsClearWhatTheyRead : Obligations.ClearingRequestsClearWhatTheyRead := by
  refine ⟨fun tag s h0 hq => ⟨statusOf s.port (Work.start s.blocks), ?_, rfl, rfl, rfl, rfl, rfl, rfl, rfl, rfl, ?_, rfl, rfl, fun k => ?_⟩,
    fun tag leg clear s ht hb => ⟨exec_leg_range (q := .strangerRead leg clear) rfl rfl ht hb,
      exec_leg_range (q := .windowStats leg) rfl rfl ht hb⟩,
    fun tag leg l s hl ht => ⟨?_, fun clear hc => ?_, ?_, fun latch => ?_⟩⟩
  · change serve 0x02 tag doStatus s = _
    simp only [serve, hasPlace, handOver, answersLatched, decide_eq_true hq]
    simp [doStatus, deliver_eq _ _ h0]
    rfl
  · exact noticeCount_add_replies s.port.outbound
  · simp only [statusOf, Fin.getElem_fin, Vector.getElem_map]
    rfl
  · refine exec_read (c := .strangerRead tag leg 0) (q := .strangerRead leg 0) rfl ht ?_
    rw [runRequest, doStrangerRead, onLeg_of_some hl, if_pos rfl]
    rfl
  · refine exec_answered (c := .strangerRead tag leg clear) (q := .strangerRead leg clear)
      (w := (Work.start s.blocks).mapLeg l fun r => { r with strangers := [] }) rfl ht ?_
    rw [runRequest, doStrangerRead, onLeg_of_some hl, if_neg hc]
    rfl
  · refine exec_answered (c := .windowStats tag leg) (q := .windowStats leg)
      (w := (Work.start s.blocks).mapStats l fun _ => WindowStats.zero s.now) rfl ht ?_
    rw [runRequest, doWindowStats, onLeg_of_some hl]
    rfl
  · obtain ⟨hp, -, h0, hq⟩ := State.takes_iff.mp ht
    change serve 0x04 tag doClearLatch _ = _
    simp only [serve, hasPlace, handOver, answersLatched, decide_eq_true hq, hp]
    simp [doClearLatch, deliver_eq _ _ h0]
    rfl

end Sys2Proof.Machine
end

section
set_option Elab.async false -- one theorem after another: side by side they ask for more threads than the check's memory limit grants
/-! PROOFS. The requests on the enrolment list (R21, R22, R79). -/

namespace Sys2Proof.Machine

/-! ### What an ENROL_ADD describes (R21) -/

/-- A template's class is one of the three and its figures are in range (R79, 11.8). -/
def templateInRange (t : WireTemplate) : Prop :=
  t.cls = 0 ∧ 1 ≤ t.first.toNat ∧ t.first.toNat ≤ 2000 ∨
    t.cls = 1 ∧ 1 ≤ t.first.toNat ∧ t.first.toNat ≤ 2000 ∧ 1 ≤ t.second.toNat ∨
    t.cls = 2 ∧ 1 ≤ t.first.toNat ∧ t.first.toNat ≤ 64 ∧ 1 ≤ t.second.toNat

/-- The figures of a template in range. -/
def templateFigures (t : WireTemplate) : LaneFigures :=
  if t.cls = 0 then .fixed t.first.toNat
  else if t.cls = 1 then .assured t.first.toNat (min t.second.toNat 8000)
  else .surplus t.first.toNat (min t.second.toNat 8000)

theorem readFigures_of_inRange {t : WireTemplate} (h : templateInRange t) : readFigures t.cls t.first t.second = some (templateFigures t) := by
  unfold readFigures templateFigures
  rcases h with ⟨hc, h1, h2⟩ | ⟨hc, h1, h2, h3⟩ | ⟨hc, h1, h2, h3⟩
  · simp [hc, h1, h2]
  · have : 1 ≤ min t.second.toNat 8000 := by omega
    simp [hc, h1, h2, this]
  · have : 1 ≤ min t.second.toNat 8000 := by omega
    simp [hc, h1, h2, this]

theorem readFigures_of_not_inRange {t : WireTemplate} (h : ¬templateInRange t) : readFigures t.cls t.first t.second = none := by
  unfold readFigures
  dsimp only
  split
  · next hc => exact if_neg fun hx => h (.inl ⟨hc, hx⟩)
  · split
    · next hc => exact if_neg fun hx => h (.inr (.inl ⟨hc, hx.1, hx.2.1, by omega⟩))
    · split
      · next hc => exact if_neg fun hx => h (.inr (.inr ⟨hc, hx.1, hx.2.1, by omega⟩))
      · rfl

theorem readTemplates_of_inRange {ts : List WireTemplate} (h : ∀ t ∈ ts, templateInRange t) :
    readTemplates ts = some (ts.map templateFigures) := by
  induction ts with
  | nil => rfl
  | cons t ts ih =>
    rw [List.forall_mem_cons] at h
    simp [readTemplates, readFigures_of_inRange h.1, ih h.2]

theorem readTemplates_of_not_inRange {ts : List WireTemplate} {t : WireTemplate} (ht : t ∈ ts) (h : ¬templateInRange t) :
    readTemplates ts = none := by
  induction ts with
  | nil => cases ht
  | cons x xs ih =>
    rcases List.mem_cons.mp ht with rfl | ht
    · simp [readTemplates, readFigures_of_not_inRange h]
    · cases hx : readFigures x.cls x.first x.second <;> simp [readTemplates, ih ht, hx]

theorem readAllowed_of_inRange {b : Byte} (h : b.toNat ≤ 3 ∨ b = 0xFF) :
    ∃ a, readAllowed b = some a ∧ (b = 0xFF → a = none) ∧ (b ≠ 0xFF → a.map Fin.val = some b.toNat) := by
  unfold readAllowed
  by_cases hb : b = 0xFF
  · exact ⟨none, if_pos hb, fun _ => rfl, fun hn => absurd hb hn⟩
  · have h4 : b.toNat < 4 := by
      have := h.resolve_right hb
      omega
    refine ⟨some ⟨b.toNat, h4⟩, ?_, fun h => absurd h hb, fun _ => rfl⟩
    rw [if_neg hb, toLeg?, dif_pos h4]
    rfl

theorem readAllowed_of_not_inRange {b : Byte} (h : ¬(b.toNat ≤ 3 ∨ b = 0xFF)) : readAllowed b = none := by
  rw [not_or] at h
  rw [readAllowed, if_neg h.2, toLeg?_none (by omega)]
  rfl

theorem readMode_of_inRange {b : Byte} (h : b.toNat ≤ 1) : readMode b = some (if b = 0 then .auto else .hold) := by
  unfold readMode
  split
  · rfl
  · next h0 =>
    refine if_pos (BitVec.eq_of_toNat_eq ?_)
    have : b.toNat ≠ 0 := fun h => h0 (BitVec.eq_of_toNat_eq h)
    change b.toNat = 1
    omega

theorem readMode_of_not_inRange {b : Byte} (h : ¬b.toNat ≤ 1) : readMode b = none := by
  unfold readMode
  rw [if_neg fun h0 => h (by simp [h0]), if_neg fun h1 => h (by simp [h1])]

/-- The arguments of an ENROL_ADD are in range (R21 check 1). -/
def enrolInRange (x : WireEnrol) : Prop :=
  (x.allowed.toNat ≤ 3 ∨ x.allowed = 0xFF) ∧ x.account ≠ 0 ∧ x.mode.toNat ≤ 1 ∧ x.templates.length ≤ 4 ∧
    ∀ t ∈ x.templates, templateInRange t

theorem readEnrol_of_inRange {x : WireEnrol} (h : enrolInRange x) :
    ∃ a, (x.allowed = 0xFF → a = none) ∧ (x.allowed ≠ 0xFF → a.map Fin.val = some x.allowed.toNat) ∧
      readEnrol x = some ⟨x.serial, a, x.account.toNat, if x.mode = 0 then .auto else .hold, x.quota.toNat,
        x.templates.map templateFigures, none⟩ := by
  obtain ⟨ha, hacc, hm, hl, ht⟩ := h
  obtain ⟨a, hra, h1, h2⟩ := readAllowed_of_inRange ha
  refine ⟨a, h1, h2, ?_⟩
  have hacc : ¬(x.account.toNat = 0 ∨ x.templates.length > 4) := by
    rintro (h | h)
    · exact hacc (BitVec.eq_of_toNat_eq h)
    · omega
  simp only [readEnrol, if_neg hacc, hra, readMode_of_inRange hm, readTemplates_of_inRange ht]

theorem readEnrol_of_not_inRange {x : WireEnrol} (h : ¬enrolInRange x) : readEnrol x = none := by
  unfold readEnrol
  split
  · rfl
  · next h1 =>
    rw [not_or] at h1
    have hacc : x.account ≠ 0 := fun h0 => h1.1 (by simp [h0])
    have hl : x.templates.length ≤ 4 := by omega
    split
    · next a m ts ha hm ht =>
      refine absurd ⟨?_, hacc, ?_, hl, fun t htm => ?_⟩ h
      · by_contra hn
        rw [readAllowed_of_not_inRange hn] at ha
        cases ha
      · by_contra hn
        rw [readMode_of_not_inRange hn] at hm
        cases hm
      · by_contra hn
        rw [readTemplates_of_not_inRange htm hn] at ht
        cases ht
    · rfl

/-! ### The list -/

/-- An entry that meets a condition is found. -/
theorem Blocks.enrolWhere_isSome {b : Blocks} {p : EnrolEntry → Bool} {j : Fin 512} {o : EnrolEntry} (h : b.enrol[j] = some o)
    (hp : p o = true) : (b.enrolWhere p).isSome = true := by
  unfold Blocks.enrolWhere
  rw [List.find?_isSome]
  exact ⟨j, List.mem_finRange j, by rw [h]; exact hp⟩

/-- In an ascending list the first item that meets a condition is the least. -/
theorem find?_least {α : Type} [LinearOrder α] {xs : List α} {p : α → Bool} {i : α} (sorted : xs.Pairwise (· < ·)) (hi : i ∈ xs)
    (hp : p i = true) (hlow : ∀ j, j < i → p j = false) : xs.find? p = some i := by
  induction xs with
  | nil => cases hi
  | cons x xs ih =>
    rw [List.pairwise_cons] at sorted
    rcases List.mem_cons.mp hi with rfl | hi
    · exact List.find?_cons_of_pos hp
    · rw [List.find?_cons_of_neg (by rw [hlow x (sorted.1 i hi)]; exact Bool.false_ne_true)]
      exact ih sorted.2 hi

/-- The lowest free position (R21). -/
theorem Blocks.freeEnrol_some {b : Blocks} {i : Fin 512} (hi : b.enrol[i] = none) (hlow : ∀ j : Fin 512, j < i → b.enrol[j] ≠ none) :
    b.freeEnrol = some i :=
  find?_least (List.pairwise_lt_finRange 512) (List.mem_finRange i) (Option.isNone_iff_eq_none.mpr hi) fun j hj =>
    Bool.eq_false_iff.mpr (mt Option.isNone_iff_eq_none.mp (hlow j hj))

theorem Blocks.freeEnrol_none {b : Blocks} (h : ∀ j : Fin 512, b.enrol[j] ≠ none) : b.freeEnrol = none := by
  unfold Blocks.freeEnrol
  rw [List.find?_eq_none]
  intro j _
  simpa using h j

/-- An enrolment entry stored, its serial gone from every stranger list (R21). -/
theorem Work.enrolAt_eq (w : Work) (i : Fin 512) (e : EnrolEntry) :
    w.enrolAt i e =
      { w with
        blocks :=
          { w.blocks with
            enrol := w.blocks.enrol.set i.val (some e)
            legs := w.blocks.legs.map fun r => { r with strangers := r.strangers.filter fun x => x.serial != e.serial } } } :=
  forLegs_mapLeg _ _

section
variable {p : Port} {w : Work} {serial : Serial} {i : Fin 512} {e : EnrolEntry}

theorem doEnrolRemove_absent (h : w.blocks.enrolled serial = none) : doEnrolRemove serial p w = .refuse .absent p w := by
  unfold doEnrolRemove
  rw [h]

theorem doEnrolRemove_bound (h : w.blocks.enrolled serial = some (i, e)) (hb : e.binding ≠ none) :
    doEnrolRemove serial p w = .refuse .busy p w := by
  unfold doEnrolRemove
  rw [h]
  exact if_pos (Option.isSome_iff_ne_none.mpr hb)

theorem doEnrolRemove_unbound (h : w.blocks.enrolled serial = some (i, e)) (hb : e.binding = none) :
    doEnrolRemove serial p w = .ok .none p (w.unenrol i) := by
  unfold doEnrolRemove
  rw [h]
  exact if_neg (by simp [hb])

end

/-- Settles O52: the arguments read as `readEnrol_of_inRange` and its counterpart say, then the three refusals and the store. -/
theorem enrolmentListRequests : Obligations.EnrolmentListRequests := by
  intro tag s ht
  refine ⟨fun x => ?_, fun i e he => ⟨fun hb => ?_, fun hb => ?_⟩, fun serial hn => ?_⟩
  · intro figuresOk inRange held
    have twice (e : EnrolEntry) (h1 : e.serial = x.serial) (h2 : e.account = x.account.toNat) :
        held ↔ (s.blocks.enrolWhere fun o => o.serial == e.serial || o.account == e.account).isSome = true := by
      constructor
      · rintro ⟨j, o, hj, ho⟩
        exact Blocks.enrolWhere_isSome hj (by simpa [h1, h2] using ho)
      · intro h
        obtain ⟨j, hj⟩ := Option.isSome_iff_exists.mp h
        have found := List.find?_some hj
        cases hj' : s.blocks.enrol[j] with
        | none => simp [hj'] at found
        | some o => exact ⟨j, o, hj', by simpa [hj', h1, h2] using found⟩
    refine ⟨fun hr => ?_, fun hr hh => ?_, fun hr hh hf => ?_, fun i hr hh hi hlow => ?_⟩
    · refine exec_refused (q := .enrolAdd x) rfl ht ?_
      rw [runRequest, doEnrolAdd, readEnrol_of_not_inRange hr]
    · obtain ⟨a, -, -, hread⟩ := readEnrol_of_inRange hr
      refine exec_refused (q := .enrolAdd x) rfl ht ?_
      rw [runRequest, doEnrolAdd, hread]
      exact if_pos ((twice _ rfl rfl).mp hh)
    · obtain ⟨a, -, -, hread⟩ := readEnrol_of_inRange hr
      refine exec_refused (q := .enrolAdd x) rfl ht ?_
      rw [runRequest, doEnrolAdd, hread]
      refine (if_neg (mt (twice _ rfl rfl).mpr hh)).trans ?_
      rw [Work.start_blocks, Blocks.freeEnrol_none hf]
    · obtain ⟨a, ha, hn, hread⟩ := readEnrol_of_inRange hr
      refine ⟨⟨x.serial, a, x.account.toNat, if x.mode = 0 then .auto else .hold, x.quota.toNat, x.templates.map templateFigures, none⟩,
        rfl, rfl, rfl, rfl, ha, hn, rfl, rfl, (exec_answered (c := .enrolAdd tag x) (q := .enrolAdd x) (body := .enrolAdd i)
        (w := (Work.start s.blocks).enrolAt i ⟨x.serial, a, x.account.toNat, if x.mode = 0 then .auto else .hold, x.quota.toNat,
          x.templates.map templateFigures, none⟩) rfl ht ?_).trans ?_⟩
      · rw [runRequest, doEnrolAdd, hread]
        refine (if_neg (mt (twice _ rfl rfl).mpr hh)).trans ?_
        rw [Work.start_blocks, Blocks.freeEnrol_some hi hlow]
      · rw [Work.enrolAt_eq]
        rfl
  · refine exec_answered (c := .enrolRemove tag e.serial) (q := .enrolRemove e.serial) (w := (Work.start s.blocks).unenrol i) rfl ht ?_
    rw [runRequest]
    exact doEnrolRemove_unbound (w := Work.start s.blocks) he hb
  · refine exec_refused (c := .enrolRemove tag e.serial) (q := .enrolRemove e.serial) rfl ht ?_
    rw [runRequest]
    exact doEnrolRemove_bound (w := Work.start s.blocks) he hb
  · have absent : s.blocks.enrolled serial = none :=
      Blocks.enrolled_none (Blocks.enrolWhere_none fun i e he => by simpa using hn i e he)
    refine exec_refused (c := .enrolRemove tag serial) (q := .enrolRemove serial) rfl ht ?_
    rw [runRequest]
    exact doEnrolRemove_absent (w := Work.start s.blocks) absent

end Sys2Proof.Machine
end

section
set_option Elab.async false -- one theorem after another: side by side they ask for more threads than the check's memory limit grants
/-! PROOFS. Closes that waited, and retirements that complete (R35, R170, R179, R183). -/

namespace Sys2Proof.Machine

section
variable (w : Work) (l : Leg) (d : Drop)

/-- A written close: the entry, and the meter restarted or gone (R179). -/
theorem Work.afterWritten_eq (m : Meter) (c : CloseCause) :
    (w.writeEntry l d m c).afterWritten l d m c =
      (w.writeEntry l d m c).setMeter l d (if c.ending then none else some (m.restarted w.stamp (w.drop l d).outOfService)) := by
  have stamp : (w.writeEntry l d m c).stamp = w.stamp := Work.outside_stamp (w.writeEntry_outside l d m c)
  have drop : (w.writeEntry l d m c).drop l d = w.drop l d := by rw [Work.drop, Work.writeEntry_leg]; rfl
  unfold Work.afterWritten
  rw [stamp, drop]
  cases c.ending <;> rfl

theorem Work.written_closesAs (m : Meter) (c : CloseCause) :
    w.ClosesAs l d ⟨if c.ending then none else some (m.restarted w.stamp (w.drop l d).outOfService), true, c.ending⟩
      [w.entryFor l d m c] ((w.writeEntry l d m c).afterWritten l d m c, c.ending) := by
  rw [Work.afterWritten_eq]
  exact .write w l d c m _ _

/-- The bindings of the list behind a vacancy (R24). -/
theorem Work.vacate_enrol_at {i : Fin 512} (hi : (w.drop l d).enrolRef = some i) :
    (w.vacate l d).blocks.enrol[i] = (w.blocks.enrol[i]).map fun e => { e with binding := none } := by
  have unbound : (w.unbound l d).blocks.enrol[i] = (w.blocks.enrol[i]).map fun e => { e with binding := none } := by
    unfold Work.unbound
    rw [hi]
    exact Work.mapEnrol_enrol_self w i _
  rw [Work.vacate_eq, ← unbound]
  unfold Work.drained
  split <;> rfl

theorem Work.vacate_meters : ((w.vacate l d).leg l).meters = (w.leg l).meters := by
  obtain ⟨c, hc, -⟩ := ((w.leg l).vacated d w.stamp).offIfVacant_eq
  rw [Work.vacate_leg, hc]
  rfl

theorem Work.vacate_drop_of_ne {c : Drop} (h : c ≠ d) : (w.vacate l d).drop l c = w.drop l c := by
  obtain ⟨k, hk, -⟩ := ((w.leg l).vacated d w.stamp).offIfVacant_eq
  rw [Work.drop, Work.vacate_leg, hk]
  simp only [LegRecord.vacated]
  rw [get_set, if_neg h]
  rfl

end

section
variable {w : Work} {l : Leg} {d : Drop}

/-- A meter without a pending close has none to write. -/
theorem Work.writeHeldMeter_of_open (h : ∀ m, w.meter l d = some m → m.pending = none) : w.writeHeldMeter l d = w := by
  unfold Work.writeHeldMeter
  split
  · rfl
  · next m hm => simp only [h m hm]

theorem Work.writeHeldMeter_of_full (h : w.blocks.journal.room = false) : w.writeHeldMeter l d = w := by
  unfold Work.writeHeldMeter
  split
  · rfl
  · split
    · rfl
    · rw [if_neg (by rw [h]; exact Bool.false_ne_true)]

/-- A HELD meter's close written (R183). -/
theorem Work.writeHeldMeter_of_held {m : Meter} {c : CloseCause} {t : Stamp} (hm : w.meter l d = some m) (hp : m.pending = some (c, t))
    (hr : w.blocks.journal.room = true) :
    w.writeHeldMeter l d =
      if c.ending && (((w.writeEntry l d m c).afterWritten l d m c).drop l d).state == .retiring then
        ((w.writeEntry l d m c).afterWritten l d m c).vacate l d
      else (w.writeEntry l d m c).afterWritten l d m c := by
  unfold Work.writeHeldMeter
  simp only [hm, hp, if_pos hr]

end

/-- A fold with one item that acts, before the others and behind them. -/
theorem foldl_single {α β : Type} {xs : List α} {f : β → α → β} {w : β} {p : α} (hn : xs.Nodup) (hp : p ∈ xs)
    (before : ∀ q ∈ xs, q ≠ p → f w q = w) (behind : ∀ q ∈ xs, q ≠ p → f (f w p) q = f w p) : xs.foldl f w = f w p := by
  have still (v : β) (ys : List α) (h : ∀ q ∈ ys, f v q = v) : ys.foldl f v = v := by
    induction ys with
    | nil => rfl
    | cons y ys ih =>
      rw [List.foldl_cons, h y List.mem_cons_self]
      exact ih fun q hq => h q (List.mem_cons_of_mem _ hq)
  induction xs with
  | nil => cases hp
  | cons x xs ih =>
    rw [List.nodup_cons] at hn
    rw [List.foldl_cons]
    by_cases hx : x = p
    · subst hx
      exact still _ _ fun q hq => behind q (List.mem_cons_of_mem _ hq) fun e => hn.1 (e ▸ hq)
    · rw [before x List.mem_cons_self hx]
      exact ih hn.2 ((List.mem_cons.mp hp).resolve_left fun e => hx e.symm) (fun q hq => before q (List.mem_cons_of_mem _ hq))
        fun q hq => behind q (List.mem_cons_of_mem _ hq)

section
variable {w : Work} {l : Leg} {d : Drop}

/-- Work on leg `l` that leaves the meters of the other drops. -/
def Work.SameMeters (l : Leg) (d : Drop) (w w' : Work) : Prop := ∀ k c, (k, c) ≠ (l, d) → w'.meter k c = w.meter k c

/-- One HELD meter is all there is to write. -/
theorem Work.writeHeld_single (others : w.SameMeters l d (w.writeHeldMeter l d))
    (alone : ∀ (k : Leg) (c : Drop) (m' : Meter), w.meter k c = some m' → m'.pending ≠ none → k = l ∧ c = d) :
    w.writeHeld = w.writeHeldMeter l d := by
  have still (k : Leg) (c : Drop) (h : (k, c) ≠ (l, d)) (m : Meter) (hm : w.meter k c = some m) : m.pending = none := by
    by_contra hp
    obtain ⟨rfl, rfl⟩ := alone k c m hm hp
    exact h rfl
  unfold Work.writeHeld
  rw [forLegs_forDrops fun l d w => w.writeHeldMeter l d]
  have nodup := allPlaces_nodup
  have mem := mem_allPlaces (l, d)
  generalize allPlaces = ps at nodup mem
  refine foldl_single (p := (l, d)) (f := fun (w : Work) p => w.writeHeldMeter p.1 p.2) nodup mem (fun q _ hq => ?_) fun q _ hq => ?_
  · exact Work.writeHeldMeter_of_open (still q.1 q.2 hq)
  · refine Work.writeHeldMeter_of_open fun m hm => ?_
    rw [others q.1 q.2 hq] at hm
    exact still q.1 q.2 hq m hm

/-- A written close, as the legs and the journal see it. -/
theorem Work.written_sameMeters (m : Meter) (c : CloseCause) : w.SameMeters l d ((w.writeEntry l d m c).afterWritten l d m c) := by
  have closed := w.written_closesAs l d m c
  intro k e h
  by_cases hk : k = l
  · subst hk
    have he : e ≠ d := fun he => h (by rw [he])
    rw [Work.meter, closed.leg]
    dsimp only
    rw [get_set, if_neg he]
    rfl
  · rw [Work.meter, Work.afterWritten_eq, Work.outside_leg (l := l) _ hk]
    · rfl
    · rw [Work.setMeter_outside, Work.writeEntry_outside]

theorem Work.SameMeters.vacate {v : Work} (h : w.SameMeters l d v) : w.SameMeters l d (v.vacate l d) := by
  intro k c hc
  rw [← h k c hc]
  by_cases hk : k = l
  · subst hk
    rw [Work.meter, Work.vacate_meters]
    rfl
  · rw [Work.meter, Work.outside_leg (v.vacate_outside l d) hk]
    rfl

end

theorem DropEntry.outOfService_iff (e : DropEntry) :
    e.outOfService = true ↔ e.state = .lost ∨ e.state = .quarantined ∨
      e.state = .hushed ∧ ∃ back, e.resume = some back ∧ back.state = .lost := by
  simp [DropEntry.outOfService, Option.any_eq_true, or_assoc]

theorem exec_heldCloseWrite (s : State) : exec .heldCloseWrite s = .next (event Work.writeHeld s) := rfl

/-- Where meters are HELD only without room there is nothing to write (R183). -/
theorem writeHeld_of_heldOk {w : Work} (h : w.blocks.HeldOk) : w.writeHeld = w := by
  have still (k : Leg) (c : Drop) : w.writeHeldMeter k c = w := by
    cases hr : w.blocks.journal.room with
    | true => exact Work.writeHeldMeter_of_open fun m hm => h.waits hr k c m hm
    | false => exact Work.writeHeldMeter_of_full hr
  unfold Work.writeHeld
  rw [forLegs_forDrops fun l d w => w.writeHeldMeter l d]
  induction allPlaces with
  | nil => rfl
  | cons p ps ih => rw [List.foldl_cons, still]; exact ih

/-- Settles O59: one HELD meter is the one item of the sweep that acts; its close is written as `written_closesAs` says. -/
theorem heldClosesAndRetirementsComplete : Obligations.HeldClosesAndRetirementsComplete := by
  refine ⟨fun s h => ?_, fun l d s => ⟨fun m cause at' hm hp hc hr alone => ?_, fun m cause at' hm hp hc hr hd alone => ?_,
    fun hd hu => ?_⟩⟩
  · rw [exec_heldCloseWrite, event, writeHeld_of_heldOk (w := Work.start s.blocks) h]
    rfl
  · have hend : cause.ending = false := by rcases hc with rfl | rfl <;> rfl
    have closed := (Work.start s.blocks).written_closesAs l d m cause
    have same := Work.written_sameMeters (w := Work.start s.blocks) (l := l) (d := d) m cause
    have wrote := Work.writeHeldMeter_of_held (w := Work.start s.blocks) hm hp hr
    rw [hend, Bool.false_and, if_neg Bool.false_ne_true] at wrote
    have swept := Work.writeHeld_single (w := Work.start s.blocks) (wrote ▸ same) alone
    have outside : (((Work.start s.blocks).writeEntry l d m cause).afterWritten l d m cause).outside l = (Work.start s.blocks).outside l := by
      rw [Work.afterWritten_eq, Work.setMeter_outside, Work.writeEntry_outside]
    refine ⟨_, exec_heldCloseWrite s, ?_⟩
    rw [event, swept, wrote]
    generalize ((Work.start s.blocks).writeEntry l d m cause).afterWritten l d m cause = w at closed same outside
    obtain ⟨leg, -, entries, nextSeq, -⟩ := closed
    rw [hend] at leg
    refine ⟨entries, nextSeq, ⟨m.restarted s.now (s.drop l d).outOfService, ?_, rfl, Meter.opened_usage m.account s.now, rfl, rfl, rfl, rfl, rfl, rfl, rfl,
      (s.drop l d).outOfService_iff⟩, ?_, fun c hc => same l c fun e => hc (Prod.mk.inj e).2, fun k hk => Work.outside_leg outside hk⟩
    · change w.meter l d = _
      rw [Work.meter, leg]
      dsimp only
      rw [get_set, if_pos rfl]
      rfl
    · change (w.leg l).drops = _
      rw [leg]
      rfl
  · have hend : cause.ending = true := by rcases hc with rfl | rfl <;> rfl
    have closed := (Work.start s.blocks).written_closesAs l d m cause
    have same := Work.written_sameMeters (w := Work.start s.blocks) (l := l) (d := d) m cause
    have wrote := Work.writeHeldMeter_of_held (w := Work.start s.blocks) hm hp hr
    have retiring : (((Work.start s.blocks).writeEntry l d m cause).afterWritten l d m cause).drop l d = s.drop l d :=
      Work.written_drop _ l l d d m cause
    rw [retiring, hend, hd, if_pos (show (true && DropState.retiring == DropState.retiring) = true from rfl)] at wrote
    have swept := Work.writeHeld_single (w := Work.start s.blocks) (wrote ▸ same.vacate) alone
    have outside : (((Work.start s.blocks).writeEntry l d m cause).afterWritten l d m cause).outside l = (Work.start s.blocks).outside l := by
      rw [Work.afterWritten_eq, Work.setMeter_outside, Work.writeEntry_outside]
    refine ⟨_, exec_heldCloseWrite s, ?_⟩
    rw [event, swept, wrote]
    generalize ((Work.start s.blocks).writeEntry l d m cause).afterWritten l d m cause = w at closed same outside
    obtain ⟨leg, -, entries, -, -⟩ := closed
    rw [hend] at leg
    refine ⟨?_, ?_, ?_, fun c hc => ⟨?_, ?_⟩, fun k hk => Work.outside_leg ((w.vacate_outside l d).trans outside) hk⟩
    · change (w.vacate l d).blocks.journal.entries = _
      rw [Work.vacate_journal]
      exact entries
    · change ((w.vacate l d).leg l).meters[d] = _
      rw [Work.vacate_meters, leg]
      dsimp only
      rw [get_set, if_pos rfl]
      rfl
    · change (w.vacate l d).drop l d = _
      rw [Work.vacate_drop, Work.outside_stamp outside]
      rfl
    · change (w.vacate l d).drop l c = _
      rw [Work.vacate_drop_of_ne _ _ _ hc, Work.drop, leg]
      rfl
    · exact same.vacate l c fun e => hc (Prod.mk.inj e).2
  · have due : ((Work.start s.blocks).drop l d).state == .retiring && !(((Work.start s.blocks).meter l d).any Meter.usage) := by
      rw [Work.drop_start, hd, Work.meter_start]
      cases hm : s.meter l d with
      | none => rfl
      | some m => simp [hu m hm]
    refine ⟨_, rfl, ?_⟩
    rw [event, Work.completeRetirement, if_pos due]
    obtain ⟨w, hw⟩ : ∃ w, w = (Work.start s.blocks).setMeter l d none := ⟨_, rfl⟩
    have leg : w.leg l = { s.leg l with meters := (s.leg l).meters.set d.val none } := by rw [hw, Work.setMeter_leg]; rfl
    have outside : w.outside l = (Work.start s.blocks).outside l := by rw [hw, Work.setMeter_outside]
    have journal : w.blocks.journal = s.blocks.journal := by rw [hw]; rfl
    have enrol : w.blocks.enrol = s.blocks.enrol := by rw [hw]; rfl
    have entry (c : Drop) : w.drop l c = s.drop l c := by rw [Work.drop, leg]; rfl
    rw [← hw]
    refine ⟨?_, ?_, fun i hi => ?_, fun c hc => ⟨?_, ?_⟩, (w.vacate_journal l d).trans journal, fun k hk =>
      Work.outside_leg ((w.vacate_outside l d).trans outside) hk⟩
    · change (w.vacate l d).drop l d = _
      rw [Work.vacate_drop, Work.outside_stamp outside]
      rfl
    · change ((w.vacate l d).leg l).meters[d] = _
      rw [Work.vacate_meters, leg]
      dsimp only
      rw [get_set, if_pos rfl]
    · rw [← enrol]
      exact w.vacate_enrol_at l d ((congrArg DropEntry.enrolRef (entry d)).trans hi)
    · exact (w.vacate_drop_of_ne l d hc).trans (entry c)
    · change ((w.vacate l d).leg l).meters[c] = _
      rw [Work.vacate_meters, leg]
      dsimp only
      rw [get_set, if_neg hc]
      rfl

end Sys2Proof.Machine
end

section
set_option Elab.async false -- one theorem after another: side by side they ask for more threads than the check's memory limit grants
/-! PROOFS. The return of the HUSHED entries and the end of a search, as changes of a leg's record (R36, R125, R144, R145, R147, R149). -/

namespace Sys2Proof.Machine

/-! ### The return of HUSHED entries -/

/-- A lane changed in nothing but its state, its credit and its backlog. -/
def Lane.Keeps (f : Lane → Lane) : Prop := ∀ x, (f x).owner = x.owner ∧ (f x).port = x.port ∧ (f x).figures = x.figures

theorem Lane.ownerServes_keeps : Lane.Keeps Lane.ownerServes := fun x => by
  unfold Lane.ownerServes
  split <;> exact ⟨rfl, rfl, rfl⟩

theorem Lane.ownerGone_keeps : Lane.Keeps Lane.ownerGone := fun x => by
  unfold Lane.ownerGone Lane.noCredit Lane.suspend
  split <;> exact ⟨rfl, rfl, rfl⟩

theorem lanesFor_touched {P : Drop → Prop} {d : Drop} {f : Lane → Lane} (hf : Lane.Keeps f) (hd : P d) (t : Vector (Option Lane) 256) :
    LanesTouched P t (lanesFor d f t) where
  kept n x hx := by
    refine ⟨_, lanesFor_some hx, ?_⟩
    split
    · next ho => exact ⟨(hf x).1, (hf x).2.1, (hf x).2.2, fun hn => absurd (ho ▸ hd) hn⟩
    · exact ⟨rfl, rfl, rfl, fun _ => rfl⟩
  only n hn := by
    rw [lanesFor_get, hn]
    rfl

/-- A leg on which the HUSHED drops `p` returned to their resume states: of one that an echo made SERVING the WAKEs went (R36, R125). -/
structure LegRecord.Unhushed (p : Drop → Bool) (r r' : LegRecord) : Prop where
  rest : ∃ drops lanes meters, r' = { r with drops := drops, lanes := lanes, meters := meters, orders := r.ordersBehindReturn p }
  drops : ∀ c : Drop, p c = false → r'.drops[c] = r.drops[c]
  back : ∀ (c : Drop) (b : Resume), p c = true → r.drops[c].resume = some b → r'.drops[c].state = b.state
  lanes : LanesTouched (fun c => p c = true) r.lanes r'.lanes
  meters : ∀ c : Drop, p c = false → r'.meters[c] = r.meters[c]

theorem LegRecord.Unhushed.orders {p : Drop → Bool} {r r' : LegRecord} (h : r.Unhushed p r') : r'.orders = r.ordersBehindReturn p := by
  obtain ⟨_, _, _, e⟩ := h.rest
  rw [e]

/-- The orders that stay for one HUSHED drop. -/
theorem LegRecord.ordersBehindReturn_one (r : LegRecord) {d : Drop} (h : r.drops[d].state = .hushed) :
    (r.ordersBehindReturn fun c => c == d) =
      if r.drops[d].resume.any fun b => b.state == .serving && b.changed then
        r.orders.filter fun o => !(o.target == some d && o.order.kind == .wake)
      else r.orders := by
  unfold LegRecord.ordersBehindReturn
  have at_target (o : OrderEntry) : (o.target.any fun c => c == d && r.drops[c].state == .hushed &&
      r.drops[c].resume.any fun b => b.state == .serving && b.changed) =
        (o.target == some d && r.drops[d].resume.any fun b => b.state == .serving && b.changed) := by
    cases o.target with
    | none => rfl
    | some c =>
      by_cases hc : c = d
      · subst hc
        simp [-Fin.getElem_fin, h]
      · have : (c == d) = false := by simpa using hc
        simp [this]
  simp only [at_target]
  split
  · next hr =>
    simp only [hr, Bool.and_true]
    exact List.filter_congr fun o _ => by rw [Bool.and_comm]
  · next hr => simp [-Fin.getElem_fin, Bool.eq_false_iff.mpr hr]

/-- An entry returned to a resume state other than SERVING (R36, R144). -/
def DropEntry.returned (e : DropEntry) (b : Resume) (t : Stamp) : DropEntry :=
  { e with
    state := b.state, since := t, resume := none, hold := b.hold, reason := b.reason
    trimCount := if b.stepHeld then min (e.trimCount + 1) 6 else e.trimCount }

/-- One drop with another entry, its lanes and its meter changed. -/
theorem LegRecord.unhushed_one (r : LegRecord) {d : Drop} (e : DropEntry) {f : Lane → Lane} (m : Option Meter) (hf : Lane.Keeps f)
    (he : ∀ b, r.drops[d].resume = some b → e.state = b.state) :
    r.Unhushed (fun c => c == d)
      { r with
        drops := r.drops.set d.val e, lanes := lanesFor d f r.lanes, meters := r.meters.set d.val m
        orders := r.ordersBehindReturn fun c => c == d } where
  rest := ⟨_, _, _, rfl⟩
  drops c hc := by
    dsimp only
    rw [get_set, if_neg (by simpa using hc)]
  back c b hc hb := by
    obtain rfl := beq_iff_eq.mp hc
    dsimp only
    rw [get_set, if_pos rfl]
    exact he b hb
  lanes := lanesFor_touched hf (by simp) _
  meters c hc := by
    dsimp only
    rw [get_set, if_neg (by simpa using hc)]

theorem Work.wakeUp_leg (w : Work) (l : Leg) (d : Drop) :
    (w.wakeUp l d).leg l =
      { (w.leg l).served d w.stamp (w.openedMeter l d) with
        drops := (w.leg l).drops.set d.val
          { (w.drop l d).served w.stamp with wakeInterval := none, wakeCount := none, cleanSinceWake := false }
        orders := (w.leg l).orders.filter fun e => !(e.target == some d && e.order.kind == .wake) } := by
  unfold Work.wakeUp
  rw [Work.raiseDropState, Work.raise_leg, Work.removeOrders, Work.mapDrop_eq, Work.mapLeg_mapLeg, Work.toServing_eq, Work.mapLeg_mapLeg,
    Work.leg_mapLeg_self]
  simp only [LegRecord.served, Vector.set_set, get_set, if_pos]
  rfl

section
variable {w : Work} {l : Leg} {d : Drop}

/-- One HUSHED drop returns. -/
theorem Work.unhushDrop_unhushed (h : (w.drop l d).state = .hushed) :
    (w.leg l).Unhushed (fun c => c == d) ((w.unhushDrop l d).leg l) := by
  have orders := (w.leg l).ordersBehindReturn_one h
  have changed (e : DropEntry) (f : Lane → Lane) (m : Option Meter) (hf : Lane.Keeps f)
      (he : ∀ b, (w.drop l d).resume = some b → e.state = b.state) := LegRecord.unhushed_one (w.leg l) e m hf he
  unfold Work.unhushDrop
  cases hr : (w.drop l d).resume with
  | none =>
    have same : (w.leg l).orders = (w.leg l).ordersBehindReturn fun c => c == d := by
      rw [orders, if_neg]
      change ¬(((w.drop l d).resume.any _) = true)
      rw [hr]
      exact Bool.false_ne_true
    dsimp only
    refine ⟨⟨(w.leg l).drops, (w.leg l).lanes, (w.leg l).meters, ?_⟩, fun _ _ => rfl, fun c b hc hb => ?_, .refl _ _, fun _ _ => rfl⟩
    · rw [← same]
    · obtain rfl := beq_iff_eq.mp hc
      exact absurd (hr.symm.trans hb) nofun
  | some b =>
    rw [show (w.leg l).drops[d].resume = some b from hr, Option.any_some] at orders
    dsimp only
    split
    · next hs =>
      rw [hs, Bool.true_and] at orders
      split
      · next hc =>
        rw [if_pos hc] at orders
        rw [Work.wakeUp_leg, ← orders]
        exact changed _ _ _ Lane.ownerServes_keeps fun b' hb => by rw [← Option.some_inj.mp (hr.symm.trans hb), beq_iff_eq.mp hs]; rfl
      · next hc =>
        rw [if_neg hc] at orders
        rw [Work.toServing_eq, Work.leg_mapLeg_self]
        have := changed ((w.drop l d).served w.stamp) Lane.ownerServes (w.openedMeter l d) Lane.ownerServes_keeps fun b' hb => by
          rw [← Option.some_inj.mp (hr.symm.trans hb), beq_iff_eq.mp hs]; rfl
        rw [orders] at this
        exact this
    · next hs =>
      rw [Bool.eq_false_iff.mpr hs, Bool.false_and, if_neg Bool.false_ne_true] at orders
      have returned (v : Work) (e : DropEntry) (he : e.state = b.state)
          (hv : v.leg l = { w.leg l with
            drops := (w.leg l).drops.set d.val e, lanes := lanesFor d Lane.noCredit (w.leg l).lanes }) :
          (w.leg l).Unhushed (fun c => c == d) (v.leg l) := by
        have := changed e Lane.noCredit (w.leg l).meters[d] (fun x => ⟨rfl, rfl, rfl⟩) fun b' hb => by
          rw [← Option.some_inj.mp (hr.symm.trans hb), he]
        rw [orders, Fin.getElem_fin, Vector.set_getElem_self] at this
        rw [hv]
        exact this
      split
      · refine returned _ ((w.drop l d).returned b w.stamp) rfl ?_
        rw [Work.raiseDropState, Work.raise_leg, Work.mapLanesOf_eq, Work.mapDrop_eq, Work.mapLeg_mapLeg, Work.leg_mapLeg_self]
        rfl
      · refine returned _ ((w.drop l d).returned b w.stamp) rfl ?_
        rw [Work.mapLanesOf_eq, Work.mapDrop_eq, Work.mapLeg_mapLeg, Work.leg_mapLeg_self]
        rfl

/-- One drop more. -/
theorem LegRecord.Unhushed.snoc {p : Drop → Bool} {r r₁ r₂ : LegRecord} (h : r.Unhushed p r₁) (hd : p d = false)
    (k : r₁.Unhushed (fun c => c == d) r₂) : r.Unhushed (fun c => p c || c == d) r₂ where
  rest := by
    obtain ⟨_, _, _, e₂⟩ := k.rest
    have horders := h.orders
    have kdrop := h.drops d hd
    obtain ⟨_, _, _, e₁⟩ := h.rest
    refine ⟨r₂.drops, r₂.lanes, r₂.meters, ?_⟩
    have orders : r₁.ordersBehindReturn (fun c => c == d) = r.ordersBehindReturn fun c => p c || c == d := by
      unfold LegRecord.ordersBehindReturn at horders ⊢
      rw [horders, List.filter_filter]
      refine List.filter_congr fun o _ => ?_
      cases o.target with
      | none => simp
      | some c =>
        by_cases hc : c = d
        · subst hc
          simp [-Fin.getElem_fin, hd, kdrop]
        · have : (c == d) = false := by simpa using hc
          simp [this]
    rw [← orders, e₂]
    generalize r₁.ordersBehindReturn (fun c => c == d) = q
    rw [e₁]
  drops c hc := by
    rw [Bool.or_eq_false_iff] at hc
    rw [k.drops c hc.2, h.drops c hc.1]
  back c b hc hb := by
    cases hcd : c == d with
    | true =>
      obtain rfl := beq_iff_eq.mp hcd
      exact k.back c b hcd (by rw [h.drops c hd]; exact hb)
    | false =>
      rw [k.drops c hcd]
      exact h.back c b (by simpa [hcd] using hc) hb
  lanes := by
    have weaken {q : Drop → Prop} {t t' : Vector (Option Lane) 256} (x : LanesTouched q t t') (hq : ∀ c, q c → (p c || c == d) = true) :
        LanesTouched (fun c => (p c || c == d) = true) t t' := by
      refine ⟨fun n y hy => ?_, x.only⟩
      obtain ⟨z, hz, ho, hp, hf, hs⟩ := x.kept n y hy
      exact ⟨z, hz, ho, hp, hf, fun hn => hs (mt (hq _) hn)⟩
    exact (weaken h.lanes fun c hc => by simp [hc]).trans (weaken k.lanes fun c hc => by simp [hc])
  meters c hc := by
    rw [Bool.or_eq_false_iff] at hc
    rw [k.meters c hc.2, h.meters c hc.1]

/-- Some HUSHED drops return, one after another. -/
theorem Work.forDrops_unhushed {ds : List Drop} (hn : ds.Nodup) (hd : ∀ d ∈ ds, (w.drop l d).state = .hushed) :
    (w.leg l).Unhushed ds.contains ((forDrops ds (fun d w => w.unhushDrop l d) w).leg l) := by
  induction ds using List.reverseRecOn with
  | nil =>
    refine ⟨⟨(w.leg l).drops, (w.leg l).lanes, (w.leg l).meters, ?_⟩, fun _ _ => rfl, nofun, .refl _ _, fun _ _ => rfl⟩
    have : (w.leg l).ordersBehindReturn [].contains = (w.leg l).orders := by
      unfold LegRecord.ordersBehindReturn
      refine List.filter_eq_self.mpr fun o _ => ?_
      cases o.target <;> simp
    rw [this]
    rfl
  | append_singleton ds d ih =>
    rw [List.nodup_append] at hn
    obtain ⟨hds, -, hnd⟩ := hn
    have before := ih hds fun c hc => hd c (List.mem_append_left _ hc)
    have hnot : ds.contains d = false := by
      rw [← Bool.not_eq_true, List.contains_iff_mem]
      exact fun hm => hnd d hm d (List.mem_singleton_self d) rfl
    have fold : forDrops (ds ++ [d]) (fun d w => w.unhushDrop l d) w = (forDrops ds (fun d w => w.unhushDrop l d) w).unhushDrop l d := by
      rw [forDrops, List.foldl_append]
      rfl
    have set : (ds ++ [d]).contains = fun c => ds.contains c || c == d := by
      funext c
      rw [List.contains_append, List.contains_cons, List.contains_nil, Bool.or_false]
    rw [fold, set]
    refine before.snoc hnot (Work.unhushDrop_unhushed ?_)
    rw [Work.drop, before.drops d hnot]
    exact hd d (List.mem_append_right _ (List.mem_singleton_self d))

/-- Every HUSHED drop of the leg returns. -/
theorem Work.unhushAll_unhushed (w : Work) (l : Leg) :
    (w.leg l).Unhushed (fun c => (w.drop l c).state == .hushed) ((w.unhushAll l none).leg l) := by
  have h := Work.forDrops_unhushed (w := w) (l := l) (ds := (w.hushedDrops l).filter fun d => some d != none)
    (List.Nodup.filter _ (List.Nodup.filter _ (List.nodup_finRange 128))) fun d hd => Work.mem_hushed.mp hd
  have set : ((w.hushedDrops l).filter fun d => some d != none).contains = fun c => (w.drop l c).state == .hushed := by
    funext c
    rw [Bool.eq_iff_iff, List.contains_iff_mem, Work.mem_hushed, beq_iff_eq]
  rw [set] at h
  exact h

end

/-- Asking for the HUSHED drops or for all is the same to the orders. -/
theorem LegRecord.ordersBehindReturn_hushed (r : LegRecord) :
    (r.ordersBehindReturn fun c => r.drops[c].state == .hushed) = r.ordersBehindReturn fun _ => true := by
  unfold LegRecord.ordersBehindReturn
  refine List.filter_congr fun o _ => ?_
  cases o.target with
  | none => rfl
  | some c => simp

/-! ### The end of a search (R149) -/

/-- The UNHUSH_ALL that ends a search. -/
def OrderEntry.returnAll : OrderEntry := .queued .unhushAll none

/-- What the end of a search leaves of a leg: the UNHUSH_ALL queued, or asked for; the HUSHED entries returned; HOLDOFF with the verdict. -/
structure LegRecord.SearchEnded (t : Stamp) (r r' : LegRecord) : Prop where
  rest : ∃ drops lanes meters orders monitor,
    r' = { r with drops := drops, lanes := lanes, meters := meters, orders := orders, monitor := monitor }
  drops : ∀ c : Drop, r.drops[c].state ≠ .hushed → r'.drops[c] = r.drops[c]
  back : ∀ (c : Drop) (b : Resume), r.drops[c].state = .hushed → r.drops[c].resume = some b → r'.drops[c].state = b.state
  lanes : LanesTouched (fun c => r.drops[c].state = .hushed) r.lanes r'.lanes
  meters : ∀ c : Drop, r.drops[c].state ≠ .hushed → r'.meters[c] = r.meters[c]
  orders : r'.orders = (r.ordersBehindReturn fun _ => true) ++ if r.orders.length < 48 then [OrderEntry.queued .unhushAll none] else []
  asks : ¬r.orders.length < 48 → MonitorAsk.unhush ∈ r'.monitor.asks
  monitor : ∃ asks, r'.monitor =
    { r.monitor.idle .holdoff with
      asks := asks
      holdOffLeft := some (r.monitor.settings.holdOff * 4096)
      lastVerdict := some ⟨.unattributed, t, r.monitor.stepReached.2⟩ }

/-- The record of a leg whose UNHUSH_ALL is queued or asked for, the asks of its step dropped. -/
def LegRecord.askedReturn (r : LegRecord) : LegRecord :=
  { r with
    orders := r.orders ++ if r.orders.length < 48 then [OrderEntry.queued .unhushAll none] else []
    monitor :=
      { r.monitor with
        asks := (r.monitor.asks.filter fun a => !a.ofStep) ++ if r.orders.length < 48 then [] else [.unhush] } }

theorem Work.queueUnhush_leg (w : Work) (l : Leg) : ((w.dropStepAsks l).queueUnhush l).leg l = (w.leg l).askedReturn := by
  have asked : (w.dropStepAsks l).leg l =
      { w.leg l with monitor := { (w.leg l).monitor with asks := (w.leg l).monitor.asks.filter fun a => !a.ofStep } } := by
    rw [Work.dropStepAsks, Work.mapMonitor_eq, Work.leg_mapLeg_self]
  unfold Work.queueUnhush LegRecord.askedReturn urgentRoom
  rw [asked]
  by_cases h : (w.leg l).orders.length < 48
  · simp only [h, if_true, decide_true, Work.queueOrder_eq, Work.leg_mapLeg_self, asked, List.append_nil]
  · simp only [h, if_false, decide_false, Bool.false_eq_true, Work.mapMonitor_eq, Work.leg_mapLeg_self, asked, List.append_nil]

theorem LegRecord.askedReturn_behind (r : LegRecord) :
    (r.askedReturn.ordersBehindReturn fun _ => true) =
      (r.ordersBehindReturn fun _ => true) ++ if r.orders.length < 48 then [OrderEntry.queued .unhushAll none] else [] := by
  unfold LegRecord.ordersBehindReturn LegRecord.askedReturn
  rw [List.filter_append]
  congr 1
  split <;> rfl

/-- A search that ends UNATTRIBUTED (R145, R147, R149). -/
theorem Work.endHunt_ended (w : Work) (l : Leg) : (w.leg l).SearchEnded w.stamp ((w.endHunt l true).leg l) := by
  obtain ⟨v, hv⟩ : ∃ v, v = ((w.raise (some l) none (.rogueUnattributed (w.leg l).monitor.stepReached.1
    (w.leg l).monitor.stepReached.2)).dropStepAsks l).queueUnhush l := ⟨_, rfl⟩
  have leg : v.leg l = (w.leg l).askedReturn := by
    rw [hv, Work.queueUnhush_leg]
    rfl
  have stamp : v.stamp = w.stamp := by
    rw [hv]
    exact Work.outside_stamp (l := l) (by simp)
  have ended : w.endHunt l true = (v.unhushAll l none).mapMonitor l fun m =>
      { m.idle .holdoff with
        holdOffLeft := some (m.settings.holdOff * 4096)
        lastVerdict := some ⟨.unattributed, (v.unhushAll l none).stamp, (w.leg l).monitor.stepReached.2⟩ } := by
    rw [hv]
    rfl
  have returned := v.unhushAll_unhushed l
  have orders : (v.leg l).ordersBehindReturn (fun c => (v.drop l c).state == .hushed) =
      ((w.leg l).ordersBehindReturn fun _ => true) ++ if (w.leg l).orders.length < 48 then [OrderEntry.queued .unhushAll none] else [] := by
    rw [← LegRecord.askedReturn_behind, ← leg]
    exact (v.leg l).ordersBehindReturn_hushed
  have monitor : ((v.unhushAll l none).leg l).monitor = (v.leg l).monitor := v.unhushAll_monitor l none
  have stamp' : (v.unhushAll l none).stamp = w.stamp := (Work.outside_stamp (v.unhushAll_outside l none)).trans stamp
  rw [ended, Work.mapMonitor_eq, Work.leg_mapLeg_self, stamp']
  generalize (v.unhushAll l none).leg l = r' at returned monitor
  have entry (c : Drop) : (v.drop l c) = (w.drop l c) := by rw [Work.drop, leg]; rfl
  have hmon : (v.leg l).monitor = (w.leg l).askedReturn.monitor := by rw [leg]
  obtain ⟨rest, drops, back, lanes, meters⟩ := returned
  obtain ⟨D, L, M, e⟩ := rest
  rw [orders, leg] at e
  simp only [entry] at drops back lanes meters
  rw [leg] at drops back lanes meters
  have still (c : Drop) (hc : (w.leg l).drops[c].state ≠ .hushed) : ((w.drop l c).state == .hushed) = false := beq_eq_false_iff_ne.mpr hc
  refine ⟨⟨D, L, M, _, _, by rw [e]; rfl⟩, fun c hc => drops c (still c hc), fun c b hc hb => back c b (beq_iff_eq.mpr hc) hb, ?_,
    fun c hc => meters c (still c hc), by rw [e], fun hn => ?_, ⟨(r'.monitor).asks, ?_⟩⟩
  · simp only [beq_iff_eq] at lanes
    exact lanes
  · change _ ∈ r'.monitor.asks
    rw [monitor, hmon]
    simp [LegRecord.askedReturn, hn]
  · rw [monitor, hmon]
    rfl

end Sys2Proof.Machine
end

section
set_option Elab.async false -- one theorem after another: side by side they ask for more threads than the check's memory limit grants
/-! PROOFS. A drop that leaves service, on any leg: its orders purged, its entry changed, and the search of its leg left or ended (R32, R34,
R35, R54, R145, R147). -/

namespace Sys2Proof.Machine

/-! ### The departure from a search -/

/-- A leg whose monitor has other candidates. -/
def LegRecord.withCandidates (r : LegRecord) (cs : Option (List Drop)) : LegRecord :=
  { r with monitor := { r.monitor with candidates := cs } }

/-- The candidates without a drop, where a hunt goes on. -/
def Monitor.candidatesWithout (m : Monitor) (d : Drop) : Option (List Drop) :=
  if m.state = .hunting then m.candidates.map fun cs => cs.filter fun c => c != d else m.candidates

theorem LegRecord.SearchEnded.of_candidates {t : Stamp} {r r' : LegRecord} {cs : Option (List Drop)}
    (h : (r.withCandidates cs).SearchEnded t r') : r.SearchEnded t r' := by
  obtain ⟨drops, lanes, meters, orders, monitor, e⟩ := h.rest
  exact ⟨⟨drops, lanes, meters, orders, monitor, e⟩, h.drops, h.back, h.lanes, h.meters, h.orders, h.asks, h.monitor⟩

/-- What the departure of a drop leaves of its leg (R145, R147). -/
structure LegRecord.Departed (d : Drop) (t : Stamp) (r r' : LegRecord) : Prop where
  goesOn : r.monitor.endsWithout d = false → r' = r.withCandidates (r.monitor.candidatesWithout d)
  ends : r.monitor.endsWithout d = true → r.SearchEnded t r'

theorem List.filter_ne_isEmpty (cs : List Drop) (d : Drop) : (cs.filter fun c => c != d).isEmpty = cs.all fun c => c == d := by
  rw [Bool.eq_iff_iff]
  simp

theorem Work.departure_departed (w : Work) (l : Leg) (d : Drop) : (w.leg l).Departed d w.stamp ((w.departure l d).leg l) := by
  have still (h : (w.leg l).monitor.endsWithout d = false) (hc : (w.leg l).monitor.candidatesWithout d = (w.leg l).monitor.candidates) :
      (w.leg l).Departed d w.stamp (w.leg l) := by
    refine ⟨fun _ => ?_, fun hn => absurd (h.symm.trans hn) nofun⟩
    rw [hc]
    rfl
  have final (h : (w.leg l).monitor.endsWithout d = true) {r' : LegRecord} (hr : (w.leg l).SearchEnded w.stamp r') :
      (w.leg l).Departed d w.stamp r' := ⟨fun hn => absurd (hn.symm.trans h) nofun, fun _ => hr⟩
  unfold Work.departure
  dsimp only
  split
  · next hm =>
    split
    · next cs hcs =>
      split
      · next hd =>
        have ends : (w.leg l).monitor.endsWithout d = cs.all fun c => c == d := by
          simp only [Monitor.endsWithout, hm, hcs, Option.any_some, hd, Bool.true_and]
        have leg : (w.mapMonitor l fun m => { m with candidates := some (cs.filter fun c => c != d) }).leg l =
            (w.leg l).withCandidates (some (cs.filter fun c => c != d)) := by
          rw [Work.mapMonitor_eq, Work.leg_mapLeg_self]
          rfl
        rw [List.filter_ne_isEmpty]
        cases he : cs.all fun c => c == d with
        | true =>
          rw [if_pos rfl]
          have ended := (w.mapMonitor l fun m => { m with candidates := some (cs.filter fun c => c != d) }).endHunt_ended l
          rw [leg] at ended
          exact final (ends.trans he) ended.of_candidates
        | false =>
          rw [if_neg Bool.false_ne_true, leg]
          refine ⟨fun _ => ?_, fun hn => absurd ((ends.trans he).symm.trans hn) nofun⟩
          rw [Monitor.candidatesWithout, if_pos hm, hcs]
          rfl
      · next hd =>
        refine still (by simp only [Monitor.endsWithout, hm, hcs, Option.any_some, Bool.eq_false_iff.mpr hd, Bool.false_and]) ?_
        rw [Monitor.candidatesWithout, if_pos hm, hcs, Option.map_some, List.filter_eq_self.mpr]
        intro c hc
        rw [bne_iff_ne]
        rintro rfl
        exact hd (List.contains_iff_mem.mpr hc)
    · next hn =>
      refine still (by simp [Monitor.endsWithout, hm, hn]) ?_
      rw [Monitor.candidatesWithout, hn, Option.map_none, ite_self]
  · next hm =>
    split
    · next hd => exact final (by simpa [Monitor.endsWithout, hm] using hd) (w.endHunt_ended l)
    · next hd =>
      refine still ?_ (if_neg (by rw [hm]; nofun))
      simpa [Monitor.endsWithout, hm] using hd
  · next hh hv =>
    refine still ?_ (if_neg hh)
    unfold Monitor.endsWithout
    split
    · next hs => exact absurd hs hh
    · next hs => exact absurd hs hv
    · rfl

/-! ### A drop that leaves service -/

/-- A drop's orders purged, its entry changed and reported, and the search of its leg left. -/
def Work.leaves (w : Work) (l : Leg) (d : Drop) (f : DropEntry → DropEntry) : Work :=
  (((w.purge l d).mapDrop l d f).raiseDropState l d).departure l d

/-- A leg that a drop left: its entry, what is purged with it, and its search (R54, R145, R147). -/
structure LegRecord.Left (d : Drop) (e : DropEntry) (t : Stamp) (r r' : LegRecord) : Prop where
  rest : ∃ drops lanes meters orders monitor,
    r' = { r with
      drops := drops, lanes := lanes, meters := meters, orders := orders, monitor := monitor, owed := r.owed.filter fun i => i.drop != d }
  entry : r'.drops[d] = e
  lanes : LanesTouched (fun c => c ≠ d) r.lanes r'.lanes
  meter : r'.meters[d] = r.meters[d]
  goesOn : r.monitor.endsWithout d = false → (∀ c : Drop, c ≠ d → r'.drops[c] = r.drops[c]) ∧
    r'.orders = (r.orders.filter fun o => o.target != some d) ∧
    r'.monitor =
      { r.monitor with
        candidates := r.monitor.candidatesWithout d
        asks := r.monitor.asks.filter fun a => a != .mute d }
  drops : r.monitor.endsWithout d = true → ∀ c : Drop, c ≠ d → r.drops[c].state ≠ .hushed → r'.drops[c] = r.drops[c]
  back : r.monitor.endsWithout d = true → ∀ (c : Drop) (b : Resume), c ≠ d → r.drops[c].state = .hushed → r.drops[c].resume = some b →
    r'.drops[c].state = b.state
  orders : r.monitor.endsWithout d = true → r'.orders = ((r.ordersBehindReturn fun _ => true).filter fun o => o.target != some d) ++
    if (r.orders.filter fun o => o.target != some d).length < 48 then [OrderEntry.queued .unhushAll none] else []
  asked : r.monitor.endsWithout d = true → ¬(r.orders.filter fun o => o.target != some d).length < 48 → MonitorAsk.unhush ∈ r'.monitor.asks
  holdoff : r.monitor.endsWithout d = true → ∃ asks, r'.monitor =
    { r.monitor.idle .holdoff with
      asks := asks
      holdOffLeft := some (r.monitor.settings.holdOff * 4096)
      lastVerdict := some ⟨.unattributed, t, r.monitor.stepReached.2⟩ }

/-- The orders that stay behind the return of the other drops. -/
theorem ordersBehindReturn_purged (r : LegRecord) (d : Drop) (e : DropEntry) :
    ({ r with
        orders := r.orders.filter fun o => o.target != some d
        drops := r.drops.set d.val e }.ordersBehindReturn fun _ => true) =
      (r.ordersBehindReturn fun _ => true).filter fun o => o.target != some d := by
  unfold LegRecord.ordersBehindReturn
  dsimp only
  rw [List.filter_filter, List.filter_filter]
  refine List.filter_congr fun o _ => ?_
  cases ht : o.target with
  | none => simp
  | some c =>
    by_cases hc : c = d
    · simp [hc]
    · simp only [Option.any_some, get_set, if_neg hc]
      rw [Bool.and_comm]

theorem Work.leaves_left (w : Work) (l : Leg) (d : Drop) (f : DropEntry → DropEntry) (hf : (f (w.drop l d)).state ≠ .hushed) :
    (w.leg l).Left d (f (w.drop l d)) w.stamp ((w.leaves l d f).leg l) := by
  obtain ⟨v, hv⟩ : ∃ v, v = ((w.purge l d).mapDrop l d f).raiseDropState l d := ⟨_, rfl⟩
  have leg : v.leg l =
      { w.leg l with
        orders := (w.leg l).orders.filter fun o => o.target != some d
        owed := (w.leg l).owed.filter fun i => i.drop != d
        monitor := { (w.leg l).monitor with asks := (w.leg l).monitor.asks.filter fun a => a != .mute d }
        drops := (w.leg l).drops.set d.val (f (w.drop l d)) } := by
    rw [hv, Work.raiseDropState, Work.raise_leg, Work.mapDrop_eq, Work.purge, Work.mapLeg_mapLeg, Work.leg_mapLeg_self]
    rfl
  have stamp : v.stamp = w.stamp := by rw [hv]; rfl
  have departed := v.departure_departed l d
  rw [stamp, leg] at departed
  have out : w.leaves l d f = v.departure l d := by rw [hv]; rfl
  rw [out]
  generalize (v.departure l d).leg l = r' at departed
  generalize w.leg l = r at departed hf ⊢
  generalize f (w.drop l d) = e at departed hf ⊢
  have own : (r.drops.set d.val e)[d] = e := by rw [get_set, if_pos rfl]
  have other (c : Drop) (hc : c ≠ d) : (r.drops.set d.val e)[c] = r.drops[c] := by rw [get_set, if_neg hc]
  have ends : r.monitor.endsWithout d = ({ r.monitor with asks := r.monitor.asks.filter fun a => a != .mute d } : Monitor).endsWithout d := rfl
  cases hw : r.monitor.endsWithout d with
  | false =>
    have e' := departed.goesOn (ends.symm.trans hw)
    have no {p : Prop} : r.monitor.endsWithout d = true → p := fun h => absurd (hw.symm.trans h) nofun
    subst e'
    exact ⟨⟨_, _, _, _, _, rfl⟩, own, .refl _ _, rfl, fun _ => ⟨other, rfl, rfl⟩, no, no, no, no, no⟩
  | true =>
    obtain ⟨rest, drops, back, lanes, meters, orders, asks, monitor⟩ := departed.ends (ends.symm.trans hw)
    obtain ⟨D, L, M, O, N, hr'⟩ := rest
    have hdrop : r'.drops[d] = e := (drops d (by rw [own]; exact hf)).trans own
    refine ⟨⟨D, L, M, O, N, hr'⟩, hdrop, ?_, meters d (by rw [own]; exact hf), fun h => absurd (hw.symm.trans h) nofun, fun _ c hc hs => ?_,
      fun _ c b hc hs hb => ?_, fun _ => ?_, fun _ => asks, fun _ => monitor⟩
    · refine ⟨fun n x hx => ?_, lanes.only⟩
      obtain ⟨y, hy, ho, hp, hfig, hs⟩ := lanes.kept n x hx
      refine ⟨y, hy, ho, hp, hfig, fun hn => hs fun hh => ?_⟩
      rw [Decidable.not_not.mp hn, own] at hh
      exact hf hh
    · rw [← other c hc] at hs ⊢
      exact drops c hs
    · rw [← other c hc] at hs hb
      exact back c b hs hb
    · rw [orders]
      congr 1
      exact ordersBehindReturn_purged r d e

section
variable {d : Drop} {e : DropEntry} {t : Stamp} {r r' : LegRecord}

/-- No order of the drop that left is queued. -/
theorem LegRecord.Left.no_orders (h : r.Left d e t r') : ∀ o ∈ r'.orders, o.target ≠ some d := by
  intro o ho
  cases hw : r.monitor.endsWithout d with
  | false =>
    rw [(h.goesOn hw).2.1] at ho
    exact bne_iff_ne.mp ((List.mem_filter.mp ho).2)
  | true =>
    rw [h.orders hw] at ho
    rcases List.mem_append.mp ho with ho | ho
    · exact bne_iff_ne.mp ((List.mem_filter.mp ho).2)
    · split at ho
      · rw [List.mem_singleton.mp ho]
        nofun
      · cases ho

theorem LegRecord.Left.owed (h : r.Left d e t r') : r'.owed = r.owed.filter fun i => i.drop != d := by
  obtain ⟨_, _, _, _, _, e⟩ := h.rest
  rw [e]

theorem LegRecord.Left.no_owed (h : r.Left d e t r') : ∀ i ∈ r'.owed, i.drop ≠ d := by
  intro i hi
  rw [h.owed] at hi
  exact bne_iff_ne.mp ((List.mem_filter.mp hi).2)

/-- A search that is not under way does not end. -/
theorem Monitor.endsWithout_of_not_searching {m : Monitor} (h : m.state.searching = false) : m.endsWithout d = false := by
  unfold Monitor.endsWithout
  cases hs : m.state <;> simp_all [MonitorState.searching]

/-- The leaving of a search, as the state shows it. -/
theorem LegRecord.Left.searchLeft {s u : State} {l : Leg} (h : r.Left d e t r') (hm : r.monitor = (s.leg l).monitor)
    (hd : ∀ c : Drop, c ≠ d → r.drops[c] = s.drop l c) (um : (u.leg l).monitor = r'.monitor) (ud : ∀ c : Drop, c ≠ d → u.drop l c = r'.drops[c]) :
    SearchLeft s u l d t where
  goesOn hw := by
    rw [← hm] at hw ⊢
    obtain ⟨drops, -, monitor⟩ := h.goesOn hw
    refine ⟨um.trans monitor, fun c hc => ?_⟩
    rw [ud c hc, drops c hc, hd c hc]
  ends st hw hst := by
    rw [← hm] at hw hst ⊢
    obtain ⟨asks, monitor⟩ := h.holdoff hw
    rw [um, monitor]
    have number : r.monitor.stepReached.2 = st.number := by rw [Monitor.stepReached, hst]
    refine ⟨rfl, rfl, rfl, rfl, rfl, rfl, by rw [number], fun c b hc hs hb => ?_, fun c hc hs => ?_⟩
    · rw [ud c hc]
      exact h.back hw c b hc (by rw [hd c hc]; exact hs) (by rw [hd c hc]; exact hb)
    · rw [ud c hc, h.drops hw c hc (by rw [hd c hc]; exact hs), hd c hc]

end

/-! ### Loss (R32) -/

/-- A meter with its outage flag set. -/
def Meter.outaged (m : Meter) : Meter := { m with flags := { m.flags with outage := true } }

/-- An entry that entered LOST. -/
def DropEntry.lostAt (e : DropEntry) (reason : LostReason) (hold : Nat) (t : Stamp) : DropEntry :=
  { e with
    state := .lost, since := t, reason := some (.lost reason), hold := some hold, origin := none, resume := none,
    awaitingCause := none, wakeInterval := none, wakeCount := none, cleanSinceWake := false, sleepCancelled := false }

/-- A leg whose drop `d` has gone: its lanes SUSPENDED without credit, its meter marked with an outage (R32, R80, R81). -/
def LegRecord.gone (r : LegRecord) (d : Drop) : LegRecord :=
  { r with lanes := lanesFor d Lane.ownerGone r.lanes, meters := r.meters.set d.val (r.meters[d].map Meter.outaged) }

section
variable (w : Work) (l : Leg) (d : Drop)

theorem Work.outage_eq : w.outage l d = w.setMeter l d ((w.meter l d).map Meter.outaged) := by
  unfold Work.outage
  cases hm : w.meter l d with
  | none => exact ((congrArg (w.setMeter l d) hm).symm.trans (w.setMeter_self l d)).symm
  | some m => rfl

/-- A loss is what has gone, and the leaving. -/
theorem Work.lose_eq (reason : LostReason) (saved : Option Nat) :
    w.lose l d reason saved = (w.mapLeg l fun r => r.gone d).leaves l d fun e =>
      e.lostAt reason (saved.getD ((w.leg l).control.settings.lostHold * 4096)) w.stamp := by
  have gone : (w.mapLanesOf l d Lane.ownerGone).outage l d = w.mapLeg l fun r => r.gone d := by
    rw [Work.outage_eq, Work.setMeter_eq, Work.mapLanesOf_eq, Work.mapLeg_mapLeg, Work.meter, Work.leg_mapLeg_self]
    have (f : LegRecord → LegRecord) (g : LegRecord → LegRecord) (h : f (w.leg l) = g (w.leg l)) : w.mapLeg l f = w.mapLeg l g := by
      unfold Work.mapLeg
      rw [h]
    exact this _ _ rfl
  have stamp : ((w.mapLanesOf l d Lane.ownerGone).outage l d).stamp = w.stamp := by rw [gone]; rfl
  unfold Work.lose
  dsimp only
  rw [← gone, ← stamp]
  rfl

theorem Work.lose_left (reason : LostReason) (saved : Option Nat) :
    ((w.leg l).gone d).Left d ((w.drop l d).lostAt reason (saved.getD ((w.leg l).control.settings.lostHold * 4096)) w.stamp) w.stamp
      ((w.lose l d reason saved).leg l) := by
  have left := (w.mapLeg l fun r => r.gone d).leaves_left l d
    (fun e => e.lostAt reason (saved.getD ((w.leg l).control.settings.lostHold * 4096)) w.stamp) nofun
  rw [Work.lose_eq]
  have entry : (w.mapLeg l fun r => r.gone d).drop l d = w.drop l d := by rw [Work.drop, Work.leg_mapLeg_self]; rfl
  rw [Work.leg_mapLeg_self, entry] at left
  exact left

end

/-- A drop that left by a loss, as the state shows it (R32). -/
theorem LegRecord.Left.entersLost {s u : State} {l : Leg} {d : Drop} {reason : LostReason} {hold : Nat} {t : Stamp} {r r' : LegRecord} {e : DropEntry}
    (h : (r.gone d).Left d (e.lostAt reason hold t) t r') (hr : r.meters = (s.leg l).meters) (hu : u.drop l d = r'.drops[d])
    (hlanes : (u.leg l).lanes = r'.lanes) (hmeters : u.meter l d = r'.meters[d]) : EntersLost s u l d reason hold where
  entry := by
    rw [hu, h.entry]
    exact ⟨rfl, rfl, rfl⟩
  lanes n x hx ho := by
    rw [hlanes] at hx
    obtain ⟨y, hy, hyo, same⟩ := h.lanes.back hx
    obtain rfl : x = y := same fun hn => hn (hyo.symm.trans ho)
    change (lanesFor d Lane.ownerGone r.lanes)[n] = some x at hy
    rw [lanesFor_get, Option.map_eq_some_iff] at hy
    obtain ⟨z, -, rfl⟩ := hy
    by_cases hz : z.owner = d
    · rw [if_pos hz]
      exact z.ownerGone_gone
    · rw [if_neg hz] at ho
      exact absurd ho hz
  meter m hm := by
    rw [hmeters, h.meter]
    change (r.meters.set d.val (r.meters[d].map Meter.outaged))[d] = _
    rw [get_set, if_pos rfl, hr, show (s.leg l).meters[d] = some m from hm]
    rfl

/-! ### Retirement (R34, R35) -/

section
variable (w : Work) (l : Leg) (d : Drop)

theorem Work.closeMeter_journal {c : CloseCause} (h : (w.closing l d c).written = false) :
    (w.closeMeter l d c).1.blocks.journal = w.blocks.journal := by
  unfold Work.closing at h
  unfold Work.closeMeter
  cases hm : w.meter l d with
  | none => rfl
  | some m =>
    rw [hm] at h
    dsimp only [closeOf, Meter.close] at h ⊢
    rcases Option.eq_none_or_eq_some m.pending with hp | ⟨⟨was, asked⟩, hp⟩ <;> simp only [hp] at h ⊢
    · split
      · rfl
      · next h1 =>
        rw [if_neg h1] at h
        split
        · rfl
        · next h2 =>
          rw [if_neg h2] at h
          split
          · next h3 =>
            rw [if_pos h3] at h
            cases h
          · rfl
    · split
      · split <;> rfl
      · rfl

/-- A leg whose drop `d` lost its lanes (R34). -/
def LegRecord.laneless (r : LegRecord) (d : Drop) : LegRecord :=
  { r with lanes := r.lanes.map fun o => o.filter fun x => x.owner != d }

theorem Work.enterRetiring_left (reason : RetireReason) :
    ((w.leg l).laneless d).Left d ((w.drop l d).retired reason w.stamp) w.stamp ((w.enterRetiring l d reason).leg l) := by
  have left := (w.mapLeg l fun r => r.laneless d).leaves_left l d (fun e => e.retired reason w.stamp) nofun
  have entry : (w.mapLeg l fun r => r.laneless d).drop l d = w.drop l d := by rw [Work.drop, Work.leg_mapLeg_self]; rfl
  rw [Work.leg_mapLeg_self, entry] at left
  exact left

theorem Work.enterRetiring_outside (reason : RetireReason) : (w.enterRetiring l d reason).outside l = w.outside l := by
  unfold Work.enterRetiring
  rw [Work.departure_outside, Work.raiseDropState_outside, Work.mapDrop_outside, Work.purge_outside, Work.mapLeg_outside]

theorem Work.journal_of_leaves (f : DropEntry → DropEntry) : (w.leaves l d f).blocks.journal = w.blocks.journal := by
  have unhush (v : Work) (c : Drop) : (v.unhushDrop l c).blocks.journal = v.blocks.journal := by
    unfold Work.unhushDrop
    split
    · rfl
    · split
      · split
        · unfold Work.wakeUp
          rw [Work.toServing_eq]
          rfl
        · rw [Work.toServing_eq]
          rfl
      · dsimp only
        split <;> rfl
  have queue (v : Work) : (v.queueUnhush l).blocks.journal = v.blocks.journal := by
    unfold Work.queueUnhush
    split <;> rfl
  have ended (v : Work) : (v.endHunt l true).blocks.journal = v.blocks.journal := by
    obtain ⟨verdict, last, e⟩ := v.endHunt_eq l true
    rw [e, Work.mapMonitor_eq, Work.mapLeg_journal, Work.endSearch, Work.unhushAll, forDrops_keeps (fun w => w.blocks.journal) _ _
      fun c v => unhush v c, queue]
    rfl
  unfold Work.leaves Work.departure
  dsimp only
  split
  · split
    · split
      · split
        · rw [ended]
          rfl
        · rfl
      · rfl
    · rfl
  · split
    · rw [ended]
      rfl
    · rfl
  · rfl

/-- What a retirement leaves of an entry in use and its leg; `r₁` is the leg as the entry to RETIRING leaves it. -/
structure Work.RetiredAs (w : Work) (l : Leg) (d : Drop) (reason : RetireReason) (r₁ : LegRecord) (w' : Work) : Prop where
  left : ((w.leg l).laneless d).Left d ((w.drop l d).retired reason w.stamp) w.stamp r₁
  monitor : (w'.leg l).monitor = r₁.monitor
  orders : (w'.leg l).orders = r₁.orders
  lanes : (w'.leg l).lanes = r₁.lanes
  owed : ∀ i ∈ (w'.leg l).owed, i.drop ≠ d
  entry : w'.drop l d =
    if (w.closing l d reason.closeCause).complete then DropEntry.vacant w.stamp else (w.drop l d).retired reason w.stamp
  others : ∀ c : Drop, c ≠ d → w'.drop l c = r₁.drops[c]
  meter : w'.meter l d = (w.closing l d reason.closeCause).left
  unwritten : (w.closing l d reason.closeCause).written = false → w'.blocks.journal = w.blocks.journal
  entries : w'.blocks.journal.entries = w.blocks.journal.entries ++ w.closeEntries l d reason.closeCause

theorem Work.retire_retiredAs (reason : RetireReason) (hd : (w.drop l d).state.resting = false) :
    ∃ r₁, w.RetiredAs l d reason r₁ (w.retire l d reason) := by
  have left := w.enterRetiring_left l d reason
  have hs : (w.enterRetiring l d reason).stamp = w.stamp := Work.outside_stamp (w.enterRetiring_outside l d reason)
  have hj : (w.enterRetiring l d reason).blocks.journal = w.blocks.journal :=
    ((w.mapLeg l fun r => r.laneless d).journal_of_leaves l d fun e => e.retired reason w.stamp).trans rfl
  refine ⟨(w.enterRetiring l d reason).leg l, ?_⟩
  rw [Work.retire_eq, if_neg (by simp [hd])]
  generalize w.enterRetiring l d reason = v at left hs hj ⊢
  have hm : v.meter l d = w.meter l d := left.meter
  obtain ⟨hk, he⟩ := Work.closing_congr l d reason.closeCause_ending hm hj hs
  have closed := v.closeMeter_spec l d reason.closeCause
  have stamp : (v.closeMeter l d reason.closeCause).1.stamp = w.stamp := (Work.outside_stamp (v.closeMeter_outside l d _)).trans hs
  have unwritten := v.closeMeter_journal l d (c := reason.closeCause)
  rw [hk, he] at closed
  rw [hk] at unwritten
  obtain ⟨cleg, complete, entries, -, -⟩ := closed
  rw [hj] at entries unwritten
  dsimp only
  rw [complete]
  generalize (v.closeMeter l d reason.closeCause).1 = x at cleg stamp entries unwritten ⊢
  have meter : x.meter l d = (w.closing l d reason.closeCause).left := by
    rw [Work.meter, cleg]
    dsimp only
    rw [get_set, if_pos rfl]
  have drop (c : Drop) : x.drop l c = v.drop l c := by rw [Work.drop, cleg]; rfl
  have monitor : (x.leg l).monitor = (v.leg l).monitor := by rw [cleg]
  have orders : (x.leg l).orders = (v.leg l).orders := by rw [cleg]
  have lanes : (x.leg l).lanes = (v.leg l).lanes := by rw [cleg]
  have owed : (x.leg l).owed = (v.leg l).owed := by rw [cleg]
  cases hdone : (w.closing l d reason.closeCause).complete with
  | false =>
    rw [if_neg Bool.false_ne_true]
    exact ⟨left, monitor, orders, lanes, by rw [owed]; exact left.no_owed,
      by rw [hdone, if_neg Bool.false_ne_true, drop]; exact left.entry, fun c _ => drop c, meter, unwritten, entries⟩
  | true =>
    obtain ⟨k, hk, -⟩ := ((x.leg l).vacated d x.stamp).offIfVacant_eq
    rw [← Work.vacate_leg] at hk
    rw [if_pos rfl]
    refine ⟨left, ?_, ?_, ?_, ?_, ?_, fun c hc => ?_, ?_, fun h => (x.vacate_journal l d).trans (unwritten h), ?_⟩
    · rw [hk]
      exact monitor
    · rw [hk]
      exact orders
    · rw [hk]
      exact lanes
    · rw [hk]
      exact fun i hi => bne_iff_ne.mp ((List.mem_filter.mp hi).2)
    · rw [hdone, if_pos rfl, Work.vacate_drop, stamp]
    · exact (x.vacate_drop_of_ne l d hc).trans (drop c)
    · rw [Work.meter, Work.vacate_meters]
      exact meter
    · rw [Work.vacate_journal, entries]

end

/-- No lane of the drop is left behind a retirement. -/
theorem Work.RetiredAs.no_lanes {w w' : Work} {l : Leg} {d : Drop} {reason : RetireReason} {r₁ : LegRecord}
    (h : w.RetiredAs l d reason r₁ w') : ∀ (n : Fin 256) (x : Lane), (w'.leg l).lanes[n] = some x → x.owner ≠ d := by
  intro n x hx ho
  rw [h.lanes] at hx
  obtain ⟨y, hy, hyo, -⟩ := h.left.lanes.back hx
  simp only [LegRecord.laneless, Fin.getElem_fin, Vector.getElem_map] at hy
  have := (Option.filter_eq_some_iff.mp hy).2
  rw [← hyo, ho] at this
  simp at this

end Sys2Proof.Machine
end

section
set_option Elab.async false -- one theorem after another: side by side they ask for more threads than the check's memory limit grants
/-! PROOFS. DISMISS and the expiry of a lost hold: one retirement each (R33 to R35, R38, R182). -/

namespace Sys2Proof.Machine

/-! ### The meter of a retiring drop (R182) -/

section
variable {w w' : Work} {l : Leg} {d : Drop} {reason : RetireReason} {r₁ : LegRecord}

/-- A meter that needs no entry in the journal before it leaves: none at all, or one without usage, OPEN or HELD for a continuing close. -/
def spareMeter (o : Option Meter) : Prop :=
  o = none ∨ ∃ m, o = some m ∧ m.usage = false ∧ (m.pending = none ∨ ∃ was at', m.pending = some (was, at') ∧ (was = .period ∨ was = .host))

theorem CloseCause.continuing {c : CloseCause} (h : c = .period ∨ c = .host) : c.ending = false := by rcases h with rfl | rfl <;> rfl

theorem closeOf_spare {o : Option Meter} {c : CloseCause} {room : Bool} {t : Stamp} {out : Bool} (hc : c.ending = true)
    (h : spareMeter o) : closeOf o c room t out = ⟨none, false, true⟩ := by
  rcases h with rfl | ⟨m, rfl, hu, hp | ⟨was, at', hp, hw⟩⟩
  · rw [closeOf, hc]
  · simp [closeOf, Meter.close, hp, hu, hc]
  · simp [closeOf, Meter.close, hp, hu, hc, CloseCause.continuing hw]

theorem closeOf_used {m : Meter} {c : CloseCause} {room : Bool} {t : Stamp} {out : Bool} (hc : c.ending = true) (hp : m.pending = none)
    (hu : m.usage = true) :
    closeOf (some m) c room t out = if room then ⟨none, true, true⟩ else ⟨some (m.heldFor c t), false, false⟩ := by
  simp [closeOf, Meter.close, hp, hu, hc]

theorem closeOf_continuing {m : Meter} {c was : CloseCause} {room : Bool} {t at' : Stamp} {out : Bool} (hc : c.ending = true)
    (hp : m.pending = some (was, at')) (hw : was = .period ∨ was = .host) (hu : m.usage = true) :
    closeOf (some m) c room t out = ⟨some { m with pending := some (c, at') }, false, false⟩ := by
  simp [closeOf, Meter.close, hp, hu, hc, CloseCause.continuing hw]

namespace Work.RetiredAs

/-- Without usage to write the entry is VACANT at once. -/
theorem spare (h : w.RetiredAs l d reason r₁ w') (hm : spareMeter (w.meter l d)) :
    w'.drop l d = DropEntry.vacant w.stamp ∧ w'.meter l d = none ∧ w'.blocks.journal = w.blocks.journal := by
  have closes : w.closing l d reason.closeCause = ⟨none, false, true⟩ := closeOf_spare reason.closeCause_ending hm
  obtain ⟨-, -, -, -, -, entry, -, meter, unwritten, -⟩ := h
  rw [closes] at entry meter unwritten
  exact ⟨entry, meter, unwritten rfl⟩

/-- With usage and room the close is written and the entry is VACANT. -/
theorem written {m : Meter} (h : w.RetiredAs l d reason r₁ w') (hm : w.meter l d = some m) (hp : m.pending = none) (hu : m.usage = true)
    (hr : w.blocks.journal.room = true) :
    w'.drop l d = DropEntry.vacant w.stamp ∧ w'.meter l d = none ∧
      w'.blocks.journal.entries = w.blocks.journal.entries ++ [w.entryFor l d m reason.closeCause] := by
  have closes : w.closing l d reason.closeCause = ⟨none, true, true⟩ := by
    rw [Work.closing, hm, closeOf_used reason.closeCause_ending hp hu, if_pos hr]
  obtain ⟨-, -, -, -, -, entry, -, meter, -, entries⟩ := h
  rw [Work.closeEntries, closes, hm] at entries
  rw [closes] at entry meter
  exact ⟨entry, meter, entries⟩

/-- With usage and no room the entry stays RETIRING with its meter HELD. -/
theorem held {m : Meter} (h : w.RetiredAs l d reason r₁ w') (hm : w.meter l d = some m) (hp : m.pending = none) (hu : m.usage = true)
    (hr : w.blocks.journal.room = false) :
    w'.drop l d = (w.drop l d).retired reason w.stamp ∧ w'.blocks.journal = w.blocks.journal ∧
      w'.meter l d = some (m.heldFor reason.closeCause w.stamp) := by
  have closes : w.closing l d reason.closeCause = ⟨some (m.heldFor reason.closeCause w.stamp), false, false⟩ := by
    rw [Work.closing, hm, closeOf_used reason.closeCause_ending hp hu, hr]
    rfl
  obtain ⟨-, -, -, -, -, entry, -, meter, unwritten, -⟩ := h
  rw [closes] at entry meter unwritten
  exact ⟨entry, unwritten rfl, meter⟩

/-- A meter HELD for a continuing close is HELD for the ending one, at its own stamp. -/
theorem reheld {m : Meter} {was : CloseCause} {at' : Stamp} (h : w.RetiredAs l d reason r₁ w') (hm : w.meter l d = some m)
    (hp : m.pending = some (was, at')) (hw : was = .period ∨ was = .host) (hu : m.usage = true) :
    w'.drop l d = (w.drop l d).retired reason w.stamp ∧ w'.blocks.journal = w.blocks.journal ∧
      w'.meter l d = some { m with pending := some (reason.closeCause, at') } := by
  have closes : w.closing l d reason.closeCause = ⟨some { m with pending := some (reason.closeCause, at') }, false, false⟩ := by
    rw [Work.closing, hm, closeOf_continuing reason.closeCause_ending hp hw hu]
  obtain ⟨-, -, -, -, -, entry, -, meter, unwritten, -⟩ := h
  rw [closes] at entry meter unwritten
  exact ⟨entry, unwritten rfl, meter⟩

end Work.RetiredAs

end

/-! ### DISMISS (R38) -/

theorem plainCount_filter_le (q : List OrderEntry) (p : OrderEntry → Bool) : plainCount (q.filter p) ≤ plainCount q :=
  (List.filter_sublist.filter _).length_le

theorem plainCount_append (q q' : List OrderEntry) : plainCount (q ++ q') = plainCount q + plainCount q' := by
  rw [plainCount, List.filter_append, List.length_append]
  rfl

theorem DropState.needsDismiss_iff (st : DropState) : st.needsDismiss = true ↔ ¬(st = .found ∨ st = .lost) := by
  cases st <;> simp [DropState.needsDismiss]

theorem DropState.resting_eq_false_iff {st : DropState} : st.resting = false ↔ st ≠ .vacant ∧ st ≠ .retiring := by
  cases st <;> simp [DropState.resting]

/-- The DISMISS order that goes behind a retirement. -/
def dismissOrder (needed : Bool) (d : Drop) (q : List OrderEntry) : List OrderEntry :=
  if needed && plainRoom q then [OrderEntry.queued .dismiss (some d)] else []

theorem Work.dismiss_eq (w : Work) (l : Leg) (d : Drop) :
    w.dismiss l d = (w.retire l d .dismissed).mapLeg l fun r =>
      { r with orders := r.orders ++ dismissOrder (w.drop l d).state.needsDismiss d r.orders } := by
  unfold Work.dismiss dismissOrder
  dsimp only
  generalize w.retire l d .dismissed = v
  split
  · next h =>
    unfold Work.queueOrder Work.mapLeg
    dsimp only
    rw [if_pos h]
  · next h =>
    unfold Work.mapLeg
    dsimp only
    rw [if_neg h, List.append_nil]
    exact (v.mapLeg_id l).symm

section
variable {tag leg drop : Byte} {l : Leg} {d : Drop} {s : State}

theorem exec_dismiss_taken (hl : toLeg? leg = some l) (hd : toDrop? drop = some d) (ht : s.takes tag = true)
    (hs : (s.drop l d).state.resting = false) (hroom : (s.drop l d).state.needsDismiss = true → plainRoom (s.leg l).orders = true) :
    exec (.dismiss tag leg drop) s =
      .next ((s.withBlocks ((Work.start s.blocks).dismiss l d).blocks).reply 0x1D tag .none ((Work.start s.blocks).dismiss l d).raised) := by
  refine exec_answered (c := .dismiss tag leg drop) (q := .dismiss leg drop) rfl ht ?_
  obtain ⟨h1, h2⟩ := DropState.resting_eq_false_iff.mp hs
  rw [runRequest, doDismiss, onDrop_of_some hl hd]
  dsimp only
  rw [Work.drop_start, if_neg (not_or.mpr ⟨h1, h2⟩), if_neg]
  rw [Work.leg_start, Bool.and_eq_true, Bool.not_eq_true']
  rintro ⟨hn, hf⟩
  rw [hroom hn] at hf
  cases hf

end

theorem plainRoom_eq_false {q : List OrderEntry} : plainRoom q = false ↔ 40 ≤ plainCount q ∨ 48 ≤ q.length := by
  simp only [plainRoom, Bool.and_eq_false_iff, decide_eq_false_iff_not]
  omega

theorem plainRoom_eq_true {q : List OrderEntry} : plainRoom q = true ↔ plainCount q < 40 ∧ q.length < 48 := by
  simp [plainRoom]

/-- Settles O54: a taken DISMISS is one retirement, as `Work.RetiredAs` says, with its DISMISS order behind it. -/
theorem dismissRetiresTheDrop : Obligations.DismissRetiresTheDrop := by
  refine ⟨fun tag leg drop s ht hb => exec_drop_range (q := .dismiss leg drop) rfl rfl ht hb,
    fun tag leg drop l d s hl hd ht => ⟨fun hs => ?_, fun h1 h2 h3 h4 hfull => ?_, fun h1 h2 hroom => ?_⟩⟩
  · refine exec_refused (c := .dismiss tag leg drop) (q := .dismiss leg drop) rfl ht ?_
    rw [runRequest, doDismiss, onDrop_of_some hl hd]
    exact if_pos hs
  · refine exec_refused (c := .dismiss tag leg drop) (q := .dismiss leg drop) rfl ht ?_
    have full : ((s.drop l d).state.needsDismiss && !(plainRoom (s.leg l).orders)) = true := by
      rw [(DropState.needsDismiss_iff _).mpr (not_or.mpr ⟨h3, h4⟩), plainRoom_eq_false.mpr hfull]
      rfl
    rw [runRequest, doDismiss, onDrop_of_some hl hd]
    exact (if_neg (not_or.mpr ⟨h1, h2⟩)).trans (if_pos full)
  · have used : (s.drop l d).state.resting = false := DropState.resting_eq_false_iff.mpr ⟨h1, h2⟩
    have room (hn : (s.drop l d).state.needsDismiss = true) : plainCount (s.leg l).orders < 40 ∧ (s.leg l).orders.length < 48 := by
      rw [DropState.needsDismiss_iff, not_or] at hn
      exact hroom hn.1 hn.2
    obtain ⟨r₁, retired⟩ := (Work.start s.blocks).retire_retiredAs l d .dismissed used
    have eq := (Work.start s.blocks).dismiss_eq l d
    have outside := (Work.start s.blocks).dismiss_outside l d
    refine ⟨_, exec_dismiss_taken hl hd ht used fun hn => plainRoom_eq_true.mpr (room hn), ?_⟩
    generalize (Work.start s.blocks).retire l d .dismissed = v at retired eq
    generalize (Work.start s.blocks).dismiss l d = w at eq outside
    have leg : w.leg l = { v.leg l with orders := (v.leg l).orders ++ dismissOrder (s.drop l d).state.needsDismiss d (v.leg l).orders } := by
      rw [eq, Work.leg_mapLeg_self]
      rfl
    have journal : w.blocks.journal = v.blocks.journal := by rw [eq]; rfl
    have drop (c : Drop) : w.drop l c = v.drop l c := by rw [Work.drop, leg]; rfl
    have meter : w.meter l d = v.meter l d := by rw [Work.meter, leg]; rfl
    have orders : (w.leg l).orders = r₁.orders ++ dismissOrder (s.drop l d).state.needsDismiss d r₁.orders := by
      rw [leg, ← retired.orders]
    have monitor : (w.leg l).monitor = r₁.monitor := by rw [leg]; exact retired.monitor
    have others (c : Drop) (hc : c ≠ d) : w.drop l c = r₁.drops[c] := (drop c).trans (retired.others c hc)
    have queued (q : List OrderEntry) (hq : (s.drop l d).state.needsDismiss = true → plainCount q < 40) :
        dismissOrder (s.drop l d).state.needsDismiss d q =
          if (s.drop l d).state = .found ∨ (s.drop l d).state = .lost ∨ 48 ≤ q.length then [] else [OrderEntry.queued .dismiss (some d)] := by
      unfold dismissOrder
      cases hn : (s.drop l d).state.needsDismiss with
      | false =>
        rw [Bool.false_and, if_neg Bool.false_ne_true, if_pos]
        by_contra hf
        rw [← or_assoc, not_or, ← DropState.needsDismiss_iff, hn] at hf
        exact Bool.false_ne_true hf.1
      | true =>
        have hf := (DropState.needsDismiss_iff _).mp hn
        rw [not_or] at hf
        have short : (true && plainRoom q) = decide (q.length < 48) := by
          rw [Bool.true_and, plainRoom, decide_eq_true (hq hn), Bool.true_and]
        simp only [short, hf.1, hf.2, false_or, decide_eq_true_eq]
        by_cases hlen : q.length < 48
        · rw [if_pos hlen, if_neg (by omega)]
        · rw [if_neg hlen, if_pos (by omega)]
    refine ⟨fun hw => ?_, fun hw => ?_, ?_, ?_, ?_, fun hm c hc => ?_, fun k hk => Work.outside_leg outside hk, fun hm => ?_, fun m hm hp hu =>
      ⟨fun hr => ?_, fun hr => ?_⟩, fun m was at' hm hp hw hu => ?_⟩
    · have q : r₁.orders = (s.leg l).orders.filter fun o => o.target != some d := (retired.left.goesOn hw).2.1
      refine orders.trans ?_
      rw [q]
      congr 1
      rw [queued _ fun hn => lt_of_le_of_lt (plainCount_filter_le _ _) (room hn).1]
      by_cases hf : (s.drop l d).state = .found ∨ (s.drop l d).state = .lost
      · rw [if_pos hf, if_pos (hf.elim .inl fun h => .inr (.inl h))]
      · have short : ((s.leg l).orders.filter fun o => o.target != some d).length < 48 :=
          lt_of_le_of_lt (List.length_filter_le _ _) (room ((DropState.needsDismiss_iff _).mpr hf)).2
        rw [if_neg hf, if_neg (by rw [← or_assoc, not_or]; exact ⟨hf, by omega⟩)]
    · intro rm q
      have qeq : r₁.orders = q := retired.left.orders hw
      refine ⟨?_, fun hn => ?_⟩
      · refine orders.trans ?_
        rw [qeq]
        congr 1
        refine queued q fun hn => ?_
        have behind : plainCount (((s.leg l).ordersBehindReturn fun _ => true).filter fun e => e.target != some d) ≤
            plainCount (s.leg l).orders := (plainCount_filter_le _ _).trans (plainCount_filter_le _ _)
        have last : plainCount (if rm then [OrderEntry.queued .unhushAll none] else []) = 0 := by split <;> rfl
        rw [plainCount_append, last]
        have := (room hn).1
        omega
      · change _ ∈ (w.leg l).monitor.asks
        rw [monitor]
        exact retired.left.asked hw hn
    · exact retired.left.searchLeft rfl (fun _ _ => rfl) monitor others
    · change ∀ n x, (w.leg l).lanes[n] = some x → _
      rw [leg]
      exact retired.no_lanes
    · change ∀ i ∈ (w.leg l).owed, _
      rw [leg]
      exact retired.owed
    · exact (others c hc).trans ((retired.left.goesOn (Monitor.endsWithout_of_not_searching hm)).1 c hc)
    · obtain ⟨h1, h2, h3⟩ := retired.spare (hm.imp_right fun ⟨m, hm, hp, hu⟩ => ⟨m, hm, hu, .inl hp⟩)
      exact ⟨(drop d).trans h1, meter.trans h2, journal.trans h3⟩
    · obtain ⟨h1, h2, h3⟩ := retired.written hm hp hu hr
      exact ⟨(drop d).trans h1, meter.trans h2, (congrArg Journal.entries journal).trans h3⟩
    · obtain ⟨h1, h2, h3⟩ := retired.held hm hp hu hr
      have entry := (drop d).trans h1
      change (w.drop l d).state = _ ∧ (w.drop l d).reason = _ ∧ (w.drop l d).since = _ ∧ _
      rw [entry]
      exact ⟨rfl, rfl, rfl, journal.trans h2, meter.trans h3⟩
    · obtain ⟨h1, h2, h3⟩ := retired.reheld hm hp hw hu
      have entry := (drop d).trans h1
      change (w.drop l d).state = _ ∧ (w.drop l d).reason = _ ∧ _
      rw [entry]
      exact ⟨rfl, rfl, journal.trans h2, meter.trans h3⟩

end Sys2Proof.Machine
end

section
set_option Elab.async false -- one theorem after another: side by side they ask for more threads than the check's memory limit grants
/-! PROOFS. Granted burst windows: what the receiver keeps of one, a missed burst, and a CLEAN keepalive as a change of its leg's record
(R30, R31, R69 to R72, R82, R103 to R107). -/

namespace Sys2Proof.Machine

/-! ### Changes of one leg's record -/

theorem Work.mapLeg_congr (w : Work) (l : Leg) {f g : LegRecord → LegRecord} (h : f (w.leg l) = g (w.leg l)) :
    w.mapLeg l f = w.mapLeg l g := by
  unfold Work.mapLeg
  rw [h]

/-- A leg for whose drop `d` an order is generated: absorbed, queued, or owed (R43, R44, R67). -/
def LegRecord.generated (r : LegRecord) (d : Drop) (k : OwedKind) : LegRecord :=
  if k == .bindLanes && hasQueued r.orders d .bindLanes then r
  else if plainRoom r.orders then { r with orders := r.orders ++ [.queued k.order (some d)] }
  else if r.owed.any fun i => i.sameKind d k then r
  else { r with owed := r.owed ++ [⟨d, k⟩] }

theorem Work.generate_eq (w : Work) (l : Leg) (d : Drop) (k : OwedKind) : w.generate l d k = w.mapLeg l fun r => r.generated d k := by
  have same {f : LegRecord → LegRecord} (h : f (w.leg l) = w.leg l) : w = w.mapLeg l f :=
    ((w.mapLeg_congr l (g := fun r => r) h).trans (w.mapLeg_id l)).symm
  unfold Work.generate
  split
  · next h1 => exact same (if_pos h1)
  · next h1 =>
    split
    · next h2 => exact w.mapLeg_congr l (by rw [LegRecord.generated, if_neg h1, if_pos h2])
    · next h2 =>
      split
      · next h3 => exact same (by rw [LegRecord.generated, if_neg h1, if_neg h2, if_pos h3])
      · next h3 => exact w.mapLeg_congr l (by rw [LegRecord.generated, if_neg h1, if_neg h2, if_neg h3])

/-- An order generated for a drop changes the queue or the owed-order list alone. -/
theorem LegRecord.generated_rest (r : LegRecord) (d : Drop) (k : OwedKind) :
    ∃ orders owed, r.generated d k = { r with orders := orders, owed := owed } := by
  unfold LegRecord.generated
  split
  · exact ⟨_, _, rfl⟩
  · split
    · exact ⟨_, _, rfl⟩
    · split <;> exact ⟨_, _, rfl⟩

theorem LegRecord.generated_queued (r : LegRecord) (d : Drop) (k : OwedKind)
    (hk : (k == .bindLanes && hasQueued r.orders d .bindLanes) = false) (h : plainRoom r.orders = true) :
    r.generated d k = { r with orders := r.orders ++ [.queued k.order (some d)] } := by
  unfold LegRecord.generated
  rw [hk, if_neg Bool.false_ne_true, if_pos h]

theorem LegRecord.generated_owed (r : LegRecord) (d : Drop) (step : Int) (h : plainRoom r.orders = false) (ho : ∀ i ∈ r.owed, i.drop ≠ d) :
    r.generated d (.stepPower step) = { r with owed := r.owed ++ [⟨d, .stepPower step⟩] } := by
  unfold LegRecord.generated
  rw [if_neg (by simp), if_neg (by simp [h]), if_neg]
  simp only [List.any_eq_true, OwedItem.sameKind, Bool.and_eq_true, beq_iff_eq, not_exists, not_and]
  exact fun i hi hd => absurd hd (ho i hi)

/-- No power step to a drop is outstanding (R70). -/
theorem LegRecord.stepOutstanding_eq_false {r : LegRecord} {d : Drop}
    (hq : ∀ e ∈ r.orders, e.target = some d → e.order.kind ≠ .stepPower) (ho : ∀ i ∈ r.owed, i.drop ≠ d) : r.stepOutstanding d = false := by
  simp only [LegRecord.stepOutstanding, hasOrder, Bool.or_eq_false_iff, List.any_eq_false, Bool.and_eq_true, beq_iff_eq, not_and,
    OwedItem.sameKind]
  exact ⟨hq, fun i hi hd => absurd hd (ho i hi)⟩

theorem LegSettings.inBand_iff (x : LegSettings) (level : Nat) : x.inBand level = true ↔ x.trimLow ≤ level ∧ level ≤ x.trimHigh := by
  simp [LegSettings.inBand]

/-! ### The outcome of a window (R104) -/

theorem inTolerance_iff (b : Burst) (n : Nat) : inTolerance b.expected n = true ↔ ((n : Int) - 8 * (b.start + 10)).natAbs ≤ 16 := by
  unfold inTolerance Burst.expected
  simp only [Bool.and_eq_true, decide_eq_true_eq]
  omega

theorem classify_spec (b : Burst) (x : WindowLight) :
    (classify b x = .clean ↔ ∃ f, x.found = some f ∧ inTolerance b.expected f.delimiter = true ∧ f.crcGood = true ∧ f.header.drop = b.drop) ∧
    (classify b x = .misfit ↔ ∃ f, x.found = some f ∧ inTolerance b.expected f.delimiter = true ∧ f.crcGood = true ∧ f.header.drop ≠ b.drop) ∧
    (classify b x = .garbled ↔ x.lit = true ∧ ∀ f, x.found = some f → inTolerance b.expected f.delimiter = true → f.crcGood = false) ∧
    (classify b x = .silent ↔ x.lit = false ∧ ∀ f, x.found = some f → inTolerance b.expected f.delimiter = true → f.crcGood = false) := by
  unfold classify
  cases hx : x.found with
  | none => cases x.lit <;> simp
  | some f =>
    cases ht : inTolerance b.expected f.delimiter <;> cases hg : f.crcGood <;> cases hl : x.lit <;> by_cases hd : f.header.drop = b.drop <;>
      simp [ht, hg, hd]

/-! ### What is kept of a window (R106, R116, R117) -/

section
variable {w : Work} {l : Leg} {m : InFlight} {ms : List InFlight} {b : Burst} {x : WindowLight}

theorem Work.windowEnds_missed (hm : (w.leg l).inFlight = m :: ms) (hb : m.map.bursts[m.judged]? = some b) (hc : classify b x ≠ .clean) :
    w.windowEnds l x = (w.mapLeg l fun r => r.keepOutcome b x m.map.round).missBurst l b.drop := by
  have receiving : (w.leg l).receiving = some m := by rw [LegRecord.receiving, hm]; rfl
  have next : (w.leg l).nextWindow = some b := by rw [LegRecord.nextWindow, receiving]; exact hb
  unfold Work.windowEnds
  rw [receiving, next]
  dsimp only
  split
  · next h _ => exact absurd h hc
  · rfl

theorem Work.windowEnds_clean {f : FoundBurst} {lit : Bool} (hm : (w.leg l).inFlight = m :: ms) (hb : m.map.bursts[m.judged]? = some b)
    (hc : classify b ⟨lit, some f⟩ = .clean) :
    w.windowEnds l ⟨lit, some f⟩ = (w.mapLeg l fun r => r.keepOutcome b ⟨lit, some f⟩ m.map.round).deliverClean l b f := by
  have receiving : (w.leg l).receiving = some m := by rw [LegRecord.receiving, hm]; rfl
  have next : (w.leg l).nextWindow = some b := by rw [LegRecord.nextWindow, receiving]; exact hb
  unfold Work.windowEnds
  rw [receiving, next]
  simp only [hc]

end

/-- What a window keeps is of the figures of the receiver alone. -/
theorem LegRecord.keepOutcome_rest (r : LegRecord) (b : Burst) (x : WindowLight) (t : Stamp) :
    ∃ inFlight histories stats, r.keepOutcome b x t =
      { r with inFlight := inFlight, histories := histories, stats := stats, uplink := [] } := ⟨_, _, _, rfl⟩

theorem lastOf_append_getLast? {α : Type} (xs : List α) (x : α) : (lastOf 4 (xs ++ [x])).getLast? = some x := by
  have : ¬(xs ++ [x]).length ≤ (xs ++ [x]).length - 4 := by simp only [List.length_append, List.length_singleton]; omega
  rw [lastOf, List.getLast?_drop, if_neg this, List.getLast?_append_of_ne_nil]
  · rfl
  · exact List.cons_ne_nil _ _

/-- The history of a window that is not CLEAN (R106). -/
theorem LegRecord.keepOutcome_histories {r : LegRecord} {b : Burst} {x : WindowLight} {t : Stamp} (hc : classify b x ≠ .clean) :
    (r.keepOutcome b x t).histories = r.histories.set b.drop.val ((r.histories[b.drop]).record (classify b x)) := by
  unfold LegRecord.keepOutcome
  dsimp only
  congr 1
  split
  · next h _ => exact absurd h hc
  · rfl

/-- The statistics of a window that is not CLEAN (R117). -/
theorem LegRecord.keepOutcome_stats {r : LegRecord} {b : Burst} {x : WindowLight} {t : Stamp} (hc : classify b x ≠ .clean) :
    (r.keepOutcome b x t).stats = r.stats.count (classify b x) := by
  unfold LegRecord.keepOutcome
  dsimp only
  rw [if_neg]
  · rfl
  · rw [Bool.and_eq_true, beq_iff_eq]
    exact fun h => hc h.1

theorem LegRecord.keepOutcome_inFlight {r : LegRecord} {b : Burst} {x : WindowLight} {t : Stamp} {m : InFlight} {ms : List InFlight}
    (hm : r.inFlight = m :: ms) :
    (r.keepOutcome b x t).inFlight = m.judge (classify b x) (r.histories[b.drop]).qualifies :: ms := by
  unfold LegRecord.keepOutcome LegRecord.mapReceiving
  dsimp only
  rw [hm]

/-! ### A missed burst (R30) -/

/-- An entry with one miss more. -/
def DropEntry.missedOnce (e : DropEntry) : DropEntry := { e with missed := min (e.missed + 1) 8 }

section
variable {w : Work} {l : Leg} {d : Drop}

theorem Work.missBurst_short (hh : (w.drop l d).state.heard = true) (hn : (w.drop l d).missed < 7) :
    w.missBurst l d = w.mapDrop l d DropEntry.missedOnce := by
  unfold Work.missBurst
  dsimp only
  rw [if_pos hh, if_neg (by omega)]
  rfl

theorem Work.missBurst_last (hh : (w.drop l d).state.heard = true) (hn : 7 ≤ (w.drop l d).missed) :
    w.missBurst l d = (w.mapDrop l d DropEntry.missedOnce).lose l d .silent := by
  unfold Work.missBurst
  dsimp only
  rw [if_pos hh, if_pos (by omega)]
  rfl

/-- The loss that the eighth miss brings. -/
theorem Work.missBurst_left (hh : (w.drop l d).state.heard = true) (hn : 7 ≤ (w.drop l d).missed) :
    ({ w.leg l with drops := (w.leg l).drops.set d.val (w.drop l d).missedOnce }.gone d).Left d
      ((w.drop l d).missedOnce.lostAt .silent ((w.leg l).control.settings.lostHold * 4096) w.stamp) w.stamp
      ((w.missBurst l d).leg l) := by
  have left := (w.mapDrop l d DropEntry.missedOnce).lose_left l d .silent none
  rw [Work.drop_mapDrop_self, Work.mapDrop_eq, Work.leg_mapLeg_self] at left
  rw [Work.missBurst_last hh hn]
  exact left

theorem Work.missedOnce_of_last (hn : 7 ≤ (w.drop l d).missed) : (w.drop l d).missedOnce.missed = 8 := by
  change min _ 8 = 8
  omega

end

theorem exec_windowEnd (l : Leg) (x : WindowLight) (s : State) :
    exec (.grantedWindowEnd l x) s = .next (event (fun w => w.windowEnds l x) s) := rfl

/-- Settles O39: the outcomes by the cases of `classify`; the record that is kept, then one miss more, or the loss of the eighth. -/
theorem windowOutcomesAndMissesAreCounted : Obligations.WindowOutcomesAndMissesAreCounted := by
  refine ⟨fun b x => ?_, fun l m ms b x s hm hb hc hh => ⟨_, exec_windowEnd l x s, ?_⟩⟩
  · simp only [← inTolerance_iff]
    exact classify_spec b x
  · have miss := Work.windowEnds_missed (w := Work.start s.blocks) hm hb hc
    have outside : ((Work.start s.blocks).windowEnds l x).outside l = (Work.start s.blocks).outside l := Work.windowEnds_outside _ l x
    obtain ⟨v, hv⟩ : ∃ v, v = (Work.start s.blocks).mapLeg l fun r => r.keepOutcome b x m.map.round := ⟨_, rfl⟩
    have vleg : v.leg l = (s.leg l).keepOutcome b x m.map.round := by rw [hv, Work.leg_mapLeg_self]; rfl
    have vdrop (c : Drop) : v.drop l c = s.drop l c := by rw [Work.drop, vleg]; rfl
    have vstamp : v.stamp = s.now := by rw [hv]; rfl
    have vraised : v.raised = [] := by rw [hv]; rfl
    rw [← hv] at miss
    rw [event, miss]
    rw [miss] at outside
    rw [← vdrop] at hh
    have kept (c : Drop) (hcd : c ≠ b.drop) (H : Vector History 128)
        (hH : H = ((s.leg l).keepOutcome b x m.map.round).histories) : H[c] = (s.leg l).histories[c] := by
      rw [hH, LegRecord.keepOutcome_histories hc, get_set, if_neg hcd]
    have history (H : Vector History 128) (hH : H = ((s.leg l).keepOutcome b x m.map.round).histories) :
        H[b.drop].cleanRun = 0 ∧ H[b.drop].recent.getLast? = some (classify b x) := by
      rw [hH, LegRecord.keepOutcome_histories hc, get_set, if_pos rfl]
      exact ⟨if_neg hc, lastOf_append_getLast? _ _⟩
    have figures (r : LegRecord) (hi : r.inFlight = ((s.leg l).keepOutcome b x m.map.round).inFlight)
        (hst : r.stats = ((s.leg l).keepOutcome b x m.map.round).stats) :
        ∃ misfit garbled, r.inFlight = { m with judged := m.judged + 1, misfit := misfit, garbled := garbled } :: ms ∧
        (classify b x = .silent →
          r.stats = { (s.leg l).stats with silent := min ((s.leg l).stats.silent + 1) 4294967295 } ∧
          misfit = m.misfit ∧ garbled = m.garbled) ∧
        (classify b x = .misfit →
          r.stats = { (s.leg l).stats with misfit := min ((s.leg l).stats.misfit + 1) 4294967295 } ∧
          misfit = m.misfit + 1 ∧ garbled = m.garbled) ∧
        (classify b x = .garbled →
          r.stats = { (s.leg l).stats with garbled := min ((s.leg l).stats.garbled + 1) 4294967295 } ∧
          misfit = m.misfit ∧
          garbled = m.garbled + if .clean ∈ (s.leg l).histories[b.drop].recent then 1 else 0) := by
      rw [hi, hst, LegRecord.keepOutcome_inFlight hm, LegRecord.keepOutcome_stats hc]
      refine ⟨_, _, rfl, fun ho => ?_, fun ho => ?_, fun ho => ?_⟩ <;> rw [ho]
      · exact ⟨rfl, by simp, by simp⟩
      · exact ⟨rfl, by simp, by simp⟩
      · refine ⟨rfl, by simp, ?_⟩
        by_cases hq : .clean ∈ (s.leg l).histories[b.drop].recent
        · rw [if_pos hq, if_pos ⟨rfl, List.contains_iff_mem.mpr hq⟩]
        · rw [if_neg hq, if_neg fun h => hq (List.contains_iff_mem.mp h.2)]
          rfl
    have others (k : Leg) (hk : k ≠ l) : (v.missBurst l b.drop).leg k = s.leg k := Work.outside_leg outside hk
    have time : (v.missBurst l b.drop).blocks.time = s.blocks.time := Work.outside_time outside
    by_cases hn : (s.drop l b.drop).missed < 7
    · have short := Work.missBurst_short hh (by rw [vdrop]; exact hn)
      have leg : (v.missBurst l b.drop).leg l =
          { (s.leg l).keepOutcome b x m.map.round with drops := (s.leg l).drops.set b.drop.val (s.drop l b.drop).missedOnce } := by
        rw [short, Work.mapDrop_eq, Work.leg_mapLeg_self, vleg]
        rfl
      have raised : (v.missBurst l b.drop).raised = [] := by rw [short]; exact vraised
      generalize v.missBurst l b.drop = w at leg raised others time
      have drop (c : Drop) : w.drop l c = ((s.leg l).drops.set b.drop.val (s.drop l b.drop).missedOnce)[c] := by rw [Work.drop, leg]
      have histories : (w.leg l).histories = ((s.leg l).keepOutcome b x m.map.round).histories := by rw [leg]
      have rest : (w.leg l).lanes = (s.leg l).lanes ∧ (w.leg l).orders = (s.leg l).orders ∧ (w.leg l).meters = (s.leg l).meters ∧
          (w.leg l).monitor = (s.leg l).monitor ∧ (w.leg l).uplink = [] := by
        rw [leg]
        exact ⟨rfl, rfl, rfl, rfl, rfl⟩
      obtain ⟨lanes, orders, meters, monitor, uplink⟩ := rest
      refine ⟨fun _ => ⟨?_, fun c hcd => ?_, lanes, orders, meters, monitor, ?_⟩, fun h => absurd hn (by omega),
        fun c hcd => kept c hcd _ histories, (history _ histories).1, (history _ histories).2,
        figures (w.leg l) (by rw [leg]) (by rw [leg]), uplink, time, others⟩
      · change w.drop l b.drop = _
        rw [drop, get_set, if_pos rfl, DropEntry.missedOnce, Nat.min_eq_left (by omega)]
      · change w.drop l c = _
        rw [drop, get_set, if_neg hcd]
        rfl
      · change (placeAll s.port w.raised).outbound = _
        rw [raised]
        rfl
    · have left := Work.missBurst_left hh (by rw [vdrop]; omega)
      rw [vleg, vdrop, vstamp] at left
      generalize v.missBurst l b.drop = w at left others time
      obtain ⟨D, L, M, O, N, rest⟩ := left.rest
      have entry : w.drop l b.drop = _ := left.entry
      have histories : (w.leg l).histories = ((s.leg l).keepOutcome b x m.map.round).histories := by rw [rest]; rfl
      have uplink : (w.leg l).uplink = [] := by rw [rest]; rfl
      have missed : (s.drop l b.drop).missedOnce.missed = 8 :=
        Work.missedOnce_of_last (w := Work.start s.blocks) (by change 7 ≤ (s.drop l b.drop).missed; omega)
      have fields : (w.drop l b.drop).missed = 8 ∧ (w.drop l b.drop).since = s.now ∧ (w.drop l b.drop).serial = (s.drop l b.drop).serial ∧
          (w.drop l b.drop).enrolRef = (s.drop l b.drop).enrolRef := by
        rw [entry]
        exact ⟨missed, rfl, rfl, rfl⟩
      obtain ⟨f1, f2, f3, f4⟩ := fields
      refine ⟨fun h => absurd h hn, fun _ => ⟨left.entersLost rfl rfl rfl rfl, f1, f2, f3, f4, left.no_orders, left.no_owed,
        left.searchLeft rfl (fun c hcd => ?_) rfl fun _ _ => rfl⟩, fun c hcd => kept c hcd _ histories, (history _ histories).1,
        (history _ histories).2, figures (w.leg l) (by rw [rest]; rfl) (by rw [rest]; rfl), uplink, time, others⟩
      change ((s.leg l).drops.set b.drop.val _)[c] = _
      rw [get_set, if_neg hcd]
      rfl

end Sys2Proof.Machine
end

section
set_option Elab.async false -- one theorem after another: side by side they ask for more threads than the check's memory limit grants
/-! PROOFS. A CLEAN keepalive as a change of its leg's record (R30, R31, R69 to R72, R82, R107); the sixteenth drift. -/

namespace Sys2Proof.Machine

/-! ### The stages of a CLEAN burst (R107) -/

/-- What a CLEAN burst says of its unit, taken in the order of R107: echo, level, status, judgement. -/
def Work.unitHeard (w : Work) (l : Leg) (d : Drop) (f : FoundBurst) : Work :=
  (((w.deliverEcho l d f.header.echo).mapDrop l d fun e => e.heardClean (meanLevel f.preamble)).takeStatus l d f.header).judgeBurst l d
    (meanLevel f.preamble)

/-- A lane with the backlog its port reports (R82). -/
def Lane.reported (backlog : Vector (BitVec 24) 4) (x : Lane) : Lane := { x with backlog := (backlog[x.port]).toNat }

/-- A leg behind a keepalive of drop `d`: the backlog taken, nothing forwarded. -/
def LegRecord.delivered (r : LegRecord) (d : Drop) (backlog : Vector (BitVec 24) 4) : LegRecord :=
  { r with
    lanes := lanesFor d (Lane.reported backlog) r.lanes
    uplink := []
    stats := { r.stats with upDiscarded := saturate 4294967295 r.stats.upDiscarded 0 } }

section
variable {w : Work} {l : Leg} {d : Drop} {b : Burst} {f : FoundBurst}

theorem Work.deliverClean_eq (hs : (w.drop l b.drop).state ≠ .vacant) :
    w.deliverClean l b f =
      (((w.unitHeard l b.drop f).takeBacklog l b.drop f.header.backlog).takePayload l b f.payload).afterWake l b.drop
        (w.drop l b.drop).state := by
  unfold Work.deliverClean
  dsimp only
  rw [if_neg (by simpa using hs)]
  rfl

theorem Work.takePayload_keepalive (hb : b.segments = []) (p : List Byte) :
    w.takePayload l b p =
      w.mapLeg l fun r => { r with uplink := [], stats := { r.stats with upDiscarded := saturate 4294967295 r.stats.upDiscarded 0 } } := by
  unfold Work.takePayload
  rw [hb]
  rfl

theorem Work.afterWake_of_ne {st : DropState} (h : st ≠ .dormant) : w.afterWake l d st = w := by
  unfold Work.afterWake
  rw [if_neg]
  simp [h]

/-- A keepalive is what it says of its unit, then its backlog reports. -/
theorem Work.deliverClean_keepalive (hd : b.drop = d) (hb : b.segments = []) (hs : (w.drop l d).state ≠ .vacant) :
    w.deliverClean l b f =
      ((w.unitHeard l d f).mapLeg l fun r => r.delivered d f.header.backlog).afterWake l d (w.drop l d).state := by
  subst hd
  rw [Work.deliverClean_eq hs, Work.takePayload_keepalive hb, Work.takeBacklog, Work.mapLanesOf_eq, Work.mapLeg_mapLeg]
  rfl

/-! ### What a burst says of a unit that is not woken and gasps not -/

theorem DropState.not_deaf_of_heard {st : DropState} (h : st.heard = true) : st.deaf = false ∧ (st == .hushed) = false := by
  cases st <;> first | exact ⟨rfl, rfl⟩ | cases h

/-- An entry of a unit in service behind a CLEAN burst. -/
def DropEntry.heardAt (e : DropEntry) (level : Nat) : DropEntry := { e with missed := 0, level := some level, cleanSinceWake := true }

theorem DropEntry.heardClean_of_heard {e : DropEntry} (h : e.state.heard = true) (level : Nat) : e.heardClean level = e.heardAt level := by
  obtain ⟨h1, h2⟩ := DropState.not_deaf_of_heard h
  simp [DropEntry.heardClean, DropEntry.heardAt, h, h1, h2]

theorem Work.takeStatus_quiet {x : BurstHeader} (hg : x.dyingGasp = false) (hw : x.wakeRequest = false ∨ (w.drop l d).state ≠ .dormant) :
    w.takeStatus l d x = w := by
  unfold Work.takeStatus
  dsimp only
  rw [hg, Bool.false_and, if_neg Bool.false_ne_true, if_neg]
  rcases hw with hw | hw <;> simp [hw]

/-- A keepalive without echo and gasp, of a unit in service that asks not to be woken: its level is judged. -/
theorem Work.unitHeard_quiet (he : f.header.echo = none) (hg : f.header.dyingGasp = false) (hh : (w.drop l d).state.heard = true)
    (hw : f.header.wakeRequest = false ∨ (w.drop l d).state ≠ .dormant) :
    w.unitHeard l d f = (w.mapDrop l d fun e => e.heardAt (meanLevel f.preamble)).judgeBurst l d (meanLevel f.preamble) := by
  have heard : (w.mapDrop l d fun e => e.heardClean (meanLevel f.preamble)) = w.mapDrop l d fun e => e.heardAt (meanLevel f.preamble) := by
    refine w.mapLeg_congr l ?_
    dsimp only
    rw [DropEntry.heardClean_of_heard]
    exact hh
  unfold Work.unitHeard
  rw [he, Work.deliverEcho, heard, Work.takeStatus_quiet hg]
  rw [Work.drop_mapDrop_self]
  exact hw

/-! ### Drift (R72) -/

/-- An entry whose out-of-band run came to its end; `stuck` where there is no step to take. -/
def DropEntry.driftEnded (e : DropEntry) (stuck : Bool) : DropEntry := { e with outOfBand := 0, marginal := e.marginal || stuck }

/-- A leg whose drop `d` drifted through 16 bursts (R72). -/
def LegRecord.drifted (r : LegRecord) (d : Drop) (step : Int) : LegRecord :=
  let r' := { r with drops := r.drops.set d.val ((r.drops[d]).driftEnded (step == 0)) }
  if step == 0 then r' else r'.generated d (.stepPower step)

theorem Work.driftStep_eq (w : Work) (l : Leg) (d : Drop) (level : Nat) {step : Int}
    (hstep : step = appliedStep (w.leg l).control.settings.trimLow (w.leg l).control.settings.trimHigh level (w.drop l d).power) :
    w.driftStep l d level = w.mapLeg l fun r => r.drifted d step := by
  unfold Work.driftStep
  dsimp only
  rw [show appliedStep (w.leg l).control.settings.trimLow (w.leg l).control.settings.trimHigh level ((w.leg l).drops[d]).power = step
    from hstep.symm]
  split
  · next h0 =>
    rw [Work.mapDrop_eq, Work.mapDrop_eq, Work.mapLeg_mapLeg]
    refine w.mapLeg_congr l ?_
    unfold LegRecord.drifted DropEntry.driftEnded
    dsimp only
    rw [if_pos h0, h0, get_set, if_pos rfl, Vector.set_set, Bool.or_true]
  · next h0 =>
    rw [Work.generate_eq, Work.mapDrop_eq, Work.mapLeg_mapLeg]
    refine w.mapLeg_congr l ?_
    unfold LegRecord.drifted DropEntry.driftEnded
    dsimp only
    rw [if_neg h0, Bool.eq_false_iff.mpr h0]
    simp only [Bool.or_false]

/-- The sixteenth burst out of band in a row (R72). -/
theorem Work.judgeBurst_drifted {level : Nat} (hs : (w.drop l d).state = .serving) (h15 : 15 ≤ (w.drop l d).outOfBand)
    (hb : ¬((w.leg l).control.settings.trimLow ≤ level ∧ level ≤ (w.leg l).control.settings.trimHigh))
    (ho : (w.leg l).stepOutstanding d = false) : w.judgeBurst l d level = w.driftStep l d level := by
  unfold Work.judgeBurst Work.judgeDrift
  rw [hs]
  dsimp only
  rw [if_neg (by rwa [LegSettings.inBand_iff]), if_neg (by rw [ho]; exact Bool.false_ne_true), if_pos]
  change 15 ≤ ((w.leg l).drops[d]).outOfBand at h15
  omega

end

theorem exec_lastMiss (l : Leg) (d : Drop) (s : State) : exec (.missedCountLimit l d) s = .next (event (fun w => w.lastMiss l d) s) := rfl

theorem exec_lastDrift (l : Leg) (d : Drop) (level : Byte) (s : State) :
    exec (.outOfBandRunLimit l d level) s = .next (event (fun w => w.lastDrift l d level.toNat) s) := rfl

/-- What a granted window of a drop leaves of its leg before its outcome takes effect: figures of the receiver alone. -/
theorem Work.keepOutcome_work (w : Work) (l : Leg) (b : Burst) (x : WindowLight) (t : Stamp) : ∃ I H S,
    (w.mapLeg l fun r => r.keepOutcome b x t) = w.mapLeg l fun r => { r with inFlight := I, histories := H, stats := S, uplink := [] } := by
  obtain ⟨I, H, S, e⟩ := (w.leg l).keepOutcome_rest b x t
  exact ⟨I, H, S, w.mapLeg_congr l e⟩

/-- A CLEAN keepalive of a drop in use: the receiver's figures, what the burst says of the unit, its backlog reports. -/
theorem exec_keepalive {l : Leg} {d : Drop} {m : InFlight} {ms : List InFlight} {b : Burst} {f : FoundBurst} {lit : Bool} {s : State}
    (hm : (s.leg l).inFlight = m :: ms) (hb : m.map.bursts[m.judged]? = some b) (hc : classify b ⟨lit, some f⟩ = .clean)
    (hd : b.drop = d) (hseg : b.segments = []) (hs : (s.drop l d).state ≠ .vacant) : ∃ v : Work,
    (∃ I H S, v = (Work.start s.blocks).mapLeg l fun r => { r with inFlight := I, histories := H, stats := S, uplink := [] }) ∧
    exec (.grantedWindowEnd l ⟨lit, some f⟩) s = .next (event (fun _ =>
      ((v.unitHeard l d f).mapLeg l fun r => r.delivered d f.header.backlog).afterWake l d (s.drop l d).state) s) ∧
    ((((v.unitHeard l d f).mapLeg l fun r => r.delivered d f.header.backlog).afterWake l d (s.drop l d).state).outside l =
      (Work.start s.blocks).outside l) := by
  obtain ⟨I, H, S, e⟩ := (Work.start s.blocks).keepOutcome_work l b ⟨lit, some f⟩ m.map.round
  have clean := Work.windowEnds_clean (w := Work.start s.blocks) hm hb hc
  obtain ⟨v, hv⟩ : ∃ v, v = (Work.start s.blocks).mapLeg l fun r => r.keepOutcome b ⟨lit, some f⟩ m.map.round := ⟨_, rfl⟩
  have drop : v.drop l d = s.drop l d := by rw [hv, Work.drop, Work.leg_mapLeg_self]; rfl
  have outside : ((Work.start s.blocks).windowEnds l ⟨lit, some f⟩).outside l = (Work.start s.blocks).outside l := Work.windowEnds_outside _ l _
  rw [← hv, Work.deliverClean_keepalive hd hseg (by rw [drop]; exact hs), drop] at clean
  rw [clean] at outside
  refine ⟨v, ⟨I, H, S, hv.trans e⟩, ?_, outside⟩
  rw [exec_windowEnd, event, clean]
  rfl

/-- Settles O43: the loss of `missBurst_left`, and the step of `driftStep_eq` as a command and inside a window's end. -/
theorem missAndDriftLimitsAct : Obligations.MissAndDriftLimitsAct := by
  refine ⟨fun l d s hh hn => ⟨_, exec_lastMiss l d s, ?_⟩, fun l d level step s hs h15 hb hq ho hstep => ?_,
    fun l d m ms b f lit step s hm hbm hc hd hseg he hg => ?_⟩
  · have last : (Work.start s.blocks).lastMiss l d = (Work.start s.blocks).missBurst l d := if_pos hn
    have left := Work.missBurst_left (w := Work.start s.blocks) hh hn
    have outside := (Work.start s.blocks).missBurst_outside l d
    rw [event, last]
    generalize (Work.start s.blocks).missBurst l d = w at left outside
    have entry : w.drop l d = _ := left.entry
    have fields : (w.drop l d).state = .lost ∧ (w.drop l d).reason = some (.lost .silent) ∧
        (w.drop l d).hold = some ((s.leg l).control.settings.lostHold * 4096) ∧ (w.drop l d).since = s.now ∧
        (w.drop l d).serial = (s.drop l d).serial ∧ (w.drop l d).enrolRef = (s.drop l d).enrolRef := by
      rw [entry]
      exact ⟨rfl, rfl, rfl, rfl, rfl, rfl⟩
    obtain ⟨f1, f2, f3, f4, f5, f6⟩ := fields
    have lost : EntersLost s { s with blocks := w.blocks, port := placeAll s.port w.raised } l d .silent
        ((s.leg l).control.settings.lostHold * 4096) := left.entersLost rfl rfl rfl rfl
    refine ⟨f1, f2, f3, f4, f5, f6, lost.lanes, left.no_orders, lost.meter, left.searchLeft rfl (fun c hc => ?_) rfl fun _ _ => rfl,
      fun k hk => Work.outside_leg outside hk⟩
    change ((s.leg l).drops.set d.val _)[c] = _
    rw [get_set, if_neg hc]
    rfl
  · have free : (s.leg l).stepOutstanding d = false := LegRecord.stepOutstanding_eq_false hq ho
    have due : (Work.start s.blocks).lastDrift l d level.toNat = (Work.start s.blocks).mapLeg l fun r => r.drifted d step := by
      rw [← (Work.start s.blocks).driftStep_eq l d level.toNat hstep]
      refine if_pos ?_
      have band : (s.leg l).control.settings.inBand level.toNat = false := by
        rw [Bool.eq_false_iff, ne_eq, LegSettings.inBand_iff]
        exact hb
      have serving : ((s.leg l).drops[d]).state = .serving := hs
      have run : 15 ≤ ((s.leg l).drops[d]).outOfBand := h15
      simp [serving, run, band, free, -Fin.getElem_fin]
    rw [exec_lastDrift, event, due]
    refine ⟨fun h0 hroom => ?_, fun h0 => ?_⟩
    · have leg : (s.leg l).drifted d step =
          { s.leg l with
            drops := (s.leg l).drops.set d.val { s.drop l d with outOfBand := 0 }
            orders := (s.leg l).orders ++ [OrderEntry.queued (.stepPower step) (some d)] } := by
        unfold LegRecord.drifted DropEntry.driftEnded
        dsimp only
        rw [if_neg (by simpa using h0), LegRecord.generated_queued _ _ (.stepPower step) rfl (by exact hroom), show (step == 0) = false by simpa using h0]
        simp only [Bool.or_false]
        rfl
      rw [Work.mapLeg_congr _ l (g := fun _ => { s.leg l with
            drops := (s.leg l).drops.set d.val { s.drop l d with outOfBand := 0 }
            orders := (s.leg l).orders ++ [OrderEntry.queued (.stepPower step) (some d)] }) leg]
      rfl
    · have leg : (s.leg l).drifted d step =
          { s.leg l with drops := (s.leg l).drops.set d.val { s.drop l d with outOfBand := 0, marginal := true } } := by
        unfold LegRecord.drifted DropEntry.driftEnded
        dsimp only
        rw [h0, show ((0 : Int) == 0) = true from rfl, if_pos rfl, Bool.or_true]
        rfl
      rw [Work.mapLeg_congr _ l (g := fun _ =>
        { s.leg l with drops := (s.leg l).drops.set d.val { s.drop l d with outOfBand := 0, marginal := true } }) leg]
      rfl
  · intro level settings hs h15 hb hq ho hstep
    obtain ⟨v, ⟨I, H, S, hv⟩, ran, outside⟩ := exec_keepalive hm hbm hc hd hseg (by rw [hs]; nofun)
    refine ⟨_, ran, ?_⟩
    rw [event]
    rw [Work.afterWake_of_ne (by rw [hs]; nofun)] at outside ⊢
    obtain ⟨u, hu⟩ : ∃ u, u = v.mapDrop l d fun e => e.heardAt (meanLevel f.preamble) := ⟨_, rfl⟩
    have vleg : v.leg l = { s.leg l with inFlight := I, histories := H, stats := S, uplink := [] } := by rw [hv, Work.leg_mapLeg_self]; rfl
    have uleg : u.leg l = { v.leg l with drops := (s.leg l).drops.set d.val ((s.drop l d).heardAt level) } := by
      rw [hu, Work.mapDrop_eq, Work.leg_mapLeg_self, vleg]
      rfl
    have vdrop : v.drop l d = s.drop l d := by rw [Work.drop, vleg]; rfl
    have udrop : u.drop l d = (s.drop l d).heardAt level := by rw [hu, Work.drop_mapDrop_self, vdrop]; rfl
    have heard : v.unitHeard l d f = u.judgeBurst l d level := by
      rw [Work.unitHeard_quiet he hg (by rw [vdrop, hs]; rfl) (.inr (by rw [vdrop, hs]; nofun)), hu]
      rfl
    have uset : (u.leg l).control.settings = settings := by rw [uleg, vleg]
    have free : (u.leg l).stepOutstanding d = false := by
      rw [uleg, vleg]
      exact LegRecord.stepOutstanding_eq_false hq ho
    rw [Work.judgeBurst_drifted (by rw [udrop]; exact hs) (by rw [udrop]; exact h15) (by rw [uset]; exact hb) free,
      Work.driftStep_eq u l d level (step := step) (by rw [uset, udrop]; exact hstep)] at heard
    obtain ⟨w, hw⟩ : ∃ w, w = (v.unitHeard l d f).mapLeg l fun r => r.delivered d f.header.backlog := ⟨_, rfl⟩
    have wleg : w.leg l = ((u.leg l).drifted d step).delivered d f.header.backlog := by
      rw [hw, heard, Work.mapLeg_mapLeg, Work.leg_mapLeg_self]
    rw [← hw] at outside ⊢
    have drops : ((u.leg l).drifted d step).drops =
        (s.leg l).drops.set d.val (((s.drop l d).heardAt level).driftEnded (step == 0)) := by
      have set : (u.leg l).drops.set d.val (((u.leg l).drops[d]).driftEnded (step == 0)) =
          (s.leg l).drops.set d.val (((s.drop l d).heardAt level).driftEnded (step == 0)) := by
        rw [show (u.leg l).drops[d] = (s.drop l d).heardAt level from udrop, uleg, Vector.set_set]
      rw [← set]
      unfold LegRecord.drifted
      dsimp only
      split
      · rfl
      · obtain ⟨O, W, e⟩ := LegRecord.generated_rest { u.leg l with
          drops := (u.leg l).drops.set d.val (((u.leg l).drops[d]).driftEnded (step == 0)) } d (.stepPower step)
        rw [e]
    have rest : (w.leg l).meters = (s.leg l).meters ∧ (w.leg l).monitor = (s.leg l).monitor := by
      rw [wleg]
      unfold LegRecord.delivered LegRecord.drifted
      dsimp only
      split
      · rw [uleg, vleg]
        exact ⟨rfl, rfl⟩
      · obtain ⟨O, W, e⟩ := LegRecord.generated_rest { u.leg l with
          drops := (u.leg l).drops.set d.val (((u.leg l).drops[d]).driftEnded (step == 0)) } d (.stepPower step)
        rw [e, uleg, vleg]
        exact ⟨rfl, rfl⟩
    refine ⟨?_, fun h0 => ?_, fun h0 hroom => ?_, fun h0 hroom => ?_, rest.1, rest.2, fun c hcd => ?_, fun k hk => Work.outside_leg outside hk⟩
    · change (w.leg l).drops[d] = _
      rw [wleg, LegRecord.delivered, drops, get_set, if_pos rfl]
      rfl
    · change (w.leg l).orders = _ ∧ (w.leg l).owed = _
      rw [wleg, LegRecord.delivered, LegRecord.drifted, if_pos (by rw [h0]; rfl), uleg, vleg]
      exact ⟨rfl, rfl⟩
    · change (w.leg l).orders = _ ∧ (w.leg l).owed = _
      rw [wleg, LegRecord.delivered, LegRecord.drifted, if_neg (by simpa using h0), LegRecord.generated_queued _ _ (.stepPower step) rfl (by
        rw [uleg, vleg]; exact hroom), uleg, vleg]
      exact ⟨rfl, rfl⟩
    · change (w.leg l).orders = _ ∧ (w.leg l).owed = _
      rw [wleg, LegRecord.delivered, LegRecord.drifted, if_neg (by simpa using h0), LegRecord.generated_owed _ _ _ (by
        rw [uleg, vleg]; exact hroom) (by rw [uleg, vleg]; exact ho), uleg, vleg]
      exact ⟨rfl, rfl⟩
    · change (w.leg l).drops[c] = _
      rw [wleg, LegRecord.delivered, drops, get_set, if_neg hcd]
      rfl

end Sys2Proof.Machine
end

section
set_option Elab.async false -- one theorem after another: side by side they ask for more threads than the check's memory limit grants
/-! PROOFS. GARBLED light as a set of beats, the stranger list, and the one announce of a discovery window (R25, R27 to R29, R61, R113). -/

namespace Sys2Proof.Machine

/-! ### Lit beats outside the announces (R113) -/

/-- Some interval of a list holds a beat. -/
def Covered (is : List (Nat × Nat)) (beat : Nat) : Prop := ∃ i ∈ is, i.1 ≤ beat ∧ beat < i.2

theorem covered_litIntervals (x : FrameLight) (beat : Nat) : ∀ pos,
    Covered (litIntervals x pos) beat ↔ pos ≤ beat ∧ litAt x (beat - pos) = true := by
  induction x with
  | nil => intro pos; simp [Covered, litIntervals, litAt]
  | cons r rs ih =>
    intro pos
    have later := ih (pos + r.beats)
    rw [show beat - (pos + r.beats) = beat - pos - r.beats by omega] at later
    rw [litIntervals, litAt]
    by_cases lit : r.lit = true
    · have first : Covered ((pos, pos + r.beats) :: litIntervals rs (pos + r.beats)) beat ↔
          (pos ≤ beat ∧ beat < pos + r.beats) ∨ Covered (litIntervals rs (pos + r.beats)) beat := by
        simp [Covered]
      rw [if_pos lit, first, later]
      by_cases inside : beat - pos < r.beats
      · rw [if_pos inside]
        exact ⟨fun h => ⟨h.elim And.left fun h => by omega, lit⟩, fun h => .inl ⟨h.1, by omega⟩⟩
      · rw [if_neg inside]
        constructor
        · rintro (h | ⟨h1, h2⟩)
          · omega
          · exact ⟨by omega, h2⟩
        · rintro ⟨h1, h2⟩
          exact .inr ⟨by omega, h2⟩
    · rw [if_neg lit, later]
      by_cases inside : beat - pos < r.beats
      · simp only [if_pos inside, lit]
        constructor
        · rintro ⟨h1, -⟩
          omega
        · rintro ⟨-, h⟩
          exact absurd h Bool.false_ne_true
      · rw [if_neg inside]
        constructor
        · rintro ⟨h1, h2⟩
          exact ⟨by omega, h2⟩
        · rintro ⟨h1, h2⟩
          exact ⟨by omega, h2⟩

/-- The beats of intervals cut to those from `s` to before beat 8,000. -/
theorem covered_clip (is : List (Nat × Nat)) (s beat : Nat) :
    Covered ((is.map fun i => (max i.1 s, min i.2 8000)).filter fun i => i.1 < i.2) beat ↔ Covered is beat ∧ s ≤ beat ∧ beat < 8000 := by
  unfold Covered
  simp only [List.mem_filter, List.mem_map, decide_eq_true_eq]
  constructor
  · rintro ⟨_, ⟨⟨i, hi, rfl⟩, -⟩, h1, h2⟩
    dsimp only at h1 h2
    exact ⟨⟨i, hi, by omega, by omega⟩, by omega, by omega⟩
  · rintro ⟨⟨i, hi, h1, h2⟩, h3, h4⟩
    exact ⟨_, ⟨⟨i, hi, rfl⟩, by dsimp only; omega⟩, by dsimp only; omega, by dsimp only; omega⟩

theorem covered_cut (is : List (Nat × Nat)) (c : Nat × Nat) (beat : Nat) :
    Covered (is.flatMap (cutInterval c)) beat ↔ Covered is beat ∧ (beat < c.1 ∨ c.2 ≤ beat) := by
  unfold Covered
  simp only [List.mem_flatMap, cutInterval, List.mem_filter, List.mem_cons, List.not_mem_nil, or_false, decide_eq_true_eq]
  constructor
  · rintro ⟨_, ⟨i, hi, rfl | rfl, -⟩, h1, h2⟩ <;> dsimp only at h1 h2
    · exact ⟨⟨i, hi, by omega, by omega⟩, by omega⟩
    · exact ⟨⟨i, hi, by omega, by omega⟩, by omega⟩
  · rintro ⟨⟨i, hi, h1, h2⟩, h3 | h3⟩
    · exact ⟨_, ⟨i, hi, .inl rfl, by dsimp only; omega⟩, by dsimp only; omega, by dsimp only; omega⟩
    · exact ⟨_, ⟨i, hi, .inr rfl, by dsimp only; omega⟩, by dsimp only; omega, by dsimp only; omega⟩

theorem covered_cuts (xs : List FoundAnnounce) (beat : Nat) : ∀ is,
    Covered (xs.foldl (fun is a => is.flatMap (cutInterval (announceBeats a))) is) beat ↔
      Covered is beat ∧ ∀ a ∈ xs, beat < (announceBeats a).1 ∨ (announceBeats a).2 ≤ beat := by
  induction xs with
  | nil => intro is; simp
  | cons a xs ih =>
    intro is
    rw [List.foldl_cons, ih, covered_cut, List.forall_mem_cons, and_assoc]

/-- No interval of a list is empty. -/
def NoneEmpty (is : List (Nat × Nat)) : Prop := ∀ i ∈ is, i.1 < i.2

theorem noneEmpty_cuts (xs : List FoundAnnounce) : ∀ is, NoneEmpty is →
    NoneEmpty (xs.foldl (fun is a => is.flatMap (cutInterval (announceBeats a))) is) := by
  induction xs with
  | nil => exact fun _ h => h
  | cons a xs ih =>
    refine fun is _ => ih _ fun j hj => ?_
    obtain ⟨i, -, hj⟩ := List.mem_flatMap.mp hj
    exact of_decide_eq_true (List.mem_filter.mp hj).2

theorem NoneEmpty.nonempty_iff {is : List (Nat × Nat)} (h : NoneEmpty is) : (!is.isEmpty) = true ↔ ∃ beat, Covered is beat := by
  cases is with
  | nil => simp [Covered]
  | cons i is => exact iff_of_true rfl ⟨i.1, i, List.mem_cons_self, le_rfl, h i List.mem_cons_self⟩

theorem mem_decodedAnnounces {s : Nat} {xs : List FoundAnnounce} {a : FoundAnnounce} :
    a ∈ decodedAnnounces s xs ↔ a ∈ xs ∧ announceDecoded a s = true := by
  rw [decodedAnnounces, List.mem_insertionSort, List.mem_filter]

theorem announceDecoded_iff (s : Nat) (a : FoundAnnounce) : announceDecoded a s = true ↔
    8 * s + 80 ≤ a.delimiter ∧ a.delimiter + 48 ≤ 64000 ∧ a.crcGood = true ∧ a.capability = 1 := by
  simp [announceDecoded, announceInside, and_assoc]

theorem announceGarbled_iff (s : Nat) (a : FoundAnnounce) : announceGarbled a s = true ↔
    8 * s ≤ a.delimiter ∧ (a.crcGood = false ∨ a.capability ≠ 1 ∨ 64000 < a.delimiter + 48) := by
  simp [announceGarbled, or_assoc]

/-- GARBLED light of a discovery window (R113). -/
theorem garbledLight_iff (s : Nat) (light : FrameLight) (xs : List FoundAnnounce) : garbledLight s light xs = true ↔
    (∃ beat, s ≤ beat ∧ beat < 8000 ∧ litAt light beat = true ∧
      ∀ a ∈ xs, announceDecoded a s = true → beat < (a.delimiter - 80) / 8 ∨ (a.delimiter + 55) / 8 ≤ beat) ∨
    ∃ a ∈ xs, 8 * s ≤ a.delimiter ∧ (a.crcGood = false ∨ a.capability ≠ 1 ∨ 64000 < a.delimiter + 48) := by
  obtain ⟨lit, hlit⟩ : ∃ lit, lit = ((litIntervals light 0).map fun i => (max i.1 s, min i.2 8000)).filter fun i => i.1 < i.2 := ⟨_, rfl⟩
  have shape : garbledLight s light xs =
      (!((decodedAnnounces s xs).foldl (fun is a => is.flatMap (cutInterval (announceBeats a))) lit).isEmpty ||
        xs.any fun a => announceGarbled a s) := by rw [hlit]; rfl
  have full : NoneEmpty lit := by
    rw [hlit]
    exact fun i hi => of_decide_eq_true (List.mem_filter.mp hi).2
  rw [shape, Bool.or_eq_true, (noneEmpty_cuts _ lit full).nonempty_iff, List.any_eq_true]
  simp only [covered_cuts, announceGarbled_iff]
  refine or_congr (exists_congr fun beat => ?_) Iff.rfl
  rw [hlit, covered_clip, covered_litIntervals, Nat.sub_zero]
  simp only [mem_decodedAnnounces, announceBeats, and_imp, Nat.zero_le, true_and]
  constructor
  · rintro ⟨⟨h1, h2, h3⟩, h4⟩
    exact ⟨h2, h3, h1, h4⟩
  · rintro ⟨h1, h2, h3, h4⟩
    exact ⟨⟨h3, h1, h2⟩, h4⟩

/-! ### The stranger list (R25) -/

/-- The search for the oldest last-heard stamp, from the best place so far. -/
theorem oldest_kept (xs : List Stranger) : ∀ (k b : Nat) (t : Stamp), (∀ z ∈ xs, t.le z.lastHeard = true) →
    ((xs.zipIdx k).foldl (fun (best : Nat × Stamp) x => if !(best.2.le x.1.lastHeard) then (x.2, x.1.lastHeard) else best) (b, t)).1 =
      b := by
  induction xs with
  | nil => intros; rfl
  | cons x xs ih =>
    intro k b t h
    rw [List.zipIdx_cons, List.foldl_cons, if_neg (by simp [h x List.mem_cons_self])]
    exact ih _ b t fun z hz => h z (List.mem_cons_of_mem _ hz)

theorem oldest_found (xs : List Stranger) : ∀ (j k b : Nat) (t : Stamp) (y : Stranger), xs[j]? = some y → t.le y.lastHeard = false →
    (∀ i z, xs[i]? = some z → y.lastHeard.le z.lastHeard = true ∧ (i < j → z.lastHeard.le y.lastHeard = false)) →
    ((xs.zipIdx k).foldl (fun (best : Nat × Stamp) x => if !(best.2.le x.1.lastHeard) then (x.2, x.1.lastHeard) else best) (b, t)).1 =
      k + j := by
  induction xs with
  | nil => intro j k b t y hy; cases hy
  | cons x xs ih =>
    intro j k b t y hy ht h
    rw [List.zipIdx_cons, List.foldl_cons]
    cases j with
    | zero =>
      obtain rfl : x = y := Option.some.inj hy
      rw [if_pos (by simp [ht]), oldest_kept]
      · rfl
      · intro z hz
        obtain ⟨i, hi⟩ := List.mem_iff_getElem?.mp hz
        exact (h (i + 1) z hi).1
    | succ j =>
      have rest : ∀ i z, xs[i]? = some z → y.lastHeard.le z.lastHeard = true ∧ (i < j → z.lastHeard.le y.lastHeard = false) :=
        fun i z hz => ⟨(h (i + 1) z hz).1, fun hij => (h (i + 1) z hz).2 (by omega)⟩
      rw [show k + (j + 1) = k + 1 + j by omega]
      split
      · exact ih j _ _ _ y hy ((h 0 x rfl).2 (by omega)) rest
      · exact ih j _ _ _ y hy ht rest

theorem oldestStranger_eq {xs : List Stranger} {j : Nat} {y : Stranger} (hy : xs[j]? = some y)
    (h : ∀ i z, xs[i]? = some z → y.lastHeard.le z.lastHeard = true ∧ (i < j → z.lastHeard.le y.lastHeard = false)) :
    oldestStranger xs = j := by
  cases xs with
  | nil => cases hy
  | cons x xs =>
    change (((x :: xs).zipIdx 0).foldl _ (0, x.lastHeard)).1 = j
    cases j with
    | zero =>
      obtain rfl : x = y := Option.some.inj hy
      refine oldest_kept _ 0 0 _ fun z hz => ?_
      obtain ⟨i, hi⟩ := List.mem_iff_getElem?.mp hz
      exact (h i z hi).1
    | succ j => exact (oldest_found _ (j + 1) 0 0 _ y hy ((h 0 x rfl).2 (by omega)) h).trans (by omega)

section
variable {xs : List Stranger} {serial : Serial} {why : StrangerWhy} {t : Stamp}

theorem noteStranger_listed (h : ∃ x ∈ xs, x.serial = serial) : noteStranger xs serial why t =
    (xs.map fun x => if x.serial = serial then { x with why := why, lastHeard := t, times := min (x.times + 1) 255 } else x, false) := by
  unfold noteStranger
  rw [if_pos (by simpa [List.any_eq_true] using h)]
  simp only [beq_iff_eq]

theorem noteStranger_fresh (h : ∀ x ∈ xs, x.serial ≠ serial) (hn : xs.length < 8) :
    noteStranger xs serial why t = (xs ++ [⟨serial, why, t, t, 1⟩], true) := by
  unfold noteStranger
  rw [if_neg (by simpa [List.any_eq_true] using h), if_pos hn]

theorem noteStranger_full (h : ∀ x ∈ xs, x.serial ≠ serial) (hn : 8 ≤ xs.length) :
    noteStranger xs serial why t = (xs.eraseIdx (oldestStranger xs) ++ [⟨serial, why, t, t, 1⟩], true) := by
  unfold noteStranger
  rw [if_neg (by simpa [List.any_eq_true] using h), if_neg (by omega)]

theorem noteStranger_new (h : ∀ x ∈ xs, x.serial ≠ serial) : (noteStranger xs serial why t).2 = true := by
  by_cases hn : xs.length < 8
  · rw [noteStranger_fresh h hn]
  · rw [noteStranger_full h (by omega)]

end

/-! ### One announce (R27) -/

section
variable (w : Work) (l : Leg) (d : Drop)

theorem Work.stranger_leg (serial : Serial) (why : StrangerWhy) (t : Stamp) :
    (w.stranger l serial why t).leg l = { w.leg l with strangers := (noteStranger (w.leg l).strangers serial why t).1 } ∧
    (w.stranger l serial why t).blocks.enrol = w.blocks.enrol ∧
    (w.stranger l serial why t).raised = w.raised ++
      if (noteStranger (w.leg l).strangers serial why t).2 then [⟨some l, none, w.stamp, .stranger serial why⟩] else [] := by
  unfold Work.stranger
  dsimp only
  split
  · exact ⟨by rw [Work.raise_leg, Work.leg_mapLeg_self], rfl, rfl⟩
  · exact ⟨Work.leg_mapLeg_self .., rfl, (List.append_nil _).symm⟩

/-- A leg whose entry `d` is `e`, no echo of it heard, its history empty. -/
def LegRecord.taken (r : LegRecord) (d : Drop) (e : DropEntry) : LegRecord :=
  { r with drops := r.drops.set d.val e, lastEcho := r.lastEcho.set d.val none, histories := r.histories.set d.val History.empty }

/-- An entry taken anew, and its notice. -/
theorem Work.taken_eq (f : DropEntry → DropEntry) :
    ((w.mapDrop l d f).forget l d).raiseDropState l d =
      (w.mapLeg l fun r => r.taken d (f r.drops[d])).raise (some l) (some d)
        (.dropState (f (w.drop l d)).state (f (w.drop l d)).since (f (w.drop l d)).reason (f (w.drop l d)).awaitingCause none) := by
  rw [Work.raiseDropState, Work.forget, Work.mapDrop_eq, Work.mapLeg_mapLeg]
  congr 1
  rw [Work.drop, Work.leg_mapLeg_self, get_set, if_pos rfl]
  rfl

end

section
variable {w : Work} {l : Leg} {t : Stamp} {serial : Serial} {power : Nat}

theorem Work.matchAnnounce_unknown (h : (w.blocks.enrolWhere fun e => e.serial == serial) = none) :
    w.matchAnnounce l t serial power = w.stranger l serial .unknown t := by
  unfold Work.matchAnnounce
  rw [h]

variable {i : Fin 512} {e : EnrolEntry} {k : Leg} {d : Drop}

theorem Work.matchAnnounce_wrongLeg (h : (w.blocks.enrolWhere fun e => e.serial == serial) = some i) (he : w.blocks.enrol[i] = some e)
    (hb : e.binding = none) (ha : e.allowed = some k) (hk : k ≠ l) : w.matchAnnounce l t serial power = w.stranger l serial .wrongLeg t := by
  unfold Work.matchAnnounce
  rw [h]
  simp only [he, hb, ha, Option.any_some, bne_iff_ne, ne_eq, hk, not_false_eq_true, if_true]

theorem Work.matchAnnounce_claims (h : (w.blocks.enrolWhere fun e => e.serial == serial) = some i) (he : w.blocks.enrol[i] = some e)
    (hb : e.binding = none) (ha : e.allowed = none ∨ e.allowed = some l) {ds : List Drop}
    (hd : ((w.leg l).dropsWhere fun x => x.state == .vacant) = d :: ds) : w.matchAnnounce l t serial power = w.claim l d i serial power := by
  unfold Work.matchAnnounce
  rw [h]
  simp only [he, hb]
  rw [if_neg (by rcases ha with ha | ha <;> simp [ha]), hd]

theorem Work.matchAnnounce_tableFull (h : (w.blocks.enrolWhere fun e => e.serial == serial) = some i) (he : w.blocks.enrol[i] = some e)
    (hb : e.binding = none) (ha : e.allowed = none ∨ e.allowed = some l)
    (hd : ((w.leg l).dropsWhere fun x => x.state == .vacant) = []) :
    w.matchAnnounce l t serial power = w.raise (some l) none (.tableFull serial) := by
  unfold Work.matchAnnounce
  rw [h]
  simp only [he, hb]
  rw [if_neg (by rcases ha with ha | ha <;> simp [ha]), hd]

/-- A serial bound to an entry that is not LOST on this leg, nor RETIRING, clashes (R29). -/
theorem Work.matchAnnounce_clash (h : (w.blocks.enrolWhere fun e => e.serial == serial) = some i) (he : w.blocks.enrol[i] = some e)
    (hb : e.binding = some (k, d)) (hl : (w.drop k d).state = .lost → k ≠ l) (hr : (w.drop k d).state ≠ .retiring) :
    w.matchAnnounce l t serial power = w.raise (some l) (some d) (.clash serial k d) := by
  unfold Work.matchAnnounce
  rw [h]
  simp only [he, hb]
  split
  · next lost => rw [if_neg (hl lost)]
  · next ret => exact absurd ret hr
  · rfl

theorem Work.matchAnnounce_retiring (h : (w.blocks.enrolWhere fun e => e.serial == serial) = some i) (he : w.blocks.enrol[i] = some e)
    (hb : e.binding = some (k, d)) (hr : (w.drop k d).state = .retiring) : w.matchAnnounce l t serial power = w := by
  unfold Work.matchAnnounce
  rw [h]
  simp only [he, hb, hr]

theorem Work.matchAnnounce_lost (h : (w.blocks.enrolWhere fun e => e.serial == serial) = some i) (he : w.blocks.enrol[i] = some e)
    (hb : e.binding = some (l, d)) (hr : (w.drop l d).state = .lost) : w.matchAnnounce l t serial power = w.refind l d power := by
  unfold Work.matchAnnounce
  rw [h]
  simp only [he, hb, hr, if_true]

/-- An entry claimed by a fresh announce (R28). -/
def DropEntry.claimed (now : Stamp) (serial : Serial) (i : Fin 512) (power : Nat) : DropEntry :=
  { DropEntry.vacant now with state := .found, serial := some serial, enrolRef := some i, origin := some .new, power := min power 31 }

/-- A LOST entry found again (R29). -/
def DropEntry.refound (e : DropEntry) (now : Stamp) (power : Nat) : DropEntry :=
  { e.resetCounts with
    state := .found, since := now, origin := some (.reused (e.hold.getD 0) e.lostReason), hold := none, reason := none
    power := min power 31, level := none }

theorem Work.claim_leg (w : Work) (l : Leg) (d : Drop) (i : Fin 512) (serial : Serial) (power : Nat) :
    (w.claim l d i serial power).leg l = (w.leg l).taken d (.claimed w.stamp serial i power) ∧
    (w.claim l d i serial power).blocks.enrol[i] = (w.blocks.enrol[i]).map (fun e => { e with binding := some (l, d) }) ∧
    (w.claim l d i serial power).raised = w.raised ++ [⟨some l, some d, w.stamp, .dropState .found w.stamp none none none⟩] := by
  have claimed : w.claim l d i serial power = _ := (w.mapEnrol i fun e => { e with binding := some (l, d) }).taken_eq l d fun _ =>
    .claimed w.stamp serial i power
  rw [claimed]
  refine ⟨?_, ?_, rfl⟩
  · rw [Work.raise_leg, Work.leg_mapLeg_self, Work.mapEnrol_leg]
  · rw [Work.raise_blocks, Work.mapLeg_enrol, Work.mapEnrol_enrol_self]

theorem Work.refind_leg (w : Work) (l : Leg) (d : Drop) (power : Nat) :
    (w.refind l d power).leg l = (w.leg l).taken d ((w.drop l d).refound w.stamp power) ∧
      (w.refind l d power).blocks.enrol = w.blocks.enrol := by
  have refound : w.refind l d power = _ := w.taken_eq l d fun e => e.refound w.stamp power
  rw [refound]
  exact ⟨by rw [Work.raise_leg, Work.leg_mapLeg_self]; rfl, by rw [Work.raise_blocks, Work.mapLeg_enrol]⟩

end

/-! ### The end of a discovery window with one decoded announce (R61, R113) -/

/-- A leg behind a discovery window with one announce: the window has reported, its light and its announce are counted. -/
def LegRecord.heardOne (r : LegRecord) (garbled : Bool) : LegRecord :=
  { r.windowReported with
    schedule := { r.schedule with quickRetry := garbled }
    stats :=
      { r.stats with
        announces := saturate 4294967295 r.stats.announces 1
        garbledWindows := if garbled then bump32 r.stats.garbledWindows else r.stats.garbledWindows } }

section
variable {l : Leg} {m : InFlight} {ms : List InFlight} {n : Nat} {light : FrameLight} {a : FoundAnnounce} {s : State}

theorem decodedAnnounces_one {start : Nat} (h : announceDecoded a start = true) : decodedAnnounces start [a] = [a] := by
  unfold decodedAnnounces
  rw [List.filter_cons_of_pos (by exact h), List.filter_nil]
  rfl

theorem Work.discoveryEnds_one {w : Work} (hm : (w.leg l).inFlight = m :: ms) (hw : m.map.window = some ⟨.discovery, n⟩)
    (hd : m.windowDone = false) (ha : announceDecoded a (8000 - n) = true) : w.discoveryEnds l light [a] =
      (w.mapLeg l fun r => r.heardOne (garbledLight (8000 - n) light [a])).matchAnnounce l m.map.round a.serial a.power.toNat := by
  have receives : (w.leg l).receiving = some m := by rw [LegRecord.receiving, hm]; rfl
  have awaits : m.awaits .discovery = some (8000 - n) := by simp [InFlight.awaits, hw, hd]
  unfold Work.discoveryEnds
  rw [receives]
  dsimp only
  rw [awaits]
  dsimp only
  rw [decodedAnnounces_one ha, List.length_singleton, List.foldl_cons, List.foldl_nil]
  rfl

/-- The work that the match of the announce begins with, and what the match leaves alone. -/
theorem exec_discovery_one (hm : (s.leg l).inFlight = m :: ms) (hw : m.map.window = some ⟨.discovery, n⟩)
    (hd : m.windowDone = false) (ha : announceDecoded a (8000 - n) = true) : ∃ v : Work,
    v.leg l = (s.leg l).heardOne (garbledLight (8000 - n) light [a]) ∧ v.blocks.enrol = s.blocks.enrol ∧ v.stamp = s.now ∧
      v.raised = [] ∧ v.blocks.enrolWhere (fun e => e.serial == a.serial) = s.blocks.enrolWhere (fun e => e.serial == a.serial) ∧
      (∀ k d, v.drop k d = s.drop k d) ∧
      exec (.discoveryWindowEnd l light [a]) s = .next (event (fun _ => v.matchAnnounce l m.map.round a.serial a.power.toNat) s) ∧
      (∀ k, k ≠ l → (v.matchAnnounce l m.map.round a.serial a.power.toNat).leg k = s.leg k) := by
  obtain ⟨v, hv⟩ : ∃ v, v = (Work.start s.blocks).mapLeg l fun r => r.heardOne (garbledLight (8000 - n) light [a]) := ⟨_, rfl⟩
  have leg : v.leg l = (s.leg l).heardOne (garbledLight (8000 - n) light [a]) := by rw [hv, Work.leg_mapLeg_self]; rfl
  have others : ∀ k, k ≠ l → v.leg k = s.leg k := fun k hk => by rw [hv, Work.leg_mapLeg_of_ne _ _ _ _ hk]; rfl
  have enrol : v.blocks.enrol = s.blocks.enrol := by rw [hv, Work.mapLeg_enrol]; rfl
  refine ⟨v, leg, enrol, by rw [hv]; rfl, by rw [hv]; rfl, by unfold Blocks.enrolWhere; rw [enrol], fun k d => ?_, ?_, fun k hk => ?_⟩
  · rw [Work.drop]
    by_cases hk : k = l
    · rw [hk, leg]
      rfl
    · rw [others k hk]
      rfl
  · have ends := Work.discoveryEnds_one (w := Work.start s.blocks) (light := light) hm hw hd ha
    rw [← hv] at ends
    change Host.Outcome.next (event (fun w => w.discoveryEnds l light [a]) s) = _
    rw [event, ends]
    rfl
  · rw [Work.outside_leg (v.matchAnnounce_outside l _ _ _) hk, others k hk]

end

theorem LegRecord.heardOne_kept (r : LegRecord) (g : Bool) :
    (r.heardOne g).strangers = r.strangers ∧ (r.heardOne g).drops = r.drops ∧
      (r.heardOne g).stats.announces = min (r.stats.announces + 1) 4294967295 ∧ (r.heardOne g).schedule.quickRetry = g :=
  ⟨rfl, rfl, rfl, rfl⟩

/-- The VACANT entries of a leg in ascending order begin with the least. -/
theorem LegRecord.dropsWhere_least {r : LegRecord} {p : DropEntry → Bool} {d : Drop} (hd : p r.drops[d] = true)
    (hlow : ∀ c : Drop, c < d → p r.drops[c] = false) : ∃ ds, r.dropsWhere p = d :: ds := by
  have first : (r.dropsWhere p).head? = some d := by
    rw [LegRecord.dropsWhere, List.head?_filter]
    exact find?_least (List.pairwise_lt_finRange 128) (List.mem_finRange d) hd hlow
  cases e : r.dropsWhere p with
  | nil => rw [e] at first; cases first
  | cons c ds =>
    rw [e] at first
    exact ⟨ds, by rw [Option.some.inj first]⟩

/-- Settles O45: the beats of GARBLED light as a set, and the one announce by the rows of R27. -/
theorem announceIsMatched : Obligations.AnnounceIsMatched := by
  refine ⟨garbledLight_iff, announceDecoded_iff, fun l m ms n light a s hm hw hd ha => ?_⟩
  obtain ⟨v, leg, enrol, stamp, raised, where_, drops, ran, others⟩ := exec_discovery_one (light := light) hm hw hd ha
  obtain ⟨strangers, entries, counted, quick⟩ := (s.leg l).heardOne_kept (garbledLight (8000 - n) light [a])
  rw [← leg] at strangers entries counted quick
  have noted : ∀ why, v.matchAnnounce l m.map.round a.serial a.power.toNat = v.stranger l a.serial why m.map.round →
      ∃ t, exec (.discoveryWindowEnd l light [a]) s = .next t ∧ (t.leg l).drops = (s.leg l).drops ∧
        t.blocks.enrol = s.blocks.enrol ∧ (t.leg l).stats.announces = min ((s.leg l).stats.announces + 1) 4294967295 ∧
        (t.leg l).schedule.quickRetry = garbledLight (8000 - n) light [a] ∧ (∀ k : Leg, k ≠ l → t.leg k = s.leg k) ∧
        (t.leg l).strangers = (noteStranger (s.leg l).strangers a.serial why m.map.round).1 ∧
        t.port = placeAll s.port (if (noteStranger (s.leg l).strangers a.serial why m.map.round).2 then
          [⟨some l, none, s.now, .stranger a.serial why⟩] else []) := by
    intro why is
    obtain ⟨u, hu⟩ : ∃ u, u = v.matchAnnounce l m.map.round a.serial a.power.toNat := ⟨_, rfl⟩
    obtain ⟨uleg, uenrol, uraised⟩ := v.stranger_leg l a.serial why m.map.round
    rw [← is, ← hu] at uleg uenrol uraised
    rw [← hu] at others ran
    refine ⟨_, ran, ?_, uenrol.trans enrol, ?_, ?_, others, ?_, ?_⟩
    · exact (congrArg LegRecord.drops uleg).trans entries
    · exact (congrArg (·.stats.announces) uleg).trans counted
    · exact (congrArg (·.schedule.quickRetry) uleg).trans quick
    · rw [← strangers]
      exact congrArg LegRecord.strangers uleg
    · change placeAll s.port u.raised = _
      rw [uraised, strangers, stamp, raised, List.nil_append]
  have unchanged : ∀ (raise : List Notice), v.matchAnnounce l m.map.round a.serial a.power.toNat = { v with raised := raise } →
      ∃ t, exec (.discoveryWindowEnd l light [a]) s = .next t ∧ t.port = placeAll s.port raise ∧ (t.leg l).drops = (s.leg l).drops ∧
        t.blocks.enrol = s.blocks.enrol ∧ (t.leg l).strangers = (s.leg l).strangers ∧
        (t.leg l).stats.announces = min ((s.leg l).stats.announces + 1) 4294967295 ∧
        (t.leg l).schedule.quickRetry = garbledLight (8000 - n) light [a] ∧ ∀ k : Leg, k ≠ l → t.leg k = s.leg k := by
    intro raise is
    rw [is] at others ran
    exact ⟨_, ran, rfl, entries, enrol, strangers, counted, quick, others⟩
  have strange : ∀ why : StrangerWhy,
      why = .unknown ∧ (s.blocks.enrolWhere fun e => e.serial == a.serial) = none ∨
        why = .wrongLeg ∧ (∃ i e k, (s.blocks.enrolWhere fun e => e.serial == a.serial) = some i ∧
          s.blocks.enrol[(i : Fin 512)] = some e ∧ e.binding = none ∧ e.allowed = some k ∧ k ≠ l) →
      v.matchAnnounce l m.map.round a.serial a.power.toNat = v.stranger l a.serial why m.map.round := by
    rintro why (⟨rfl, none⟩ | ⟨rfl, i, e, k, found, he, hb, hallowed, hk⟩)
    · exact Work.matchAnnounce_unknown (where_.trans none)
    · exact Work.matchAnnounce_wrongLeg (where_.trans found) (by rw [enrol]; exact he) hb hallowed hk
  refine ⟨fun hnone hlen hnew => ?_, fun why hwhy => ?_, fun i e hi he hb hallowed hfull => ?_, fun i e k d hi he hb hk => ?_,
    fun i e d hi he hb hallowed hs hlow => ?_, fun i e d hi he hb => ?_⟩
  · obtain ⟨t, ht, tdrops, tenrol, tcount, tquick, tothers, tlist, tport⟩ := noted .unknown (strange _ (.inl ⟨rfl, hnone⟩))
    rw [noteStranger_fresh hnew hlen] at tlist tport
    exact ⟨t, ht, tlist, tdrops, tenrol, tport, tcount, tquick, tothers⟩
  · obtain ⟨t, ht, tdrops, tenrol, tcount, tquick, tothers, tlist, tport⟩ := noted why (strange _ hwhy)
    refine ⟨t, ht, tdrops, tenrol, tcount, tquick, tothers, fun hlisted => ?_, fun hnew => ⟨?_, fun hlen => ?_, fun j y hlen hy hold => ?_⟩⟩
    · rw [noteStranger_listed hlisted] at tlist tport
      exact ⟨tlist, tport⟩
    · rw [tport, noteStranger_new hnew]
      rfl
    · rw [tlist, noteStranger_fresh hnew hlen]
    · rw [tlist, noteStranger_full hnew hlen, oldestStranger_eq hy hold]
  · have full : ((v.leg l).dropsWhere fun x => x.state == .vacant) = [] := by
      refine List.filter_eq_nil_iff.mpr fun d _ => ?_
      rw [entries]
      exact Bool.eq_false_iff.mp (beq_eq_false_iff_ne.mpr (hfull d))
    refine unchanged _ ((Work.matchAnnounce_tableFull (where_.trans hi) (by rw [enrol]; exact he) hb hallowed full).trans ?_)
    rw [Work.raise, raised, stamp, List.nil_append]
  · have found := where_.trans hi
    have entry : v.blocks.enrol[i] = some e := by rw [enrol]; exact he
    by_cases hr : (s.drop k d).state = .retiring
    · have same := Work.matchAnnounce_retiring (t := m.map.round) (l := l) (power := a.power.toNat) found entry hb (by rw [drops]; exact hr)
      obtain ⟨t, ht, tport, rest⟩ := unchanged [] (same.trans (by rw [← raised]))
      exact ⟨t, ht, fun _ => tport, fun h => absurd hr h, rest⟩
    · have clash := Work.matchAnnounce_clash (t := m.map.round) (l := l) (power := a.power.toNat) found entry hb (fun _ => hk)
        (by rw [drops]; exact hr)
      obtain ⟨t, ht, tport, rest⟩ := unchanged _ (clash.trans (by rw [Work.raise, raised, stamp, List.nil_append]))
      exact ⟨t, ht, fun h => absurd h hr, fun _ => tport, rest⟩
  · obtain ⟨ds, hds⟩ : ∃ ds, ((v.leg l).dropsWhere fun x => x.state == .vacant) = d :: ds := by
      refine LegRecord.dropsWhere_least ?_ fun c hc => ?_
      · rw [entries]
        exact beq_iff_eq.mpr hs
      · rw [entries]
        exact beq_eq_false_iff_ne.mpr (hlow c hc)
    have claims := Work.matchAnnounce_claims (t := m.map.round) (power := a.power.toNat) (where_.trans hi) (by rw [enrol]; exact he) hb
      hallowed hds
    obtain ⟨cleg, cenrol, craised⟩ := v.claim_leg l d i a.serial a.power.toNat
    rw [← claims] at cleg cenrol craised
    generalize v.matchAnnounce l m.map.round a.serial a.power.toNat = u at ran others cleg cenrol craised
    have stats : (u.leg l).stats = (v.leg l).stats := by rw [cleg]; rfl
    refine ⟨_, ran, ?_, ?_, fun c hc => ?_, ?_, ?_, ?_, ?_, ?_, ?_, others⟩
    · change (u.leg l).drops[d] = _
      rw [cleg, stamp, LegRecord.taken, get_set, if_pos rfl]
      rfl
    · change u.blocks.enrol[i] = _
      rw [cenrol, enrol, he]
      rfl
    · change (u.leg l).drops[c] = _
      rw [cleg, LegRecord.taken, get_set, if_neg hc, entries]
      rfl
    · exact (congrArg LegRecord.strangers cleg).trans strangers
    · exact (congrArg WindowStats.announces stats).trans counted
    · exact (congrArg (·.schedule.quickRetry) cleg).trans quick
    · change placeAll s.port u.raised = _
      rw [craised, raised, stamp, List.nil_append]
    · change (u.leg l).lastEcho[d] = _
      rw [cleg, LegRecord.taken, get_set, if_pos rfl]
    · change (u.leg l).histories[d] = _
      rw [cleg, LegRecord.taken, get_set, if_pos rfl]
  · have found := where_.trans hi
    have entry : v.blocks.enrol[i] = some e := by rw [enrol]; exact he
    by_cases hlost : (s.drop l d).state = .lost
    · have refind := Work.matchAnnounce_lost (t := m.map.round) (power := a.power.toNat) found entry hb (by rw [drops]; exact hlost)
      obtain ⟨rleg, renrol⟩ := v.refind_leg l d a.power.toNat
      rw [← refind, drops, stamp] at rleg
      rw [← refind, enrol] at renrol
      generalize v.matchAnnounce l m.map.round a.serial a.power.toNat = u at ran others rleg renrol
      have stats : (u.leg l).stats = (v.leg l).stats := by rw [rleg]; rfl
      obtain ⟨t, ht⟩ : ∃ t, t = event (fun _ => u) s := ⟨_, rfl⟩
      have tleg : t.leg l = u.leg l := by rw [ht]; rfl
      have tdrop : t.drop l d = (s.drop l d).refound s.now a.power.toNat := by
        change (t.leg l).drops[d] = _
        rw [tleg, rleg, LegRecord.taken, get_set, if_pos rfl]
      rw [← ht] at ran
      refine ⟨t, ran, ?_, ?_, ?_, fun c hc => ?_, fun k hk => ?_, fun hold why _ hhold hwhy => ?_, fun h => ?_, fun h => absurd hlost h⟩
      · rw [tleg, stats]
        exact counted
      · rw [tleg]
        exact (congrArg (·.schedule.quickRetry) rleg).trans quick
      · rw [ht]
        exact renrol
      · change (t.leg l).drops[c] = _
        rw [tleg, rleg, LegRecord.taken, get_set, if_neg hc, entries]
        rfl
      · rw [ht]
        exact others k hk
      · have origin : ((s.drop l d).refound s.now a.power.toNat).origin = some (.reused hold why) := by
          rw [DropEntry.refound, DropEntry.lostReason, hhold, hwhy]
          rfl
        rw [tdrop, tleg, rleg, LegRecord.taken, get_set, get_set, if_pos rfl, if_pos rfl]
        exact ⟨rfl, rfl, origin, rfl, rfl, rfl, rfl, rfl, rfl, rfl, rfl, rfl⟩
      · rw [hlost] at h
        cases h
    · have keeps : ∀ raise, v.matchAnnounce l m.map.round a.serial a.power.toNat = { v with raised := raise } →
          ∃ t, exec (.discoveryWindowEnd l light [a]) s = .next t ∧ t.port = placeAll s.port raise ∧
            (t.leg l).stats.announces = min ((s.leg l).stats.announces + 1) 4294967295 ∧
            (t.leg l).schedule.quickRetry = garbledLight (8000 - n) light [a] ∧ t.blocks.enrol = s.blocks.enrol ∧
            (∀ c : Drop, t.drop l c = s.drop l c) ∧ ∀ k : Leg, k ≠ l → t.leg k = s.leg k := by
        intro raise is
        obtain ⟨t, ht, tport, tdrops, tenrol, -, tcount, tquick, tothers⟩ := unchanged raise is
        refine ⟨t, ht, tport, tcount, tquick, tenrol, fun c => ?_, tothers⟩
        change (t.leg l).drops[c] = _
        rw [tdrops]
        rfl
      by_cases hr : (s.drop l d).state = .retiring
      · have same := Work.matchAnnounce_retiring (t := m.map.round) (l := l) (power := a.power.toNat) found entry hb (by rw [drops]; exact hr)
        obtain ⟨t, ht, tport, tcount, tquick, tenrol, tdrops, tothers⟩ := keeps [] (same.trans (by rw [← raised]))
        exact ⟨t, ht, tcount, tquick, tenrol, fun c _ => tdrops c, tothers, fun _ _ h => absurd h hlost, fun _ => ⟨tdrops d, tport⟩,
          fun _ h => absurd hr h⟩
      · have clash := Work.matchAnnounce_clash (t := m.map.round) (l := l) (power := a.power.toNat) found entry hb
          (fun h => absurd (by rw [← drops]; exact h) hlost) (by rw [drops]; exact hr)
        obtain ⟨t, ht, tport, tcount, tquick, tenrol, tdrops, tothers⟩ :=
          keeps _ (clash.trans (by rw [Work.raise, raised, stamp, List.nil_append]))
        exact ⟨t, ht, tcount, tquick, tenrol, fun c _ => tdrops c, tothers, fun _ _ h => absurd h hlost, fun h => absurd h hr,
          fun _ _ => ⟨tdrops d, tport⟩⟩

end Sys2Proof.Machine
end

section
set_option Elab.async false -- one theorem after another: side by side they ask for more threads than the check's memory limit grants
/-! PROOFS. The reply of a ranging window, a failed attempt, and an attempt abandoned (R63 to R67, R114). -/

namespace Sys2Proof.Machine

/-! ### The reply (R114) -/

theorem burstReplies_iff (b : FoundBurst) (s : Nat) (d : Drop) : burstReplies b s d = true ↔
    8 * s ≤ b.delimiter ∧ b.delimiter + 48 ≤ 64000 ∧ b.crcGood = true ∧ b.header.drop = d := by
  simp [burstReplies, and_assoc]

theorem List.filter_eq_singleton_iff {α : Type} {p : α → Bool} {xs : List α} {b : α} :
    xs.filter p = [b] ↔ ∃ x y, xs = x ++ b :: y ∧ p b = true ∧ ∀ c ∈ x ++ y, ¬p c = true := by
  rw [List.filter_eq_cons_iff]
  constructor
  · rintro ⟨x, y, rfl, hx, hb, hy⟩
    refine ⟨x, y, rfl, hb, fun c hc => ?_⟩
    rcases List.mem_append.mp hc with hc | hc
    · exact hx c hc
    · exact List.filter_eq_nil_iff.mp hy c hc
  · rintro ⟨x, y, rfl, hb, h⟩
    exact ⟨x, y, rfl, fun c hc => h c (List.mem_append_left _ hc), hb,
      List.filter_eq_nil_iff.mpr fun c hc => h c (List.mem_append_right _ hc)⟩

theorem rangingReply_some {s : Nat} {d : Drop} {bs : List FoundBurst} {a : Int} {level : Nat} :
    rangingReply s d bs = some (a, level) ↔
      ∃ b, bs.filter (fun b => burstReplies b s d) = [b] ∧ a = (b.delimiter : Int) - 8 * (s + 10) ∧ level = meanLevel b.preamble := by
  have arrival (b : FoundBurst) : burstArrival b s = (b.delimiter : Int) - 8 * (s + 10) := by
    unfold burstArrival
    omega
  unfold rangingReply
  split
  · next b hb =>
    simp only [hb, arrival, Option.some.injEq, Prod.mk.injEq, List.cons.injEq, and_true, exists_eq_left']
    exact and_congr eq_comm eq_comm
  · next hb =>
    refine iff_of_false nofun ?_
    rintro ⟨b, hs, -⟩
    exact hb b hs

/-! ### Departure where no search is made -/

section
variable {w : Work} {l : Leg} {d : Drop}

theorem Work.departure_of_not_searching (h : (w.leg l).monitor.state.searching = false) : w.departure l d = w := by
  unfold Work.departure
  dsimp only
  split
  · next hm => rw [hm] at h; cases h
  · next hm => rw [hm] at h; cases h
  · rfl

/-- A loss on a leg that searches nothing (R32): its notice, and the other entries as they were. -/
theorem Work.lose_quiet (h : (w.leg l).monitor.state.searching = false) (reason : LostReason) (saved : Option Nat) :
    (w.lose l d reason saved).raised = w.raised ++ [⟨some l, some d, w.stamp, .dropState .lost w.stamp (some (.lost reason)) none none⟩] ∧
    ∀ c : Drop, c ≠ d → (w.lose l d reason saved).drop l c = w.drop l c := by
  obtain ⟨v, hv⟩ : ∃ v, v = w.mapLeg l fun r => r.gone d := ⟨_, rfl⟩
  obtain ⟨e, he⟩ : ∃ e : DropEntry → DropEntry, e = fun e =>
    e.lostAt reason (saved.getD ((w.leg l).control.settings.lostHold * 4096)) w.stamp := ⟨_, rfl⟩
  have lost : w.lose l d reason saved = ((v.purge l d).mapDrop l d e).raiseDropState l d := by
    rw [Work.lose_eq, ← hv, ← he]
    refine Work.departure_of_not_searching ?_
    rw [Work.raiseDropState, Work.raise_leg, Work.mapDrop_eq, Work.leg_mapLeg_self, Work.purge, Work.leg_mapLeg_self, hv, Work.leg_mapLeg_self]
    exact h
  rw [lost]
  constructor
  · rw [Work.raiseDropState, Work.raise_raised, Work.drop_mapDrop_self, he, hv]
    rfl
  · intro c hc
    rw [Work.raiseDropState, Work.raise_drop, Work.drop_mapDrop_of_ne _ _ _ _ _ hc, Work.drop, Work.purge, Work.leg_mapLeg_self, hv, Work.leg_mapLeg_self]
    rfl

theorem Work.loseByOrigin_reused {hold : Nat} {why : LostReason} (h : (w.drop l d).origin = some (.reused hold why)) :
    w.loseByOrigin l d = w.lose l d why (some hold) := by
  unfold Work.loseByOrigin
  rw [h]

theorem Work.loseByOrigin_released (h : (w.drop l d).origin = some .released) : w.loseByOrigin l d = w.lose l d .noRanging := by
  unfold Work.loseByOrigin
  rw [h]

/-- A loss by origin is some loss. -/
theorem Work.loseByOrigin_lose : ∃ reason saved, w.loseByOrigin l d = w.lose l d reason saved := by
  unfold Work.loseByOrigin
  split
  · exact ⟨_, _, rfl⟩
  · exact ⟨_, _, rfl⟩

/-- A vacancy on a leg that is ON raises its notice and leaves the other entries (R18, R24). -/
theorem Work.vacate_raised (h : (w.leg l).control.state = .on) :
    (w.vacate l d).raised = w.raised ++ [⟨some l, some d, w.stamp, .dropState .vacant w.stamp none none none⟩] := by
  have unbound : (w.unbound l d).raised = w.raised ∧ (w.unbound l d).stamp = w.stamp := by
    unfold Work.unbound
    split <;> exact ⟨rfl, rfl⟩
  obtain ⟨raised, stamp⟩ := unbound
  have quiet (v : Work) (hv : (v.leg l).control.state = .on) : v.drained l = v := by
    unfold Work.drained
    rw [if_neg]
    simp [hv]
  rw [Work.vacate_eq, quiet, Work.raiseDropState, Work.raise_raised, Work.drop, Work.leg_mapLeg_self]
  · change (w.unbound l d).raised ++ [⟨some l, some d, (w.unbound l d).stamp, _⟩] = _
    rw [raised, stamp]
    simp only [LegRecord.vacated]
    rw [get_set, if_pos rfl]
    rfl
  · rw [Work.raiseDropState, Work.raise_leg, Work.leg_mapLeg_self, Work.unbound_leg]
    exact h

/-! ### A failed attempt (R65) -/

/-- The work behind the third failed attempt, before the entry leaves. -/
def Work.rangingFailed (w : Work) (l : Leg) (d : Drop) (cause : RangingCause) : Work :=
  (w.mapDrop l d fun e => { e with rangingAttempts := 3 }).raise (some l) (some d)
    (.rangingFailed (w.drop l d).serial (w.drop l d).origin (if (w.drop l d).origin == some .new then .vacant else .lost) cause)

theorem Work.rangingFails_short (cause : RangingCause) (h : (w.drop l d).rangingAttempts < 2) : w.rangingFails l d cause =
    w.mapDrop l d fun e => { e with state := .found, since := w.stamp, rangingAttempts := e.rangingAttempts + 1 } := by
  unfold Work.rangingFails
  dsimp only
  rw [if_pos (by omega), Work.setState_eq, Work.mapDrop_eq, Work.mapDrop_eq, Work.mapLeg_mapLeg]
  refine w.mapLeg_congr l ?_
  dsimp only
  rw [get_set, if_pos rfl, Vector.set_set, show min (((w.leg l).drops[d]).rangingAttempts + 1) 3 = ((w.leg l).drops[d]).rangingAttempts + 1
    from min_eq_left (by change (w.drop l d).rangingAttempts + 1 ≤ 3; omega)]
  rfl

theorem Work.rangingFails_third (cause : RangingCause) (h : 2 ≤ (w.drop l d).rangingAttempts) : w.rangingFails l d cause =
    if (w.drop l d).origin == some .new then (w.rangingFailed l d cause).vacate l d else (w.rangingFailed l d cause).loseByOrigin l d := by
  have third : (w.mapDrop l d fun e => { e with rangingAttempts := min (e.rangingAttempts + 1) 3 }) =
      w.mapDrop l d fun e => { e with rangingAttempts := 3 } := by
    refine w.mapLeg_congr l ?_
    dsimp only
    rw [show min (((w.leg l).drops[d]).rangingAttempts + 1) 3 = 3 from min_eq_right (by change 3 ≤ (w.drop l d).rangingAttempts + 1; omega)]
  unfold Work.rangingFails Work.rangingFailed
  dsimp only
  rw [if_neg (by omega), third]

theorem Work.rangingFailed_leg (cause : RangingCause) : (w.rangingFailed l d cause).leg l =
    { w.leg l with drops := (w.leg l).drops.set d.val { w.drop l d with rangingAttempts := 3 } } := by
  rw [Work.rangingFailed, Work.raise_leg, Work.mapDrop_eq, Work.leg_mapLeg_self]
  rfl

theorem Work.rangingFailed_drop (cause : RangingCause) :
    (w.rangingFailed l d cause).drop l d = { w.drop l d with rangingAttempts := 3 } := by
  rw [Work.drop, Work.rangingFailed_leg, get_set, if_pos rfl]

theorem Work.rangingFailed_drop_of_ne (cause : RangingCause) {c : Drop} (hc : c ≠ d) :
    (w.rangingFailed l d cause).drop l c = w.drop l c := by
  rw [Work.drop, Work.rangingFailed_leg, get_set, if_neg hc]
  rfl

/-- A failed attempt leaves the figures of the windows and, without a search, the other entries. -/
theorem Work.rangingFails_rest (cause : RangingCause) (h : (w.leg l).monitor.state.searching = false) :
    ((w.rangingFails l d cause).leg l).stats = (w.leg l).stats ∧
      ∀ c : Drop, c ≠ d → (w.rangingFails l d cause).drop l c = w.drop l c := by
  by_cases hn : (w.drop l d).rangingAttempts < 2
  · rw [Work.rangingFails_short cause hn]
    exact ⟨by rw [Work.mapDrop_eq, Work.leg_mapLeg_self], fun c hc => Work.drop_mapDrop_of_ne _ _ _ _ _ hc⟩
  · rw [Work.rangingFails_third cause (by omega)]
    split
    · obtain ⟨k, hk, -⟩ := (((w.rangingFailed l d cause).leg l).vacated d (w.rangingFailed l d cause).stamp).offIfVacant_eq
      refine ⟨?_, fun c hc => ?_⟩
      · rw [Work.vacate_leg, hk, Work.rangingFailed_leg]
        rfl
      · rw [Work.vacate_drop_of_ne _ _ _ hc, Work.rangingFailed_drop_of_ne cause hc]
    · obtain ⟨reason, saved, lost⟩ := (w.rangingFailed l d cause).loseByOrigin_lose (l := l) (d := d)
      have quiet : ((w.rangingFailed l d cause).leg l).monitor.state.searching = false := by
        rw [Work.rangingFailed_leg]
        exact h
      rw [lost]
      refine ⟨?_, fun c hc => ?_⟩
      · obtain ⟨D, L, M, O, N, e⟩ := ((w.rangingFailed l d cause).lose_left l d reason saved).rest
        rw [e, Work.rangingFailed_leg]
        rfl
      · rw [(Work.lose_quiet quiet reason saved).2 c hc, Work.rangingFailed_drop_of_ne cause hc]

/-! ### A reply taken (R64) -/

/-- An entry that a reply within the leg delay measured. -/
def DropEntry.measured (e : DropEntry) (now : Stamp) (level delay rtt : Nat) : DropEntry :=
  { e with state := .found, since := now, level := some level, rtt := some rtt, eqd := some (delay - rtt) }

theorem Work.rangingReplied_inReach {a : Int} {level : Nat} (h : a.toNat ≤ 8 * (w.leg l).control.settings.reach) :
    w.rangingReplied l d a level =
      (w.mapDrop l d fun e => e.measured w.stamp level (8 * (w.leg l).control.settings.reach) a.toNat).generate l d .setDelay := by
  unfold Work.rangingReplied
  dsimp only
  rw [if_neg (by omega), Work.setState_eq, Work.mapDrop_eq, Work.mapDrop_eq, Work.mapDrop_eq, Work.mapLeg_mapLeg, Work.mapLeg_mapLeg]
  congr 1
  refine w.mapLeg_congr l ?_
  dsimp only
  rw [get_set, get_set, if_pos rfl, if_pos rfl, Vector.set_set, Vector.set_set]
  rfl

theorem Work.rangingReplied_outOfReach {a : Int} {level : Nat} (h : 8 * (w.leg l).control.settings.reach < a.toNat) :
    w.rangingReplied l d a level = (w.mapDrop l d fun e => { e with level := some level }).rangingFails l d .outOfReach := by
  unfold Work.rangingReplied
  dsimp only
  rw [if_pos h]

theorem Work.takeRanging_heard (hs : (w.drop l d).state = .ranging) (hm : (w.leg l).monitor.state.searching = false)
    (a : Int) (level : Nat) : w.takeRanging l d false (some (a, level)) = w.rangingReplied l d a level := by
  unfold Work.takeRanging
  rw [if_neg (by simp [hs]), hm, if_neg (by decide)]

theorem Work.takeRanging_unheard (hs : (w.drop l d).state = .ranging) (hm : (w.leg l).monitor.state.searching = false) :
    w.takeRanging l d false none = w.rangingFails l d .noReply := by
  unfold Work.takeRanging
  rw [if_neg (by simp [hs]), hm, if_neg (by decide)]

/-- An attempt that does not count leaves an entry that is not RANGING, and returns a RANGING one (R66). -/
theorem Work.takeRanging_abandoned {changed : Bool} (reply : Option (Int × Nat)) {e : DropEntry}
    (h : (w.drop l d).state ≠ .ranging ∧ e = w.drop l d ∨ (w.drop l d).state = .ranging ∧
      ((w.leg l).monitor.state.searching = true ∨ changed = true) ∧ e = { w.drop l d with state := .found, since := w.stamp }) :
    w.takeRanging l d changed reply = w.mapDrop l d fun _ => e := by
  unfold Work.takeRanging
  rcases h with ⟨hs, rfl⟩ | ⟨hs, hm, rfl⟩
  · rw [if_pos (by simpa using hs), Work.mapDrop_eq]
    have same : (w.leg l).drops.set d.val (w.drop l d) = (w.leg l).drops := Vector.set_getElem_self ..
    refine ((w.mapLeg_congr l (g := fun r => r) ?_).trans (w.mapLeg_id l)).symm
    rw [same]
  · rw [if_neg (by simp [hs]), if_pos (by simpa using hm), Work.setState_eq, Work.mapDrop_eq]
    exact w.mapLeg_congr l rfl

/-! ### The end of a ranging window (R114, R117) -/

/-- A leg behind a ranging window: the window has reported, its outcome is counted. -/
def LegRecord.ranged (r : LegRecord) (replied : Bool) : LegRecord :=
  { r.windowReported with
    stats :=
      if replied then { r.stats with rangingReplies := bump32 r.stats.rangingReplies }
      else { r.stats with rangingNoReplies := bump32 r.stats.rangingNoReplies } }

end

section
variable {l : Leg} {m : InFlight} {ms : List InFlight} {n : Nat} {g : RangingEntry}

theorem Work.rangingEnds_eq {w : Work} (hm : (w.leg l).inFlight = m :: ms) (hw : m.map.window = some ⟨.ranging, n⟩)
    (hd : m.windowDone = false) (hg : m.map.ranging = some g) (bs : List FoundBurst) : w.rangingEnds l bs =
      (w.mapLeg l fun r => r.ranged (rangingReply (8000 - n) g.drop bs).isSome).takeRanging l g.drop m.reachChanged
        (rangingReply (8000 - n) g.drop bs) := by
  have receives : (w.leg l).receiving = some m := by rw [LegRecord.receiving, hm]; rfl
  have awaits : m.awaits .ranging = some (8000 - n) := by simp [InFlight.awaits, hw, hd]
  unfold Work.rangingEnds
  rw [receives]
  dsimp only
  rw [awaits, hg]
  rfl

/-- The work that the report of a ranging window is taken by. -/
theorem exec_ranging {s : State} (hm : (s.leg l).inFlight = m :: ms) (hw : m.map.window = some ⟨.ranging, n⟩)
    (hd : m.windowDone = false) (hg : m.map.ranging = some g) (bs : List FoundBurst) : ∃ v : Work,
    v.leg l = (s.leg l).ranged (rangingReply (8000 - n) g.drop bs).isSome ∧ v.stamp = s.now ∧ v.raised = [] ∧
      exec (.rangingWindowEnd l bs) s =
        .next (event (fun _ => v.takeRanging l g.drop m.reachChanged (rangingReply (8000 - n) g.drop bs)) s) ∧
      ∀ k, k ≠ l → (v.takeRanging l g.drop m.reachChanged (rangingReply (8000 - n) g.drop bs)).leg k = s.leg k := by
  obtain ⟨v, hv⟩ : ∃ v, v = (Work.start s.blocks).mapLeg l fun r => r.ranged (rangingReply (8000 - n) g.drop bs).isSome := ⟨_, rfl⟩
  refine ⟨v, by rw [hv, Work.leg_mapLeg_self]; rfl, by rw [hv]; rfl, by rw [hv]; rfl, ?_, fun k hk => ?_⟩
  · have ends := Work.rangingEnds_eq (w := Work.start s.blocks) hm hw hd hg bs
    rw [← hv] at ends
    change Host.Outcome.next (event (fun w => w.rangingEnds l bs) s) = _
    rw [event, ends]
    rfl
  · rw [Work.outside_leg (v.takeRanging_outside l _ _ _) hk, hv, Work.leg_mapLeg_of_ne _ _ _ _ hk]
    rfl

end

theorem LegRecord.generated_setDelay_owed (r : LegRecord) (d : Drop) (h : plainRoom r.orders = false) :
    r.generated d .setDelay =
      { r with owed := if (⟨d, .setDelay⟩ : OwedItem) ∈ r.owed then r.owed else r.owed ++ [⟨d, .setDelay⟩] } := by
  have owes : (r.owed.any fun i => i.sameKind d .setDelay) = true ↔ (⟨d, .setDelay⟩ : OwedItem) ∈ r.owed := by
    have same (i : OwedItem) : i.sameKind d .setDelay = true ↔ i = ⟨d, .setDelay⟩ := by
      obtain ⟨c, k⟩ := i
      cases k <;> simp [OwedItem.sameKind]
    simp only [List.any_eq_true, same, exists_eq_right]
  unfold LegRecord.generated
  rw [if_neg (by simp), if_neg (by simp [h])]
  by_cases ho : (⟨d, .setDelay⟩ : OwedItem) ∈ r.owed
  · rw [if_pos (owes.mpr ho), if_pos ho]
  · rw [if_neg (mt owes.mp ho), if_neg ho]

/-- A window whose reply is within the leg delay (R64). -/
theorem exec_ranging_measured {l : Leg} {m : InFlight} {ms : List InFlight} {n : Nat} {g : RangingEntry} {bs : List FoundBurst} {s : State}
    (hm : (s.leg l).inFlight = m :: ms) (hw : m.map.window = some ⟨.ranging, n⟩) (hd : m.windowDone = false)
    (hg : m.map.ranging = some g) (hr : m.reachChanged = false) (hquiet : (s.leg l).monitor.state.searching = false)
    (hs : (s.drop l g.drop).state = .ranging) {a : Int} {level : Nat} (hreply : rangingReply (8000 - n) g.drop bs = some (a, level))
    (hnear : a.toNat ≤ 8 * (s.leg l).control.settings.reach) : ∃ t, exec (.rangingWindowEnd l bs) s = .next t ∧
      t.leg l = LegRecord.generated
        { (s.leg l).ranged true with
          drops := (s.leg l).drops.set g.drop.val
            ((s.drop l g.drop).measured s.now level (8 * (s.leg l).control.settings.reach) a.toNat) } g.drop .setDelay ∧
      ∀ k : Leg, k ≠ l → t.leg k = s.leg k := by
  obtain ⟨v, vleg, vstamp, -, ran, others⟩ := exec_ranging hm hw hd hg bs
  rw [hreply, hr] at ran others
  rw [hreply] at vleg
  have vdrop : v.drop l g.drop = s.drop l g.drop := by rw [Work.drop, vleg]; rfl
  have vset : (v.leg l).control.settings.reach = (s.leg l).control.settings.reach := by rw [vleg]; rfl
  rw [Work.takeRanging_heard (by rw [vdrop]; exact hs) (by rw [vleg]; exact hquiet), Work.rangingReplied_inReach (by rw [vset]; exact hnear),
    vset, vstamp] at ran others
  refine ⟨_, ran, ?_, others⟩
  rw [event]
  change Work.leg _ l = _
  rw [Work.generate_eq, Work.leg_mapLeg_self, Work.mapDrop_eq, Work.leg_mapLeg_self, vleg]
  rfl

/-- The other entries behind a measurement, and the entry measured. -/
theorem LegRecord.generated_drops (r : LegRecord) (d : Drop) (k : OwedKind) :
    (r.generated d k).drops = r.drops ∧ (r.generated d k).stats = r.stats := by
  obtain ⟨O, W, e⟩ := r.generated_rest d k
  rw [e]
  exact ⟨rfl, rfl⟩

/-- What a window that measured nothing leaves for the failed attempt: the level heard, if any (R65). -/
theorem exec_ranging_failed {l : Leg} {m : InFlight} {ms : List InFlight} {n : Nat} {g : RangingEntry} {bs : List FoundBurst} {s : State}
    (hm : (s.leg l).inFlight = m :: ms) (hw : m.map.window = some ⟨.ranging, n⟩) (hd : m.windowDone = false)
    (hg : m.map.ranging = some g) (hr : m.reachChanged = false) (hquiet : (s.leg l).monitor.state.searching = false)
    (hs : (s.drop l g.drop).state = .ranging) {cause : RangingCause} {heard : Option Nat}
    (hcause : cause = .noReply ∧ rangingReply (8000 - n) g.drop bs = none ∧ heard = (s.drop l g.drop).level ∨
        cause = .outOfReach ∧ (∃ (a : Int) (level : Nat), rangingReply (8000 - n) g.drop bs = some (a, level) ∧
          8 * (s.leg l).control.settings.reach < a.toNat ∧ heard = some level)) : ∃ v : Work,
      v.leg l = { (s.leg l).ranged (decide (cause = .outOfReach)) with
        drops := (s.leg l).drops.set g.drop.val { s.drop l g.drop with level := heard } } ∧
      v.stamp = s.now ∧ v.raised = [] ∧
      exec (.rangingWindowEnd l bs) s = .next (event (fun _ => v.rangingFails l g.drop cause) s) ∧
      ∀ k : Leg, k ≠ l → (v.rangingFails l g.drop cause).leg k = s.leg k := by
  obtain ⟨v, vleg, vstamp, vraised, ran, others⟩ := exec_ranging hm hw hd hg bs
  have vdrop : v.drop l g.drop = s.drop l g.drop := by rw [Work.drop, vleg]; rfl
  have state : (v.drop l g.drop).state = .ranging := by rw [vdrop]; exact hs
  have quiet : (v.leg l).monitor.state.searching = false := by rw [vleg]; exact hquiet
  rcases hcause with ⟨rfl, hreply, rfl⟩ | ⟨rfl, a, level, hreply, hfar, rfl⟩
  · rw [hreply, hr, Work.takeRanging_unheard state quiet] at ran others
    rw [hreply] at vleg
    refine ⟨v, vleg.trans ?_, vstamp, vraised, ran, others⟩
    have same : (s.leg l).drops.set g.drop.val (s.drop l g.drop) = (s.leg l).drops := Vector.set_getElem_self ..
    exact (congrArg (fun D => { (s.leg l).ranged false with drops := D }) same).symm
  · have far : 8 * (v.leg l).control.settings.reach < a.toNat := by rw [vleg]; exact hfar
    rw [hreply, hr, Work.takeRanging_heard state quiet, Work.rangingReplied_outOfReach far] at ran others
    rw [hreply] at vleg
    refine ⟨v.mapDrop l g.drop fun e => { e with level := some level }, ?_, vstamp, vraised, ran, others⟩
    rw [Work.mapDrop_eq, Work.leg_mapLeg_self, vleg]
    rfl

/-- Settles O46: the one reply, the measurement, the failed attempts of `rangingFails_short` and `rangingFails_third`, and what is
abandoned. -/
theorem rangingWindowMeasures : Obligations.RangingWindowMeasures := by
  refine ⟨fun start d bs a level => ?_, fun l m ms n g bs s hm hw hd hg hr hquiet hs => ⟨fun a level hreply hnear hroom => ?_,
    fun cause heard hcause => ?_⟩, fun l m ms n g bs s hm hw hd hg => ⟨fun hr hquiet hs a level hreply hnear hroom => ?_, fun e he => ?_⟩⟩
  · rw [rangingReply_some]
    simp only [List.filter_eq_singleton_iff, burstReplies_iff]
    constructor
    · rintro ⟨b, ⟨x, y, hbs, hb, hxy⟩, ha, hlevel⟩
      exact ⟨x, b, y, hbs, hb, hxy, ha, hlevel⟩
    · rintro ⟨x, b, y, hbs, hb, hxy, ha, hlevel⟩
      exact ⟨b, ⟨x, y, hbs, hb, hxy⟩, ha, hlevel⟩
  · obtain ⟨t, ran, tleg, others⟩ := exec_ranging_measured hm hw hd hg hr hquiet hs hreply hnear
    rw [LegRecord.generated_queued _ _ .setDelay rfl (by exact hroom)] at tleg
    refine ⟨t, ran, ?_, ?_, ?_, fun c hc => ?_, others⟩
    · change (t.leg l).drops[g.drop] = _
      rw [tleg, get_set, if_pos rfl]
      rfl
    · rw [tleg]
      rfl
    · rw [tleg]
      rfl
    · change (t.leg l).drops[c] = _
      rw [tleg, get_set, if_neg hc]
      rfl
  · obtain ⟨v, vleg, vstamp, vraised, ran, others⟩ := exec_ranging_failed hm hw hd hg hr hquiet hs hcause
    have vdrop : v.drop l g.drop = { s.drop l g.drop with level := heard } := by rw [Work.drop, vleg, get_set, if_pos rfl]
    have vother (c : Drop) (hc : c ≠ g.drop) : v.drop l c = s.drop l c := by
      rw [Work.drop, vleg, get_set, if_neg hc]
      rfl
    have quiet : (v.leg l).monitor.state.searching = false := by rw [vleg]; exact hquiet
    obtain ⟨stats, kept⟩ := v.rangingFails_rest (l := l) (d := g.drop) cause quiet
    rw [vleg] at stats
    refine ⟨_, ran, fun hn => ?_, fun h2 => ?_, ?_, ?_, fun c hc => (kept c hc).trans (vother c hc), others⟩
    · rw [Work.rangingFails_short cause (by rw [vdrop]; exact hn)]
      refine ⟨?_, ?_⟩
      · change Work.drop _ l g.drop = _
        rw [Work.drop_mapDrop_self, vdrop, vstamp]
      · change (Work.leg _ l).orders = _
        rw [Work.mapDrop_eq, Work.leg_mapLeg_self, vleg]
        rfl
    · rw [Work.rangingFails_third cause (by rw [vdrop]; exact h2.ge), vdrop]
      obtain ⟨p, hp⟩ : ∃ p, p = v.rangingFailed l g.drop cause := ⟨_, rfl⟩
      have pleg : p.leg l = { (s.leg l).ranged (decide (cause = .outOfReach)) with
          drops := (s.leg l).drops.set g.drop.val { s.drop l g.drop with level := heard, rangingAttempts := 3 } } := by
        rw [hp, Work.rangingFailed_leg, vdrop, vleg, Vector.set_set]
      have pdrop : p.drop l g.drop = { s.drop l g.drop with level := heard, rangingAttempts := 3 } := by
        rw [hp, Work.rangingFailed_drop, vdrop]
      have pstamp : p.stamp = s.now := by rw [hp]; exact vstamp
      have praised : p.raised = [⟨some l, some g.drop, s.now, .rangingFailed (s.drop l g.drop).serial (s.drop l g.drop).origin
          (if (s.drop l g.drop).origin == some .new then .vacant else .lost) cause⟩] := by
        rw [hp, Work.rangingFailed, Work.raise_raised, vdrop, Work.mapDrop_eq, Work.mapLeg_raised, vraised, Work.mapLeg_stamp, vstamp]
        rfl
      have pquiet : (p.leg l).monitor.state.searching = false := by rw [pleg]; exact hquiet
      rw [← hp]
      have lost (reason : LostReason) (saved : Option Nat) :
          EntersLost s (event (fun _ => p.lose l g.drop reason saved) s) l g.drop reason
            (saved.getD ((s.leg l).control.settings.lostHold * 4096)) ∧
          ((event (fun _ => p.lose l g.drop reason saved) s).drop l g.drop).since = s.now ∧
          ((event (fun _ => p.lose l g.drop reason saved) s).drop l g.drop).level = heard ∧
          (event (fun _ => p.lose l g.drop reason saved) s).port =
            placeAll s.port (p.raised ++ [⟨some l, some g.drop, s.now, .dropState .lost s.now (some (.lost reason)) none none⟩]) := by
        have left := p.lose_left l g.drop reason saved
        have reach : (p.leg l).control = (s.leg l).control := by rw [pleg]; rfl
        rw [pdrop, pstamp, reach] at left
        have entry : (event (fun _ => p.lose l g.drop reason saved) s).drop l g.drop = _ := left.entry
        refine ⟨left.entersLost (by rw [pleg]; rfl) rfl rfl rfl, by rw [entry]; rfl, by rw [entry]; rfl, ?_⟩
        rw [← pstamp, ← (p.lose_quiet pquiet reason saved).1]
        rfl
      refine ⟨fun hnew hon => ?_, fun hold why hreused => ?_, fun hreleased => ?_⟩
      · rw [hnew]
        refine ⟨?_, ?_⟩
        · change (p.vacate l g.drop).drop l g.drop = _
          rw [Work.vacate_drop, pstamp]
        · change placeAll s.port (p.vacate l g.drop).raised = _
          rw [Work.vacate_raised (by rw [pleg]; exact hon), praised, pstamp, hnew]
          rfl
      · have byOrigin : p.loseByOrigin l g.drop = p.lose l g.drop why (some hold) :=
          Work.loseByOrigin_reused (by rw [pdrop]; exact hreused)
        obtain ⟨enters, since, level, port⟩ := lost why (some hold)
        rw [praised, hreused] at port
        rw [hreused, if_neg (by simp), byOrigin]
        exact ⟨enters, since, level, port⟩
      · have byOrigin : p.loseByOrigin l g.drop = p.lose l g.drop .noRanging :=
          Work.loseByOrigin_released (by rw [pdrop]; exact hreleased)
        obtain ⟨enters, -, level, port⟩ := lost .noRanging none
        rw [praised, hreleased] at port
        rw [hreleased, if_neg (by decide), byOrigin]
        exact ⟨enters, level, port⟩
    · rintro rfl
      change (Work.leg _ l).stats.rangingNoReplies = _ ∧ (Work.leg _ l).stats.rangingReplies = _
      rw [stats]
      exact ⟨rfl, rfl⟩
    · rintro rfl
      change (Work.leg _ l).stats.rangingReplies = _ ∧ (Work.leg _ l).stats.rangingNoReplies = _
      rw [stats]
      exact ⟨rfl, rfl⟩
  · obtain ⟨t, ran, tleg, others⟩ := exec_ranging_measured hm hw hd hg hr hquiet hs hreply hnear
    rw [LegRecord.generated_setDelay_owed _ _ (by exact hroom)] at tleg
    refine ⟨t, ran, ?_, ?_, ?_, fun c hc => ?_, others⟩
    · change (t.leg l).drops[g.drop] = _
      rw [tleg, get_set, if_pos rfl]
      rfl
    · rw [tleg]
      rfl
    · rw [tleg]
      rfl
    · change (t.leg l).drops[c] = _
      rw [tleg, get_set, if_neg hc]
      rfl
  · obtain ⟨v, vleg, vstamp, vraised, ran, others⟩ := exec_ranging hm hw hd hg bs
    have vdrop (c : Drop) : v.drop l c = s.drop l c := by rw [Work.drop, vleg]; rfl
    have left := Work.takeRanging_abandoned (w := v) (l := l) (d := g.drop) (changed := m.reachChanged) (e := e) (rangingReply (8000 - n) g.drop bs)
      (by rw [vdrop, vleg, vstamp]; exact he)
    generalize v.takeRanging l g.drop m.reachChanged (rangingReply (8000 - n) g.drop bs) = u at left ran others
    have uleg : u.leg l = { (s.leg l).ranged (rangingReply (8000 - n) g.drop bs).isSome with drops := (s.leg l).drops.set g.drop.val e } := by
      rw [left, Work.mapDrop_eq, Work.leg_mapLeg_self, vleg]
      rfl
    have uraised : u.raised = [] := by rw [left]; exact vraised
    obtain ⟨t, ht⟩ : ∃ t, t = event (fun _ => u) s := ⟨_, rfl⟩
    have tleg : t.leg l = u.leg l := by rw [ht]; rfl
    rw [← ht] at ran
    refine ⟨t, ran, ?_, ?_, ?_, ?_, ?_, ?_, ?_, ?_, ?_, fun c hc => ?_, fun k hk => ?_⟩
    · change (t.leg l).drops[g.drop] = e
      rw [tleg, uleg, get_set, if_pos rfl]
    · rw [ht, event, uraised]
    · rw [tleg, uleg]
      change ((s.leg l).mapReceiving _).inFlight = _
      rw [LegRecord.mapReceiving, hm]
    · rw [tleg, uleg]
      rfl
    · rw [tleg, uleg]
      rfl
    · rw [tleg, uleg]
      rfl
    · rw [tleg, uleg]
      rfl
    · rw [tleg, uleg]
      rfl
    · rw [tleg, uleg]
      rfl
    · change (t.leg l).drops[c] = _
      rw [tleg, uleg, get_set, if_neg hc]
      rfl
    · rw [ht]
      exact others k hk

end Sys2Proof.Machine
end

section
set_option Elab.async false -- one theorem after another: side by side they ask for more threads than the check's memory limit grants
/-! PROOFS. The frames of a burst: how a segment is read, what is forwarded under which tag, what is charged; a CLEAN burst of a drop in
service (R30, R72, R82, R105 to R112, R209). -/

namespace Sys2Proof.Machine

/-! ### Reading a segment (R110) -/

/-- A frame as a segment carries it: its length, most significant byte first, and its bytes. -/
def framed (f : List Byte) : List Byte := [BitVec.ofNat 8 (f.length / 256), BitVec.ofNat 8 f.length] ++ f

theorem framed_length_read {n : Nat} (h : n ≤ 8191) : (BitVec.ofNat 8 (n / 256)).toNat * 256 + (BitVec.ofNat 8 n).toNat = n := by
  simp only [BitVec.toNat_ofNat]
  omega

theorem readFrames_framed {f rest : List Byte} (h1 : 1 ≤ f.length) (h2 : f.length ≤ 8191) (fuel : Nat) :
    readFrames (fuel + 1) (framed f ++ rest) = (f :: (readFrames fuel rest).1, (readFrames fuel rest).2) := by
  change readFrames (fuel + 1) (BitVec.ofNat 8 (f.length / 256) :: BitVec.ofNat 8 f.length :: (f ++ rest)) = _
  rw [readFrames]
  simp only [framed_length_read h2]
  rw [if_neg (by omega), if_neg (by omega), if_neg (by rw [List.length_append]; omega), List.drop_left, List.take_left]

/-- A segment is its whole frames, then what is left, read with fuel enough. -/
theorem readFrames_frames (rest : List Byte) (fs : List (List Byte)) : ∀ fuel, (∀ f ∈ fs, 1 ≤ f.length ∧ f.length ≤ 8191) →
    (fs.flatMap framed ++ rest).length ≤ fuel →
    ∃ more, rest.length ≤ more ∧ readFrames fuel (fs.flatMap framed ++ rest) = (fs ++ (readFrames more rest).1, (readFrames more rest).2) := by
  induction fs with
  | nil => exact fun fuel _ hfuel => ⟨fuel, hfuel, rfl⟩
  | cons f fs ih =>
    intro fuel hf hfuel
    obtain ⟨⟨h1, h2⟩, hfs⟩ := List.forall_mem_cons.mp hf
    rw [List.flatMap_cons, List.append_assoc] at hfuel ⊢
    obtain ⟨less, rfl⟩ : ∃ less, fuel = less + 1 := ⟨fuel - 1, by simp only [framed, List.length_append, List.length_cons] at hfuel; omega⟩
    obtain ⟨more, hmore, e⟩ := ih less hfs (by simp only [framed, List.length_append, List.length_cons] at hfuel ⊢; omega)
    exact ⟨more, hmore, by rw [readFrames_framed h1 h2, e]; rfl⟩

theorem readFrames_end {rest : List Byte} (h : rest.length < 2) (fuel : Nat) : readFrames fuel rest = ([], 0) := by
  unfold readFrames
  split
  · simp only [List.length_cons] at h
    omega
  · rfl

theorem readFrames_zero {a b : Byte} (h : a.toNat * 256 + b.toNat = 0) (tail : List Byte) (fuel : Nat) :
    readFrames (fuel + 1) (a :: b :: tail) = ([], 0) := by
  rw [readFrames]
  exact if_pos h

theorem readFrames_malformed {a b : Byte} {tail : List Byte}
    (h : 8191 < a.toNat * 256 + b.toNat ∨ tail.length < a.toNat * 256 + b.toNat) (fuel : Nat) :
    readFrames (fuel + 1) (a :: b :: tail) = ([], 1) := by
  rw [readFrames]
  dsimp only
  rw [if_neg (by omega)]
  split
  · rfl
  · rw [if_pos (by omega)]

/-! ### What is forwarded and what is discarded (R110, R111) -/

/-- The frames of a segment that go to the uplink: all, where drop `d` holds the segment's lane on the segment's port. -/
def forwarded (t : Vector (Option Lane) 256) (l : Leg) (d : Drop) (x : Segment × List Byte) : List UplinkFrame :=
  match t[x.1.lane] with
  | some y =>
    if y.owner = d ∧ y.port = x.1.port then
      (readFrames x.2.length x.2).1.map fun data => ⟨uplinkTag l d x.1.lane y.surplus?.isSome false data.length, data⟩
    else []
  | none => []

/-- The frames of a segment that are discarded. -/
def discarded (t : Vector (Option Lane) 256) (d : Drop) (x : Segment × List Byte) : Nat :=
  if t[x.1.lane].any fun y => decide (y.owner = d ∧ y.port = x.1.port) then (readFrames x.2.length x.2).2
  else (readFrames x.2.length x.2).2 + (readFrames x.2.length x.2).1.length

theorem forwardSegments_eq (r : LegRecord) (l : Leg) (d : Drop) (ss : List Segment) : ∀ bytes, forwardSegments r l d ss bytes =
    ((segmentBytes ss bytes).flatMap (forwarded r.lanes l d), ((segmentBytes ss bytes).map (discarded r.lanes d)).sum) := by
  induction ss with
  | nil => intro bytes; rfl
  | cons s ss ih =>
    intro bytes
    rw [forwardSegments, segmentBytes, List.flatMap_cons, List.map_cons, List.sum_cons, ih]
    unfold forwarded discarded
    dsimp only
    cases hx : r.lanes[s.lane] with
    | none => simp only [Option.any_none, Bool.false_eq_true, if_false, List.nil_append]
    | some x =>
      simp only [Option.any_some, decide_eq_true_eq]
      split
      · rfl
      · rw [List.nil_append]

/-- A backlog report does not change what is forwarded. -/
theorem forwarded_reported (t : Vector (Option Lane) 256) (l : Leg) (d : Drop) (backlog : Vector (BitVec 24) 4) (x : Segment × List Byte) :
    forwarded (lanesFor d (Lane.reported backlog) t) l d x = forwarded t l d x := by
  unfold forwarded
  rw [lanesFor_get]
  cases t[x.1.lane] with
  | none => rfl
  | some y =>
    by_cases ho : y.owner = d
    · simp only [Option.map_some, if_pos ho]
      rfl
    · simp only [Option.map_some, if_neg ho]

theorem discarded_reported (t : Vector (Option Lane) 256) (d : Drop) (backlog : Vector (BitVec 24) 4) (x : Segment × List Byte) :
    discarded (lanesFor d (Lane.reported backlog) t) d x = discarded t d x := by
  unfold discarded
  rw [lanesFor_get]
  cases t[x.1.lane] with
  | none => rfl
  | some y =>
    by_cases ho : y.owner = d
    · simp only [Option.map_some, if_pos ho]
      rfl
    · simp only [Option.map_some, if_neg ho]

section
variable (l : Leg) (d : Drop) (n : Fin 256) (surplus : Bool) (length : Nat)

theorem uplinkTag_toNat : (uplinkTag l d n surplus false length).toNat =
    l.val * 1073741824 + d.val * 8388608 + n.val * 32768 + surplus.toNat * 16384 + length % 8192 := by
  have hs : surplus.toNat ≤ 1 := Bool.toNat_le surplus
  unfold uplinkTag
  rw [BitVec.toNat_ofNat, Bool.toNat_false, Nat.zero_mul, Nat.add_zero]
  exact Nat.mod_eq_of_lt (by omega)

theorem tagLeg_uplinkTag : tagLeg (uplinkTag l d n surplus false length) = l := by
  have hs : surplus.toNat ≤ 1 := Bool.toNat_le surplus
  refine Fin.ext ?_
  unfold tagLeg
  rw [BitVec.val_toFin, BitVec.extractLsb'_toNat, uplinkTag_toNat, Nat.shiftRight_eq_div_pow]
  omega

theorem tagDrop_uplinkTag : tagDrop (uplinkTag l d n surplus false length) = d := by
  have hs : surplus.toNat ≤ 1 := Bool.toNat_le surplus
  refine Fin.ext ?_
  unfold tagDrop
  rw [BitVec.val_toFin, BitVec.extractLsb'_toNat, uplinkTag_toNat, Nat.shiftRight_eq_div_pow]
  omega

theorem tagDown_uplinkTag : tagDown (uplinkTag l d n surplus false length) = false := by
  have hs : surplus.toNat ≤ 1 := Bool.toNat_le surplus
  rw [tagDown, BitVec.getLsbD, uplinkTag_toNat, Nat.testBit_eq_decide_div_mod_eq, decide_eq_false_iff_not]
  omega

end

theorem forwarded_tags {t : Vector (Option Lane) 256} {l : Leg} {d : Drop} {x : Segment × List Byte} {u : UplinkFrame}
    (h : u ∈ forwarded t l d x) : tagLeg u.tag = l ∧ tagDrop u.tag = d ∧ tagDown u.tag = false := by
  unfold forwarded at h
  split at h
  · split at h
    · obtain ⟨data, -, rfl⟩ := List.mem_map.mp h
      exact ⟨tagLeg_uplinkTag .., tagDrop_uplinkTag .., tagDown_uplinkTag ..⟩
    · cases h
  · cases h

/-! ### The charge (R169) -/

/-- A meter charged with bytes of an upstream burst in band `b`, but for its flags and its quota. -/
def Meter.ChargedUp (b : Fin 4) (bytes : Nat) (y y' : Meter) : Prop :=
  y'.down = y.down ∧ y'.up[b] = min (y.up[b] + bytes) 1099511627775

section
variable (w : Work) (l : Leg) (d : Drop)

theorem Work.meters_set_self {o : Option Meter} (h : w.meter l d = o) :
    { w.leg l with meters := (w.leg l).meters.set d.val o } = w.leg l := by
  subst h
  exact congrArg (fun M => { w.leg l with meters := M }) (Vector.set_getElem_self ..)

theorem Work.judgeQuota_meter {y : Meter} (h : w.meter l d = some y) : ∃ y', y'.up = y.up ∧ y'.down = y.down ∧
    (w.judgeQuota l d).leg l = { w.leg l with meters := (w.leg l).meters.set d.val (some y') } := by
  have same := w.meters_set_self l d h
  unfold Work.judgeQuota
  rw [h]
  dsimp only
  split
  · exact ⟨y, rfl, rfl, same.symm⟩
  · split
    · refine ⟨_, ?_, ?_, by rw [Work.raise_leg, Work.setMeter_eq, Work.leg_mapLeg_self]⟩ <;> rfl
    · exact ⟨y, rfl, rfl, same.symm⟩

/-- A charge changes one meter. -/
theorem Work.charge_leg (n : Nat) (b : Fin 4) : ∃ M, (w.charge l d true n b).leg l = { w.leg l with meters := (w.leg l).meters.set d.val M } ∧
    ∀ y, w.meter l d = some y → ∃ y', M = some y' ∧ y.ChargedUp b n y' := by
  unfold Work.charge
  cases h : w.meter l d with
  | none =>
    exact ⟨none, (w.meters_set_self l d h).symm, nofun⟩
  | some y =>
    dsimp only
    have charged (c : Meter) (hdown : c.down = y.down) (hup : c.up = mapBand y.up b fun k => saturate counterLimit k n) :
        ∃ M, ((w.setMeter l d (some c)).judgeQuota l d).leg l = { w.leg l with meters := (w.leg l).meters.set d.val M } ∧
          ∀ z, some y = some z → ∃ y', M = some y' ∧ z.ChargedUp b n y' := by
      obtain ⟨y', yup, ydown, leg⟩ := (w.setMeter l d (some c)).judgeQuota_meter l d (w.meter_setMeter_self l d (some c))
      refine ⟨some y', ?_, ?_⟩
      · rw [leg, Work.setMeter_eq, Work.leg_mapLeg_self]
        dsimp only
        rw [Vector.set_set]
      · rintro _ ⟨⟩
        refine ⟨y', rfl, ydown.trans hdown, ?_⟩
        rw [yup, hup, mapBand, Fin.getElem_fin, Vector.getElem_set_self]
        rfl
    simp only [if_true]
    refine charged _ ?_ ?_
    · split <;> split <;> rfl
    · split <;> split <;> rfl

/-- The payload of a CLEAN burst: its frames in the uplink, what is discarded counted, its bytes charged. -/
theorem Work.takePayload_leg (b : Burst) (p : List Byte) (frames : List UplinkFrame)
    (hframes : frames = (segmentBytes b.segments p).flatMap (forwarded (w.leg l).lanes l b.drop)) : ∃ M,
    (w.takePayload l b p).leg l =
      { w.leg l with
        uplink := frames
        stats :=
          { (w.leg l).stats with
            upDiscarded := saturate 4294967295 (w.leg l).stats.upDiscarded
              ((segmentBytes b.segments p).map (discarded (w.leg l).lanes b.drop)).sum }
        meters := (w.leg l).meters.set b.drop.val M } ∧
    ∀ y, w.meter l b.drop = some y → (frames = [] → M = some y) ∧
      (frames ≠ [] → ∃ y', M = some y' ∧ y.ChargedUp w.blocks.band (frames.map fun u => u.data.length).sum y') := by
  obtain ⟨bad, hbad⟩ : ∃ bad, bad = ((segmentBytes b.segments p).map (discarded (w.leg l).lanes b.drop)).sum := ⟨_, rfl⟩
  obtain ⟨v, hv⟩ : ∃ v, v = w.mapLeg l fun r =>
    { r with uplink := frames, stats := { r.stats with upDiscarded := saturate 4294967295 r.stats.upDiscarded bad } } := ⟨_, rfl⟩
  have payload : w.takePayload l b p =
      if frames.isEmpty then v else v.charge l b.drop true (frames.map fun f => f.data.length).sum w.blocks.band := by
    unfold Work.takePayload
    rw [forwardSegments_eq, ← hframes, ← hbad, hv]
    rfl
  have vleg : v.leg l = { w.leg l with
      uplink := frames
      stats := { (w.leg l).stats with upDiscarded := saturate 4294967295 (w.leg l).stats.upDiscarded bad } } := by
    rw [hv, Work.leg_mapLeg_self]
  have vmeter : v.meter l b.drop = w.meter l b.drop := by rw [Work.meter, vleg]; rfl
  rw [payload, ← hbad]
  cases hf : frames with
  | nil =>
    rw [hf] at vleg
    have same := congrArg LegRecord.meters (w.meters_set_self l b.drop rfl)
    dsimp only at same
    exact ⟨w.meter l b.drop, by rw [same]; exact vleg, fun y hy => ⟨fun _ => hy, fun h => absurd rfl h⟩⟩
  | cons u us =>
    obtain ⟨M, leg, charged⟩ := v.charge_leg l b.drop ((u :: us).map fun f => f.data.length).sum w.blocks.band
    rw [hf] at vleg
    refine ⟨M, ?_, fun y hy => ⟨nofun, fun _ => charged y (vmeter.trans hy)⟩⟩
    change (v.charge l b.drop true ((u :: us).map fun f => f.data.length).sum w.blocks.band).leg l = _
    rw [leg, vleg]

end

/-! ### What a CLEAN window keeps (R105, R106, R109, R117) -/

section
variable {r : LegRecord} {b : Burst} {f : FoundBurst} {lit : Bool} {t : Stamp}

theorem LegRecord.keepOutcome_clean_histories (h : classify b ⟨lit, some f⟩ = .clean) :
    (r.keepOutcome b ⟨lit, some f⟩ t).histories = r.histories.set b.drop.val
      (((r.histories[b.drop]).record .clean).measure ((f.delimiter : Int) - b.expected) (meanLevel f.preamble) f.header.unitFault t) := by
  unfold LegRecord.keepOutcome
  simp only [h]
  rfl

theorem LegRecord.keepOutcome_clean_stats (h : classify b ⟨lit, some f⟩ = .clean) :
    (r.keepOutcome b ⟨lit, some f⟩ t).stats =
      { r.stats with
        clean := bump32 r.stats.clean
        unitFaults := if f.header.unitFault then bump32 r.stats.unitFaults else r.stats.unitFaults } := by
  unfold LegRecord.keepOutcome
  dsimp only
  rw [h, beq_self_eq_true, Bool.true_and, Option.any_some]
  cases f.header.unitFault <;> rfl

end

/-- A CLEAN window of a drop in use: what the burst says of the unit, its backlog reports, its payload. -/
theorem exec_cleanBurst {l : Leg} {m : InFlight} {ms : List InFlight} {b : Burst} {f : FoundBurst} {lit : Bool} {s : State}
    (hm : (s.leg l).inFlight = m :: ms) (hb : m.map.bursts[m.judged]? = some b) (hc : classify b ⟨lit, some f⟩ = .clean)
    (hs : (s.drop l b.drop).state ≠ .vacant) : ∃ v : Work,
    v.leg l = (s.leg l).keepOutcome b ⟨lit, some f⟩ m.map.round ∧ v.blocks.band = s.blocks.band ∧
    ∃ u : Work, u = (((v.unitHeard l b.drop f).takeBacklog l b.drop f.header.backlog).takePayload l b f.payload).afterWake l b.drop
        (s.drop l b.drop).state ∧
      exec (.grantedWindowEnd l ⟨lit, some f⟩) s = .next (event (fun _ => u) s) ∧ u.outside l = (Work.start s.blocks).outside l := by
  obtain ⟨v, hv⟩ : ∃ v, v = (Work.start s.blocks).mapLeg l fun r => r.keepOutcome b ⟨lit, some f⟩ m.map.round := ⟨_, rfl⟩
  have clean := Work.windowEnds_clean (w := Work.start s.blocks) hm hb hc
  have leg : v.leg l = (s.leg l).keepOutcome b ⟨lit, some f⟩ m.map.round := by rw [hv, Work.leg_mapLeg_self]; rfl
  have drop : v.drop l b.drop = s.drop l b.drop := by rw [Work.drop, leg]; rfl
  have outside : ((Work.start s.blocks).windowEnds l ⟨lit, some f⟩).outside l = (Work.start s.blocks).outside l := Work.windowEnds_outside _ l _
  rw [← hv, Work.deliverClean_eq (by rw [drop]; exact hs), drop] at clean
  rw [clean] at outside
  refine ⟨v, leg, by rw [hv]; rfl, _, rfl, ?_, outside⟩
  rw [exec_windowEnd, event, clean]
  rfl

/-- The level of a drop in service, in band: its out-of-band run ends (R72). -/
theorem Work.judgeBurst_inBand {w : Work} {l : Leg} {d : Drop} {level : Nat} (hs : (w.drop l d).state = .serving)
    (hb : (w.leg l).control.settings.trimLow ≤ level ∧ level ≤ (w.leg l).control.settings.trimHigh) :
    w.judgeBurst l d level = w.mapDrop l d fun e => { e with outOfBand := 0 } := by
  unfold Work.judgeBurst Work.judgeDrift
  rw [hs]
  dsimp only
  rw [if_pos (by rwa [LegSettings.inBand_iff])]

/-- Settles O40: the frames of a segment by `readFrames_frames`, the payload by `takePayload_leg`. -/
theorem cleanWindowDelivers : Obligations.CleanWindowDelivers := by
  refine ⟨fun fs rest seg hfs hseg => ?_, fun l m ms b f lit s hm hb hc hs he hg hlow hhigh => ?_⟩
  · obtain ⟨more, hmore, read⟩ := readFrames_frames rest fs seg.length hfs (by rw [hseg]; exact le_rfl)
    rw [show fs.flatMap framed ++ rest = seg from hseg.symm] at read
    rw [read]
    refine ⟨fun h => by rw [readFrames_end h, List.append_nil], fun a c tail hrest => ?_⟩
    subst hrest
    obtain ⟨fuel, rfl⟩ : ∃ fuel, more = fuel + 1 := ⟨more - 1, by simp only [List.length_cons] at hmore; omega⟩
    exact ⟨fun h => by rw [readFrames_zero h, List.append_nil], fun h => by rw [readFrames_malformed h, List.append_nil]⟩
  · obtain ⟨v, vleg, vband, u, hu, ran, outside⟩ := exec_cleanBurst hm hb hc (by rw [hs]; nofun)
    obtain ⟨level, hlevel⟩ : ∃ level, level = meanLevel f.preamble := ⟨_, rfl⟩
    have vdrop (c : Drop) : v.drop l c = s.drop l c := by rw [Work.drop, vleg]; rfl
    rw [Work.afterWake_of_ne (by rw [hs]; nofun), Work.unitHeard_quiet he hg (by rw [vdrop, hs]; rfl) (.inr (by rw [vdrop, hs]; nofun)),
      ← hlevel] at hu
    obtain ⟨p, hp⟩ : ∃ p, p = ((v.mapDrop l b.drop fun e => e.heardAt level).judgeBurst l b.drop level).takeBacklog l b.drop f.header.backlog :=
      ⟨_, rfl⟩
    rw [← hp] at hu
    rw [Work.judgeBurst_inBand (by rw [Work.drop_mapDrop_self, vdrop]; exact hs)
      (by rw [Work.mapDrop_eq, Work.leg_mapLeg_self, vleg, hlevel]; exact ⟨hlow, hhigh⟩)] at hp
    have pleg : p.leg l = { (s.leg l).keepOutcome b ⟨lit, some f⟩ m.map.round with
        drops := (s.leg l).drops.set b.drop.val { (s.drop l b.drop).heardAt level with outOfBand := 0 }
        lanes := lanesFor b.drop (Lane.reported f.header.backlog) (s.leg l).lanes } := by
      rw [hp, Work.takeBacklog, Work.mapLanesOf_eq, Work.mapDrop_eq, Work.mapDrop_eq, Work.mapLeg_mapLeg, Work.mapLeg_mapLeg,
        Work.leg_mapLeg_self, vleg]
      dsimp only
      rw [get_set, if_pos rfl, Vector.set_set]
      rfl
    have pband : p.blocks.band = s.blocks.band := by rw [hp]; exact vband
    have pmeter (c : Drop) : p.meter l c = s.meter l c := by rw [Work.meter, pleg]; rfl
    obtain ⟨frames, hframes⟩ : ∃ frames, frames = (segmentBytes b.segments f.payload).flatMap (forwarded (s.leg l).lanes l b.drop) := ⟨_, rfl⟩
    have lost : (segmentBytes b.segments f.payload).map (discarded (p.leg l).lanes b.drop) =
        (segmentBytes b.segments f.payload).map (discarded (s.leg l).lanes b.drop) := by
      rw [pleg]
      exact List.map_congr_left fun x _ => discarded_reported _ _ _ x
    obtain ⟨M, uleg, charged⟩ := p.takePayload_leg l b f.payload frames (by
      rw [hframes, pleg]
      exact List.flatMap_congr fun x _ => (forwarded_reported _ _ _ _ x).symm)
    rw [← hu, lost, pleg] at uleg
    dsimp only at uleg
    rw [LegRecord.keepOutcome_clean_stats hc] at uleg
    rw [pband] at charged
    obtain ⟨t, ht⟩ : ∃ t, t = event (fun _ => u) s := ⟨_, rfl⟩
    have tleg : t.leg l = u.leg l := by rw [ht]; rfl
    have uplink : (t.leg l).uplink = frames := by rw [tleg, uleg]
    rw [← ht] at ran
    refine ⟨t, ran, ?_, ⟨_, rfl, ?_⟩, ?_, ?_, fun c hc => ?_, fun n x hx => ?_, ?_, ?_, ?_, ?_, fun x hx => ?_, fun y hy => ?_, ?_, fun k hk => ?_⟩
    · change (t.leg l).drops[b.drop] = _
      rw [tleg, uleg, get_set, if_pos rfl, hlevel]
      rfl
    · rw [tleg, uleg, LegRecord.keepOutcome_clean_histories hc, get_set, if_pos rfl, ← hlevel]
      refine ⟨lastOf_append_getLast? _ _, ?_, congrArg some hlevel, fun hf => ?_, fun hf => ?_⟩
      · rw [Burst.expected]
        change some ((f.delimiter : Int) - _) = _
        push_cast
        ring_nf
      · rw [hf]
        rfl
      · rw [hf]
        rfl
    · rw [tleg, uleg]
      dsimp only
      rfl
    · rw [tleg, uleg]
      rfl
    · refine ⟨?_, ?_⟩
      · change (t.leg l).drops[c] = _
        rw [tleg, uleg, get_set, if_neg hc]
        rfl
      · change (t.leg l).meters[c] = _
        rw [tleg, uleg, get_set, if_neg hc]
        rfl
    · rw [tleg, uleg]
      refine ⟨fun ho => ?_, fun ho => ?_⟩
      · rw [lanesFor_some hx, if_pos ho]
        rfl
      · rw [lanesFor_some hx, if_neg ho]
    · rw [tleg, uleg]
      rfl
    · rw [tleg, uleg]
      rfl
    · rw [tleg, uleg]
      rfl
    · rw [uplink, hframes]
      refine List.flatMap_congr fun x _ => ?_
      unfold forwarded
      cases (s.leg l).lanes[x.1.lane] <;> rfl
    · rw [uplink, hframes] at hx
      obtain ⟨y, -, hy⟩ := List.mem_flatMap.mp hx
      exact forwarded_tags hy
    · have tmeter : t.meter l b.drop = M := by
        change (t.leg l).meters[b.drop] = _
        rw [tleg, uleg, get_set, if_pos rfl]
      rw [uplink, tmeter]
      obtain ⟨none, some⟩ := charged y ((pmeter _).trans hy)
      refine ⟨none, fun hn => ?_⟩
      obtain ⟨y', hy', hdown, hup⟩ := some hn
      exact ⟨y', hy', hdown, hup⟩
    · rw [ht]
      exact Work.outside_time outside
    · rw [ht]
      exact Work.outside_leg outside hk

end Sys2Proof.Machine
end

section
set_option Elab.async false -- one theorem after another: side by side they ask for more threads than the check's memory limit grants
/-! PROOFS. The echo of a CLEAN keepalive completes its order (R49, R53, R68, R70, R71, R80, R121, R125, R127). -/

namespace Sys2Proof.Machine

/-! ### The rest of a keepalive behind its echo (R107) -/

/-- A keepalive behind its echo, where its status asks for nothing: the level judged, the backlog taken. -/
def Work.settled (c : Work) (l : Leg) (d : Drop) (f : FoundBurst) : Work :=
  ((c.mapDrop l d fun e => e.heardClean (meanLevel f.preamble)).judgeBurst l d (meanLevel f.preamble)).mapLeg l fun r =>
    r.delivered d f.header.backlog

section
variable {w : Work} {l : Leg} {d : Drop} {f : FoundBurst}

theorem Work.judgeBurst_of_unjudged {level : Nat} (ht : (w.drop l d).state ≠ .trimming) (hs : (w.drop l d).state ≠ .serving) :
    w.judgeBurst l d level = w := by
  unfold Work.judgeBurst
  split
  · next h => exact absurd h ht
  · next h => exact absurd h hs
  · rfl

theorem DropEntry.heardClean_state (e : DropEntry) (level : Nat) : (e.heardClean level).state = e.state := by
  unfold DropEntry.heardClean
  split <;> rfl

theorem Work.mapDrop_leg_drop (w : Work) (l : Leg) (d : Drop) (g : DropEntry → DropEntry) :
    (w.mapDrop l d g).leg l = { w.leg l with drops := (w.leg l).drops.set d.val (g (w.drop l d)) } := by
  rw [Work.mapDrop_eq, Work.leg_mapLeg_self]
  rfl

/-- A keepalive of a drop in service, its level in band. -/
theorem Work.settled_inBand (hs : (w.drop l d).state = .serving)
    (hb : (w.leg l).control.settings.trimLow ≤ meanLevel f.preamble ∧ meanLevel f.preamble ≤ (w.leg l).control.settings.trimHigh) :
    w.settled l d f = w.mapLeg l fun r =>
      { r with drops := r.drops.set d.val { (w.drop l d).heardAt (meanLevel f.preamble) with outOfBand := 0 } }.delivered d f.header.backlog := by
  have heard : (w.mapDrop l d fun e => e.heardClean (meanLevel f.preamble)) = w.mapDrop l d fun e => e.heardAt (meanLevel f.preamble) := by
    refine w.mapLeg_congr l ?_
    dsimp only
    rw [DropEntry.heardClean_of_heard (by rw [show (w.leg l).drops[d].state = .serving from hs]; rfl)]
  unfold Work.settled
  rw [heard, Work.judgeBurst_inBand (by rw [Work.drop_mapDrop_self]; exact hs) (by rw [Work.mapDrop_leg_drop]; exact hb),
    Work.mapDrop_eq, Work.mapDrop_eq, Work.mapLeg_mapLeg, Work.mapLeg_mapLeg]
  refine w.mapLeg_congr l ?_
  dsimp only
  rw [get_set, if_pos rfl, Vector.set_set]
  rfl

/-- A keepalive of a drop whose level is not judged. -/
theorem Work.settled_unjudged (ht : (w.drop l d).state ≠ .trimming) (hs : (w.drop l d).state ≠ .serving) :
    w.settled l d f = w.mapLeg l fun r =>
      { r with drops := r.drops.set d.val ((w.drop l d).heardClean (meanLevel f.preamble)) }.delivered d f.header.backlog := by
  have state : ((w.mapDrop l d fun e => e.heardClean (meanLevel f.preamble)).drop l d).state = (w.drop l d).state := by
    rw [Work.drop_mapDrop_self, DropEntry.heardClean_state]
  unfold Work.settled
  rw [Work.judgeBurst_of_unjudged (by rw [state]; exact ht) (by rw [state]; exact hs), Work.mapDrop_eq, Work.mapLeg_mapLeg]
  exact w.mapLeg_congr l rfl

/-! ### The order an echo completes (R49) -/

theorem Work.deliverEcho_completes {q : Fin 16} {x y : List OrderEntry} {e : OrderEntry} (horders : (w.leg l).orders = x ++ e :: y)
    (ht : e.target = some d) (ha : e.awaiting = true) (hq : e.seq = some q)
    (alone : ∀ o ∈ x ++ y, o.target = some d → o.awaiting = false) :
    w.deliverEcho l d (some q) =
      (w.mapLeg l fun r => { r with lastEcho := r.lastEcho.set d.val (some q), orders := x ++ y }).applyCompletion l d e := by
  have own : (e.target == some d && e.awaiting && e.seq == some q) = true := by simp [ht, ha, hq]
  have others (o : OrderEntry) (ho : o ∈ x ++ y) : (o.target == some d && o.awaiting && o.seq == some q) = false := by
    by_cases h : o.target = some d
    · rw [alone o ho h, Bool.and_false, Bool.false_and]
    · rw [beq_eq_false_iff_ne.mpr h, Bool.false_and, Bool.false_and]
  have found : (x ++ e :: y).find? (fun o => o.target == some d && o.awaiting && o.seq == some q) = some e := by
    rw [List.find?_append, List.find?_eq_none.mpr fun o ho => Bool.eq_false_iff.mp (others o (List.mem_append_left _ ho)), Option.none_or]
    exact List.find?_cons_of_pos (by exact own)
  have left : (x ++ e :: y).filter (fun o => !(o.target == some d && o.awaiting && o.seq == some q)) = x ++ y := by
    rw [List.filter_append, List.filter_cons_of_neg (by rw [own]; exact Bool.false_ne_true), ← List.filter_append, List.filter_eq_self]
    intro o ho
    rw [others o ho]
    rfl
  unfold Work.deliverEcho
  dsimp only
  rw [Work.leg_mapLeg_self, horders, found]
  dsimp only
  rw [Work.mapLeg_mapLeg]
  congr 1
  refine w.mapLeg_congr l ?_
  dsimp only
  rw [horders, left]

end

/-- A CLEAN keepalive that brings the echo its drop awaits: the leg without the order, then the order's effect, then the rest. -/
theorem exec_echo {l : Leg} {d : Drop} {m : InFlight} {ms : List InFlight} {b : Burst} {f : FoundBurst} {lit : Bool} {q : Fin 16}
    {x : List OrderEntry} {e : OrderEntry} {y : List OrderEntry} {s : State}
    (hm : (s.leg l).inFlight = m :: ms) (hb : m.map.bursts[m.judged]? = some b) (hc : classify b ⟨lit, some f⟩ = .clean)
    (hd : b.drop = d) (hseg : b.segments = []) (hecho : f.header.echo = some q) (hg : f.header.dyingGasp = false)
    (hw : f.header.wakeRequest = false) (horders : (s.leg l).orders = x ++ e :: y) (ht : e.target = some d) (ha : e.awaiting = true)
    (hq : e.seq = some q) (alone : ∀ o ∈ x ++ y, o.target = some d → o.awaiting = false) (hs : (s.drop l d).state ≠ .vacant) : ∃ u : Work,
    (∃ I H S, u.leg l =
      { s.leg l with
        inFlight := I, histories := H, stats := S, uplink := []
        lastEcho := (s.leg l).lastEcho.set d.val (some q), orders := x ++ y }) ∧
    u.stamp = s.now ∧ u.raised = [] ∧
    exec (.grantedWindowEnd l ⟨lit, some f⟩) s =
      .next (event (fun _ => ((u.applyCompletion l d e).settled l d f).afterWake l d (s.drop l d).state) s) ∧
    ∀ k : Leg, k ≠ l → (((u.applyCompletion l d e).settled l d f).afterWake l d (s.drop l d).state).leg k = s.leg k := by
  obtain ⟨v, ⟨I, H, S, hv⟩, ran, outside⟩ := exec_keepalive (lit := lit) hm hb hc hd hseg hs
  obtain ⟨u, hu⟩ : ∃ u, u = v.mapLeg l fun r => { r with lastEcho := r.lastEcho.set d.val (some q), orders := x ++ y } := ⟨_, rfl⟩
  have settled : (v.unitHeard l d f).mapLeg l (fun r => r.delivered d f.header.backlog) = (u.applyCompletion l d e).settled l d f := by
    unfold Work.unitHeard
    rw [hecho, Work.deliverEcho_completes (by rw [hv, Work.leg_mapLeg_self]; exact horders) ht ha hq alone, ← hu,
      Work.takeStatus_quiet hg (.inl hw)]
    rfl
  rw [settled] at ran outside
  refine ⟨u, ⟨I, H, S, ?_⟩, by rw [hu, hv]; rfl, by rw [hu, hv]; rfl, ran, fun k hk => Work.outside_leg outside hk⟩
  rw [hu, hv, Work.mapLeg_mapLeg, Work.leg_mapLeg_self]
  rfl

/-! ### The lanes a BIND_LANES named (R53, R80) -/

/-- A lane of drop `d` bound, where the drop is in service as given. -/
def Lane.boundFor (d : Drop) (serving : Bool) (x : Lane) : Lane := if x.owner = d then x.bound serving else x

theorem Lane.bound_bound (x : Lane) (serving : Bool) : (x.bound serving).bound serving = x.bound serving := by
  unfold Lane.bound
  by_cases h : x.state = .binding
  · cases serving with
    | true => simp [h]
    | false => simp [h, Lane.suspend]
  · simp [h]

theorem Lane.bound_owner (x : Lane) (serving : Bool) : (x.bound serving).owner = x.owner := (x.bound_under serving).owner

theorem Lane.boundFor_boundFor (d : Drop) (serving : Bool) (x : Lane) :
    (x.boundFor d serving).boundFor d serving = x.boundFor d serving := by
  unfold Lane.boundFor
  by_cases h : x.owner = d
  · rw [if_pos h, if_pos (by rw [Lane.bound_owner]; exact h), Lane.bound_bound]
  · rw [if_neg h, if_neg h]

theorem get_set_lane {t : Vector (Option Lane) 256} (m n : Fin 256) (o : Option Lane) : (t.set m.val o)[n] = if n = m then o else t[n] := by
  rw [Fin.getElem_fin, Vector.getElem_set]
  by_cases h : n = m
  · rw [if_pos h, if_pos (congrArg Fin.val h.symm)]
  · rw [if_neg h, if_neg fun e => h (Fin.ext e.symm)]
    rfl

/-- The lanes named are bound, each once or more. -/
theorem Work.bindLanes_leg (l : Leg) (d : Drop) (ns : List (Fin 256)) : ∀ w : Work, ∃ L : Vector (Option Lane) 256,
    (ns.foldl (fun w n => w.mapLeg l fun r =>
      { r with lanes := r.lanes.set n.val ((r.lanes[n]).map fun y =>
          if y.owner = d then y.bound (r.drops[d].state == .serving) else y) }) w) = (w.mapLeg l fun r => { r with lanes := L }) ∧
    ∀ n : Fin 256, L[n] = if n ∈ ns then ((w.leg l).lanes[n]).map (Lane.boundFor d ((w.drop l d).state == .serving)) else (w.leg l).lanes[n] := by
  induction ns with
  | nil => exact fun w => ⟨(w.leg l).lanes, ((w.mapLeg_congr l (g := fun r => r) rfl).trans (w.mapLeg_id l)).symm, fun n => rfl⟩
  | cons k ns ih =>
    intro w
    obtain ⟨L, e, hL⟩ := ih (w.mapLeg l fun r =>
      { r with lanes := r.lanes.set k.val ((r.lanes[k]).map fun y =>
          if y.owner = d then y.bound (r.drops[d].state == .serving) else y) })
    refine ⟨L, ?_, fun n => ?_⟩
    · rw [List.foldl_cons, e, Work.mapLeg_mapLeg]
    · rw [hL, Work.drop, Work.leg_mapLeg_self]
      dsimp only
      rw [get_set_lane]
      change (if n ∈ ns then (if n = k then ((w.leg l).lanes[k]).map (Lane.boundFor d ((w.drop l d).state == .serving)) else (w.leg l).lanes[n]).map
        (Lane.boundFor d ((w.drop l d).state == .serving)) else if n = k then ((w.leg l).lanes[k]).map
        (Lane.boundFor d ((w.drop l d).state == .serving)) else (w.leg l).lanes[n]) = _
      have twice (o : Option Lane) (sv : Bool) : (o.map (Lane.boundFor d sv)).map (Lane.boundFor d sv) = o.map (Lane.boundFor d sv) := by
        rw [Option.map_map]
        exact congrArg (fun g => o.map g) (funext fun x => x.boundFor_boundFor d sv)
      by_cases hk : n = k
      · subst hk
        rw [if_pos rfl, if_pos List.mem_cons_self, twice, ite_self]
      · rw [if_neg hk]
        by_cases hn : n ∈ ns
        · rw [if_pos hn, if_pos (List.mem_cons_of_mem _ hn)]
        · rw [if_neg hn, if_neg (by simp [hk, hn])]

/-! ### The effects of the orders -/

section
variable {u : Work} {l : Leg} {d : Drop} {e : OrderEntry}

theorem Work.applyCompletion_stepPower {step : Int} (h : e.order = .stepPower step) :
    u.applyCompletion l d e = u.mapDrop l d fun x => x.powerStepped step := by
  unfold Work.applyCompletion
  rw [h]

theorem Work.applyCompletion_sleep {interval : Nat} (h : e.order = .sleep interval) (hs : (u.drop l d).state = .serving)
    (hc : (u.drop l d).sleepCancelled = false) : u.applyCompletion l d e = u.toDormant l d interval := by
  unfold Work.applyCompletion
  rw [h]
  exact if_pos (by simp [hs, hc])

theorem Work.applyCompletion_wake (h : e.order = .wake) (hs : (u.drop l d).state = .dormant) :
    u.applyCompletion l d e = u.wakeUp l d := by
  unfold Work.applyCompletion
  rw [h]
  exact if_pos (by simp [hs])

theorem Work.applyCompletion_setDelay {delay : Option Nat} (h : e.order = .setDelay delay) (hs : (u.drop l d).state = .found) :
    u.applyCompletion l d e =
      (u.mapDrop l d fun x => { x with state := .trimming, since := u.stamp, trimCount := 0 }).raiseDropState l d := by
  unfold Work.applyCompletion
  rw [h]
  exact if_pos (by simp [hs])

theorem Work.applyCompletion_bindLanes {lanes : Option (List (Fin 4 × Fin 256))} (h : e.order = .bindLanes lanes) : ∃ L : Vector (Option Lane) 256,
    u.applyCompletion l d e = (u.mapLeg l fun r => { r with lanes := L }) ∧
    ∀ n : Fin 256, L[n] =
      if n ∈ e.binds then ((u.leg l).lanes[n]).map (Lane.boundFor d ((u.drop l d).state == .serving)) else (u.leg l).lanes[n] := by
  unfold Work.applyCompletion
  rw [h]
  exact Work.bindLanes_leg l d e.binds u

theorem DropEntry.powerStepped_of_not_hushed {x : DropEntry} (h : x.state ≠ .hushed) (step : Int) :
    x.powerStepped step = { x with power := movePower x.power step, trimCount := min (x.trimCount + 1) 6 } := by
  unfold DropEntry.powerStepped DropEntry.hushedFrom
  rw [if_neg (by simp [h])]

theorem DropEntry.heardClean_hushed {x : DropEntry} (h : x.state = .hushed) (level : Nat) (c : Bool) :
    { x.heardClean level with cleanSinceWake := c } = { x with cleanSinceWake := c } := by
  unfold DropEntry.heardClean
  split
  · rfl
  · simp [h, DropState.heard]

/-- A lane of a drop that went to sleep. -/
theorem Lane.asleep (x : Lane) : x.ownerLeaves.noCredit.state ≠ .active ∧ ∀ c, x.ownerLeaves.noCredit.credit = some c → c = 0 := by
  refine ⟨?_, fun c hc => ?_⟩
  · unfold Lane.noCredit Lane.ownerLeaves Lane.suspend
    split
    · split <;> simp_all
    · assumption
  · obtain ⟨y, -, rfl⟩ := Option.map_eq_some_iff.mp hc
    rfl

/-- A leg one of whose drops went to sleep (R121). -/
theorem Work.toDormant_leg (interval : Nat) :
    (u.toDormant l d interval).leg l =
      { u.leg l with
        drops := (u.leg l).drops.set d.val
          { u.drop l d with state := .dormant, since := u.stamp, wakeInterval := some interval, wakeCount := some interval }
        lanes := lanesFor d (fun x => x.ownerLeaves.noCredit) (u.leg l).lanes } ∧
    (u.toDormant l d interval).raised =
      u.raised ++ [⟨some l, some d, u.stamp, .dropState .dormant u.stamp (u.drop l d).reason (u.drop l d).awaitingCause none⟩] := by
  unfold Work.toDormant
  rw [Work.raiseDropState, Work.mapLanesOf_eq, Work.mapDrop_eq, Work.mapLeg_mapLeg]
  refine ⟨by rw [Work.raise_leg, Work.leg_mapLeg_self]; rfl, ?_⟩
  rw [Work.raise_raised, Work.drop, Work.leg_mapLeg_self]
  dsimp only
  rw [get_set, if_pos rfl]
  rfl

/-- The first trim step of a drop whose SET_DELAY was heard, its level out of band (R68, R70). -/
theorem Work.judgeBurst_trims {w : Work} {level : Nat} {step : Int} (hs : (w.drop l d).state = .trimming)
    (ho : (w.leg l).stepOutstanding d = false)
    (hb : ¬((w.leg l).control.settings.trimLow ≤ level ∧ level ≤ (w.leg l).control.settings.trimHigh))
    (hc : (w.drop l d).trimCount < 6)
    (hstep : step = appliedStep (w.leg l).control.settings.trimLow (w.leg l).control.settings.trimHigh level (w.drop l d).power) (h0 : step ≠ 0) :
    w.judgeBurst l d level = w.generate l d (.stepPower step) := by
  have count : ¬((w.leg l).drops[d]).trimCount ≥ 6 := not_le.mpr hc
  have power : appliedStep (w.leg l).control.settings.trimLow (w.leg l).control.settings.trimHigh level ((w.leg l).drops[d]).power = step :=
    hstep.symm
  unfold Work.judgeBurst Work.judgeTrim
  rw [hs]
  dsimp only
  rw [if_neg (by rw [ho]; exact Bool.false_ne_true), if_neg (by rwa [LegSettings.inBand_iff]), power, if_neg (by simp [h0, count, -Fin.getElem_fin])]

end

/-- The drop that an event woke keeps its clean-since-wake flag clear (R125). -/
theorem Work.afterWake_of_woken {w : Work} {l : Leg} {d : Drop} (h : (w.drop l d).state = .serving) :
    w.afterWake l d .dormant = w.mapDrop l d fun e => { e with cleanSinceWake := false } := by
  unfold Work.afterWake
  rw [if_pos (by simp [h])]

/-- The state behind an event whose work is known. -/
theorem state_of_event {i : Instr} {s : State} {w : Work} {l : Leg} (ran : exec i s = .next (event (fun _ => w) s))
    (others : ∀ k : Leg, k ≠ l → w.leg k = s.leg k) :
    ∃ t, exec i s = .next t ∧ t.leg l = w.leg l ∧ t.port = placeAll s.port w.raised ∧ ∀ k : Leg, k ≠ l → t.leg k = s.leg k :=
  ⟨_, ran, rfl, rfl, others⟩

/-- Settles O41: the order leaves, its effect, and the rest of the keepalive, kind by kind. -/
theorem echoesCompleteOrders : Obligations.EchoesCompleteOrders := by
  intro l d m ms b f lit q x e y s hm hb hc hd hseg hecho hg hw horders ht ha hq alone level inBand
  have levelIs : meanLevel f.preamble = level := rfl
  have run := fun hs => exec_echo (lit := lit) hm hb hc hd hseg hecho hg hw horders ht ha hq alone (s := s) hs
  refine ⟨fun step hs hband horder => ?_, fun lanes hs hband horder => ?_, fun interval hs hcancel horder => ?_, fun hs hband horder => ?_,
    fun delay step hs horder hband hroom hother howed hstep h0 => ?_, fun step hs horder => ?_⟩
  · obtain ⟨u, ⟨I, H, S, uleg⟩, -, -, ran, others⟩ := run (by rw [hs]; nofun)
    have udrop : u.drop l d = s.drop l d := by rw [Work.drop, uleg]; rfl
    have stepped : (u.drop l d).powerStepped step =
        { s.drop l d with power := movePower (s.drop l d).power step, trimCount := min ((s.drop l d).trimCount + 1) 6 } := by
      rw [udrop, DropEntry.powerStepped_of_not_hushed (by rw [hs]; nofun)]
    rw [Work.afterWake_of_ne (by rw [hs]; nofun), Work.applyCompletion_stepPower horder,
      Work.settled_inBand (by rw [Work.drop_mapDrop_self, stepped]; exact hs) (by rw [Work.mapDrop_leg_drop, uleg]; exact hband),
      Work.drop_mapDrop_self, stepped] at ran others
    obtain ⟨t, ran, tleg, -, others⟩ := state_of_event ran others
    rw [Work.leg_mapLeg_self, Work.mapDrop_leg_drop, uleg] at tleg
    refine ⟨t, ran, ?_, ?_, ?_, ?_, fun c hc => ?_, others⟩
    · rw [tleg]; rfl
    · rw [tleg]
      exact (get_set ..).trans (if_pos rfl)
    · change (t.leg l).drops[d] = _
      rw [tleg, LegRecord.delivered, get_set, if_pos rfl]
      rfl
    · rw [tleg]; rfl
    · change (t.leg l).drops[c] = _
      rw [tleg, LegRecord.delivered, get_set, if_neg hc, get_set, if_neg hc]
      rfl
  · obtain ⟨u, ⟨I, H, S, uleg⟩, -, -, ran, others⟩ := run (by rw [hs]; nofun)
    have udrop : u.drop l d = s.drop l d := by rw [Work.drop, uleg]; rfl
    obtain ⟨L, bound, hL⟩ := Work.applyCompletion_bindLanes (u := u) (l := l) (d := d) horder
    rw [uleg, udrop, hs] at hL
    have cleg : (u.applyCompletion l d e).leg l = { u.leg l with lanes := L } := by rw [bound, Work.leg_mapLeg_self]
    have cdrop : (u.applyCompletion l d e).drop l d = s.drop l d := by rw [Work.drop, cleg]; exact udrop
    rw [Work.afterWake_of_ne (by rw [hs]; nofun),
      Work.settled_inBand (by rw [cdrop]; exact hs) (by rw [cleg, uleg]; exact hband), cdrop] at ran others
    obtain ⟨t, ran, tleg, -, others⟩ := state_of_event ran others
    rw [Work.leg_mapLeg_self, cleg, uleg] at tleg
    refine ⟨t, ran, ?_, ?_, fun n v hv => ?_, ?_, fun c hc => ?_, others⟩
    · rw [tleg]; rfl
    · rw [tleg]
      exact (get_set ..).trans (if_pos rfl)
    · have lane : (t.leg l).lanes[n] = L[n].map fun z => if z.owner = d then z.reported f.header.backlog else z := by
        rw [tleg]
        exact lanesFor_get ..
      rw [lane, hL, hv]
      refine ⟨fun ho hbind hn => ?_, fun ho hn => ?_, fun ho => ?_⟩
      · rw [if_pos hn]
        simp [Lane.boundFor, ho, Lane.bound, hbind, Lane.reported]
      · split
        · next hmem =>
          have : v.state ≠ .binding := fun h => hn ⟨h, hmem⟩
          simp [Lane.boundFor, ho, Lane.bound, this, Lane.reported]
        · simp [ho, Lane.reported]
      · split <;> simp [Lane.boundFor, ho]
    · change ((t.leg l).drops[d]).state = _
      rw [tleg, LegRecord.delivered, get_set, if_pos rfl]
      exact hs
    · change (t.leg l).drops[c] = _
      rw [tleg, LegRecord.delivered, get_set, if_neg hc]
      rfl
  · obtain ⟨u, ⟨I, H, S, uleg⟩, ustamp, uraised, ran, others⟩ := run (by rw [hs]; nofun)
    have udrop : u.drop l d = s.drop l d := by rw [Work.drop, uleg]; rfl
    obtain ⟨aleg, araised⟩ := u.toDormant_leg (l := l) (d := d) interval
    rw [← Work.applyCompletion_sleep horder (by rw [udrop]; exact hs) (by rw [udrop]; exact hcancel), udrop, ustamp] at aleg araised
    rw [uraised, List.nil_append] at araised
    have adrop : (u.applyCompletion l d e).drop l d =
        { s.drop l d with state := .dormant, since := s.now, wakeInterval := some interval, wakeCount := some interval } := by
      rw [Work.drop, aleg]
      exact (get_set ..).trans (if_pos rfl)
    rw [Work.afterWake_of_ne (by rw [hs]; nofun),
      Work.settled_unjudged (by rw [adrop]; nofun) (by rw [adrop]; nofun), adrop, DropEntry.heardClean_of_heard rfl] at ran others
    obtain ⟨t, ran, tleg, tport, others⟩ := state_of_event ran others
    rw [Work.leg_mapLeg_self, aleg, uleg] at tleg
    refine ⟨t, ran, ?_, ?_, fun n v hv ho => ?_, ?_, ?_, fun c hc => ?_, others⟩
    · rw [tleg]; rfl
    · change (t.leg l).drops[d] = _
      rw [tleg, LegRecord.delivered, get_set, if_pos rfl]
      rfl
    · have lane : (t.leg l).lanes[n] = (lanesFor d (fun x => x.ownerLeaves.noCredit) (s.leg l).lanes)[n].map fun z =>
          if z.owner = d then z.reported f.header.backlog else z := by
        rw [tleg]
        exact lanesFor_get ..
      rw [lane, lanesFor_get, Option.map_map] at hv
      obtain ⟨z, -, hz⟩ := Option.map_eq_some_iff.mp hv
      have owner : z.ownerLeaves.noCredit.owner = z.owner := (z.ownerLeaves.noCredit_under.trans z.ownerLeaves_under).owner
      by_cases hzo : z.owner = d
      · rw [Function.comp_apply, if_pos hzo, if_pos (owner.trans hzo)] at hz
        rw [← hz]
        exact z.asleep
      · rw [Function.comp_apply, if_neg hzo, if_neg hzo] at hz
        exact absurd (hz ▸ ho) hzo
    · rw [tport, Work.mapLeg_raised, araised]
    · rw [tleg]; rfl
    · change (t.leg l).drops[c] = _
      rw [tleg, LegRecord.delivered, get_set, if_neg hc, get_set, if_neg hc]
      rfl
  · obtain ⟨u, ⟨I, H, S, uleg⟩, ustamp, -, ran, others⟩ := run (by rw [hs]; nofun)
    have udrop : u.drop l d = s.drop l d := by rw [Work.drop, uleg]; rfl
    have aleg := u.wakeUp_leg l d
    rw [← Work.applyCompletion_wake horder (by rw [udrop]; exact hs), udrop, ustamp] at aleg
    have adrop : (u.applyCompletion l d e).drop l d =
        { (s.drop l d).served s.now with wakeInterval := none, wakeCount := none, cleanSinceWake := false } := by
      rw [Work.drop, aleg]
      exact (get_set ..).trans (if_pos rfl)
    have aset : ((u.applyCompletion l d e).leg l).control = (s.leg l).control := by
      rw [aleg, uleg]
      rfl
    rw [hs, Work.settled_inBand (by rw [adrop]; rfl) (by rw [aset]; exact hband), adrop, Work.afterWake_of_woken (by
      rw [Work.drop, Work.leg_mapLeg_self, LegRecord.delivered, get_set, if_pos rfl]; rfl)] at ran others
    obtain ⟨t, ran, tleg, -, others⟩ := state_of_event ran others
    rw [Work.mapDrop_leg_drop, Work.drop, Work.leg_mapLeg_self, aleg, uleg] at tleg
    refine ⟨t, ran, ?_, ?_, fun n v hv ho hsus => ?_, fun c hc => ?_, others⟩
    · rw [tleg]; rfl
    · change (t.leg l).drops[d] = _
      rw [tleg, get_set, if_pos rfl, LegRecord.delivered, get_set, if_pos rfl]
      rfl
    · have lane : (t.leg l).lanes[n] = (lanesFor d Lane.ownerServes (s.leg l).lanes)[n].map fun z =>
          if z.owner = d then z.reported f.header.backlog else z := by
        rw [tleg]
        exact lanesFor_get ..
      rw [lane, lanesFor_some hv, if_pos ho]
      simp [Lane.ownerServes, hsus, ho, Lane.reported]
    · change (t.leg l).drops[c] = _
      rw [tleg, get_set, if_neg hc, LegRecord.delivered, get_set, if_neg hc, get_set, if_neg hc]
      rfl
  · obtain ⟨u, ⟨I, H, S, uleg⟩, ustamp, -, ran, others⟩ := run (by rw [hs]; nofun)
    have udrop : u.drop l d = s.drop l d := by rw [Work.drop, uleg]; rfl
    obtain ⟨p, hp⟩ : ∃ p, p = (u.applyCompletion l d e).mapDrop l d fun e => e.heardClean level := ⟨_, rfl⟩
    have pleg : p.leg l = { u.leg l with
        drops := (s.leg l).drops.set d.val (DropEntry.heardAt { s.drop l d with state := .trimming, since := s.now, trimCount := 0 } level) } := by
      rw [hp, Work.applyCompletion_setDelay horder (by rw [udrop]; exact hs), Work.mapDrop_leg_drop, Work.raiseDropState, Work.raise_leg,
        Work.raise_drop, Work.drop_mapDrop_self, Work.mapDrop_leg_drop, uleg, Vector.set_set, udrop, ustamp,
        DropEntry.heardClean_of_heard rfl]
    have pdrop : p.drop l d = DropEntry.heardAt { s.drop l d with state := .trimming, since := s.now, trimCount := 0 } level := by
      rw [Work.drop, pleg]
      exact (get_set ..).trans (if_pos rfl)
    have free : (p.leg l).stepOutstanding d = false := by
      rw [pleg, uleg]
      exact LegRecord.stepOutstanding_eq_false hother howed
    have judged : p.judgeBurst l d level = p.generate l d (.stepPower step) :=
      Work.judgeBurst_trims (by rw [pdrop]; rfl) free (by rw [pleg, uleg]; exact hband) (by rw [pdrop]; exact Nat.zero_lt_succ 5)
        (by rw [pleg, uleg, pdrop]; exact hstep) h0
    have settled : (u.applyCompletion l d e).settled l d f = (p.generate l d (.stepPower step)).mapLeg l fun r => r.delivered d f.header.backlog := by
      rw [← judged, hp]
      rfl
    rw [Work.afterWake_of_ne (by rw [hs]; nofun), settled] at ran others
    obtain ⟨t, ran, tleg, -, others⟩ := state_of_event ran others
    rw [Work.leg_mapLeg_self, Work.generate_eq, Work.leg_mapLeg_self,
      LegRecord.generated_queued _ _ (.stepPower step) rfl (by rw [pleg, uleg]; exact hroom), pleg, uleg] at tleg
    refine ⟨t, ran, ?_, ?_, fun c hc => ?_, others⟩
    · rw [tleg]; rfl
    · change (t.leg l).drops[d] = _
      rw [tleg, LegRecord.delivered, get_set, if_pos rfl]
      rfl
    · change (t.leg l).drops[c] = _
      rw [tleg, LegRecord.delivered, get_set, if_neg hc]
      rfl
  · obtain ⟨u, ⟨I, H, S, uleg⟩, -, -, ran, others⟩ := run (by rw [hs]; nofun)
    have udrop : u.drop l d = s.drop l d := by rw [Work.drop, uleg]; rfl
    have state : ((s.drop l d).powerStepped step).state = .hushed := by
      unfold DropEntry.powerStepped
      split <;> exact hs
    rw [Work.afterWake_of_ne (by rw [hs]; nofun), Work.applyCompletion_stepPower horder,
      Work.settled_unjudged (by rw [Work.drop_mapDrop_self, udrop, state]; nofun) (by rw [Work.drop_mapDrop_self, udrop, state]; nofun),
      Work.drop_mapDrop_self, udrop] at ran others
    obtain ⟨t, ran, tleg, -, others⟩ := state_of_event ran others
    rw [Work.leg_mapLeg_self, Work.mapDrop_leg_drop, uleg] at tleg
    have tdrop : t.drop l d = ((s.drop l d).powerStepped step).heardClean (meanLevel f.preamble) := by
      change (t.leg l).drops[d] = _
      rw [tleg, LegRecord.delivered, get_set, if_pos rfl]
    have kept : { t.drop l d with cleanSinceWake := (s.drop l d).cleanSinceWake } = (s.drop l d).powerStepped step := by
      rw [tdrop, DropEntry.heardClean_hushed state]
      unfold DropEntry.powerStepped
      split <;> rfl
    refine ⟨t, ran, ?_, ?_, ?_, fun back hback hst => ?_, fun hback => ?_, fun c hc => ?_, others⟩
    · rw [tleg]
      exact (get_set ..).trans (if_pos rfl)
    · rw [tleg]; rfl
    · rw [tleg]; rfl
    · rw [kept, DropEntry.powerStepped, if_pos (by simp [DropEntry.hushedFrom, hs, hback, hst]), hback]
      rfl
    · rw [kept, DropEntry.powerStepped, if_neg]
      · rfl
      · cases hr : (s.drop l d).resume with
        | none => simp [DropEntry.hushedFrom, hr]
        | some back => simp [DropEntry.hushedFrom, hr, hback back hr]
    · change (t.leg l).drops[c] = _
      rw [tleg, LegRecord.delivered, get_set, if_neg hc, get_set, if_neg hc]
      rfl

end Sys2Proof.Machine
end

section
set_option Elab.async false -- one theorem after another: side by side they ask for more threads than the check's memory limit grants
/-! PROOFS. Template lists in the lane table: their places, the FIXED load they add, and when they fit (R79, R83, R87). -/

namespace Sys2Proof.Machine

/-! ### One lane put in the table (R79) -/

theorem List.filterMap_set_perm {α : Type} (x : α) : ∀ (xs : List (Option α)) (i : Nat) (h : i < xs.length), xs[i] = none →
    ((xs.set i (some x)).filterMap id).Perm (x :: xs.filterMap id) := by
  intro xs
  induction xs with
  | nil => intro i h; cases h
  | cons o xs ih =>
    intro i h hi
    cases i with
    | zero =>
      obtain rfl : o = none := hi
      exact .refl _
    | succ i =>
      have rest := ih i (Nat.lt_of_succ_lt_succ h) hi
      cases o with
      | none => exact rest
      | some y => exact (rest.cons y).trans (.swap x y _)

theorem laneList_set {t : Vector (Option Lane) 256} {n : Fin 256} (h : t[n] = none) (x : Lane) :
    (laneList (t.set n.val (some x))).Perm (x :: laneList t) := by
  unfold laneList
  rw [Vector.toList_set]
  exact List.filterMap_set_perm x t.toList n.val (by simp) (by simpa using h)

theorem freeLane_some {t : Vector (Option Lane) 256} {n : Fin 256} (h : freeLane t = some n) : t[n] = none := by
  have free := List.find?_some h
  exact Option.isNone_iff_eq_none.mp free

/-- A full table has 256 lanes. -/
theorem laneList_of_freeLane_none {t : Vector (Option Lane) 256} (h : freeLane t = none) : (laneList t).length = 256 := by
  have full : ∀ o ∈ t.toList, o.isSome = true := by
    intro o ho
    obtain ⟨i, hi, rfl⟩ := List.mem_iff_getElem.mp ho
    have hi : i < 256 := by simpa using hi
    have := List.find?_eq_none.mp h ⟨i, hi⟩ (List.mem_finRange _)
    simpa [Option.isSome_iff_ne_none] using this
  rw [laneList, List.length_filterMap_eq_countP, List.countP_eq_length.mpr]
  · simp
  · exact full

/-- A lane put in a table with room: it stands in a free place, every other place as it was. -/
theorem putLane_spec (x : Lane) {t : Vector (Option Lane) 256} (h : (laneList t).length < 256) :
    ∃ n : Fin 256, t[n] = none ∧ putLane x t = t.set n.val (some x) := by
  unfold putLane
  cases hn : freeLane t with
  | none => exact absurd (laneList_of_freeLane_none hn) (by omega)
  | some n => exact ⟨n, freeLane_some hn, rfl⟩

/-- Lanes put in a table with room for them all. -/
theorem putLanes_perm (xs : List Lane) : ∀ t : Vector (Option Lane) 256, xs.length + (laneList t).length ≤ 256 →
    (laneList (xs.foldl (fun t x => putLane x t) t)).Perm (xs ++ laneList t) := by
  induction xs with
  | nil => exact fun t _ => .refl _
  | cons x xs ih =>
    intro t h
    rw [List.length_cons] at h
    obtain ⟨n, hn, e⟩ := putLane_spec x (t := t) (by omega)
    have one := laneList_set hn x
    rw [← e] at one
    rw [List.foldl_cons]
    refine (ih (putLane x t) (by rw [one.length_eq, List.length_cons]; omega)).trans ?_
    exact (one.append_left xs).trans List.perm_middle

theorem putLanes_places (xs : List Lane) : ∀ t : Vector (Option Lane) 256, xs.length + (laneList t).length ≤ 256 →
    (∀ (n : Fin 256) (y : Lane), t[n] = some y → (xs.foldl (fun t x => putLane x t) t)[n] = some y) ∧
    ∀ x ∈ xs, ∃ n : Fin 256, t[n] = none ∧ (xs.foldl (fun t x => putLane x t) t)[n] = some x := by
  induction xs with
  | nil => exact fun t _ => ⟨fun _ _ h => h, nofun⟩
  | cons x xs ih =>
    intro t h
    rw [List.length_cons] at h
    obtain ⟨n, hn, e⟩ := putLane_spec x (t := t) (by omega)
    have one := laneList_set hn x
    rw [← e] at one
    obtain ⟨stay, come⟩ := ih (putLane x t) (by rw [one.length_eq, List.length_cons]; omega)
    rw [List.foldl_cons]
    refine ⟨fun k y hk => stay k y ?_, fun z hz => ?_⟩
    · rw [e, get_set_lane, if_neg (by rintro rfl; rw [hn] at hk; cases hk)]
      exact hk
    · rcases List.mem_cons.mp hz with rfl | hz
      · exact ⟨n, hn, stay n z (by rw [e, get_set_lane, if_pos rfl])⟩
      · obtain ⟨k, hk, hkz⟩ := come z hz
        rw [e, get_set_lane] at hk
        refine ⟨k, ?_, hkz⟩
        by_cases hkn : k = n
        · rw [if_pos hkn] at hk
          cases hk
        · rwa [if_neg hkn] at hk

/-! ### The template list (R87) -/

theorem templatePorts_get {ts : List LaneFigures} {q : Fin 4} {g : LaneFigures} (h : ts[q.val]? = some g) : (q, g) ∈ templatePorts ts := by
  refine List.mem_iff_getElem?.mpr ⟨q.val, ?_⟩
  rw [templatePorts, List.getElem?_zip_eq_some]
  exact ⟨by simp, h⟩

theorem templatePorts_snd {ts : List LaneFigures} (h : ts.length ≤ 4) : (templatePorts ts).map Prod.snd = ts :=
  List.map_snd_zip (by simpa using h)

theorem freshLanes_length {d : Drop} {ts : List LaneFigures} (h : ts.length ≤ 4) : (freshLanes d ts).length = ts.length := by
  rw [freshLanes, List.length_map, templatePorts, List.length_zip, List.length_finRange]
  omega

/-- The FIXED beats of figures and of the lanes that hold them. -/
theorem Lane.fixedBeats_eq (x : Lane) : x.fixedBeats = x.figures.reserved := by
  unfold Lane.fixedBeats LaneFigures.reserved
  rfl

theorem freshLanes_beats {d : Drop} {ts : List LaneFigures} (h : ts.length ≤ 4) :
    ((freshLanes d ts).map Lane.fixedBeats).sum = (ts.map LaneFigures.reserved).sum := by
  have figures : (freshLanes d ts).map Lane.fixedBeats = ((templatePorts ts).map Prod.snd).map LaneFigures.reserved := by
    rw [freshLanes, List.map_map, List.map_map]
    rfl
  rw [figures, templatePorts_snd h]

/-- Whether figures are of class FIXED. -/
def LaneFigures.isFixed : LaneFigures → Bool
  | .fixed _ => true
  | _ => false

theorem LaneFigures.isFixed_iff (g : LaneFigures) : g.isFixed = true ↔ g = .fixed g.reserved := by
  cases g <;> simp [LaneFigures.reserved, LaneFigures.isFixed]

/-- The lanes of a table, lane number by lane number. -/
theorem laneList_eq_lanes (t : Vector (Option Lane) 256) : laneList t = allLanes.filterMap fun n => t[n] := by
  have places : t.toList = allLanes.map fun n => t[n] :=
    List.ext_getElem (by simp [allLanes]) fun i h _ => by simp [allLanes]
  rw [laneList, places, List.filterMap_map]
  rfl

/-- The FIXED limits of a table that holds a template list (R83). -/
theorem fixedLimitsHold_freshLanes_iff {r : LegRecord} {d : Drop} {ts : List LaneFigures} (h4 : ts.length ≤ 4)
    (hroom : ts.length + (laneList r.lanes).length ≤ 256) (hfixed : ∃ g ∈ ts, g = .fixed g.reserved) (reach : Nat) :
    let owners := allDrops.filter fun c => decide (c = d ∨ ∃ x ∈ laneList r.lanes, x.owner = c ∧ x.isFixed = true)
    fixedLimitsHold ((freshLanes d ts).foldl (fun t x => putLane x t) r.lanes) reach = true ↔
      ((laneList r.lanes).map fun x => x.figures.reserved).sum + (ts.map LaneFigures.reserved).sum + 16 * owners.length + (reach + 80) ≤ 8000 ∧
        owners.length ≤ 32 := by
  intro owners
  obtain ⟨T, hT⟩ : ∃ T, T = (freshLanes d ts).foldl (fun t x => putLane x t) r.lanes := ⟨_, rfl⟩
  have perm : (laneList T).Perm (freshLanes d ts ++ laneList r.lanes) := by
    rw [hT]
    exact putLanes_perm _ _ (by rw [freshLanes_length h4]; exact hroom)
  have sum : fixedSum T = ((laneList r.lanes).map fun x => x.figures.reserved).sum + (ts.map LaneFigures.reserved).sum := by
    rw [fixedSum, (perm.map _).sum_eq, List.map_append, List.sum_append, freshLanes_beats h4, Nat.add_comm]
    congr 2
  obtain ⟨g, hg, hgf⟩ := hfixed
  have own (c : Drop) : ((laneList T).any fun x => x.isFixed && x.owner == c) =
      decide (c = d ∨ ∃ x ∈ laneList r.lanes, x.owner = c ∧ x.isFixed = true) := by
    rw [Bool.eq_iff_iff, List.any_eq_true, decide_eq_true_iff]
    simp only [perm.mem_iff, List.mem_append, Bool.and_eq_true, beq_iff_eq]
    constructor
    · rintro ⟨x, hx | hx, hf, ho⟩
      · obtain ⟨pf, -, rfl⟩ := List.mem_map.mp hx
        exact .inl ho.symm
      · exact .inr ⟨x, hx, ho, hf⟩
    · rintro (rfl | ⟨x, hx, ho, hf⟩)
      · have : g ∈ (templatePorts ts).map Prod.snd := by rw [templatePorts_snd h4]; exact hg
        obtain ⟨pf, hpf, rfl⟩ := List.mem_map.mp this
        exact ⟨Lane.fresh c pf.1 pf.2, .inl (List.mem_map_of_mem hpf), (LaneFigures.isFixed_iff _).mpr hgf, rfl⟩
      · exact ⟨x, .inr hx, hf, ho⟩
  have drops : fixedDrops T = owners.length := by
    simp only [fixedDrops, own, owners]
  have some : 1 ≤ owners.length := by
    refine List.length_pos_of_mem (a := d) (List.mem_filter.mpr ⟨List.mem_finRange d, ?_⟩)
    simp
  rw [← hT, fixedLimitsHold_iff, sum, drops, fixedLimit]
  omega

/-- A template list fits exactly where the leg has room for it (R87). -/
theorem templatesFit_iff {r : LegRecord} {d : Drop} {ts : List LaneFigures} (h4 : ts.length ≤ 4) :
    templatesFit r d ts = true ↔ r.HasRoomFor d ts := by
  have fixed : (!(ts.any LaneFigures.isFixed)) = true ↔ ¬∃ x ∈ ts, x = .fixed x.reserved := by
    rw [Bool.not_eq_true', Bool.eq_false_iff, ne_eq, List.any_eq_true]
    simp only [LaneFigures.isFixed_iff]
  have fresh : (templatePorts ts).foldl (fun t pf => putLane (Lane.fresh d pf.1 pf.2) t) r.lanes =
      (freshLanes d ts).foldl (fun t x => putLane x t) r.lanes := by rw [freshLanes, List.foldl_map]
  have shape : templatesFit r d ts =
      (decide (ts.length ≤ 256 - (laneList r.lanes).length) && (!(ts.any LaneFigures.isFixed) ||
        fixedLimitsHold ((templatePorts ts).foldl (fun t pf => putLane (Lane.fresh d pf.1 pf.2) t) r.lanes)
          r.control.settings.reach)) := rfl
  unfold LegRecord.HasRoomFor
  dsimp only
  rw [shape, Bool.and_eq_true, Bool.or_eq_true, decide_eq_true_iff, fixed, fresh, ← laneList_eq_lanes]
  have most : (laneList r.lanes).length ≤ 256 := by
    rw [laneList]
    exact (List.length_filterMap_le _ _).trans (by simp)
  have room : ts.length ≤ 256 - (laneList r.lanes).length ↔ ts.length + (laneList r.lanes).length ≤ 256 := by omega
  rw [room]
  refine and_congr_right fun hroom => ?_
  by_cases hf : ∃ x ∈ ts, x = .fixed x.reserved
  · have limits := fixedLimitsHold_freshLanes_iff (r := r) (d := d) h4 hroom hf r.control.settings.reach
    simp only [hf, not_true_eq_false, false_or, true_imp_iff]
    exact limits
  · simp only [hf, not_false_eq_true, true_or, false_imp_iff]

end Sys2Proof.Machine
end

section
set_option Elab.async false -- one theorem after another: side by side they ask for more threads than the check's memory limit grants
/-! PROOFS. Admission behind a trim, and what a CLEAN burst without an echo brings (R31, R70, R73 to R75, R83, R87, R124, R125, R168). -/

namespace Sys2Proof.Machine

/-! ### Admission (R73 to R75) -/

/-- An entry that entered AWAITING. -/
def DropEntry.awaits (e : DropEntry) (cause : AwaitingCause) (t : Stamp) : DropEntry :=
  { e with state := .awaiting, since := t, awaitingCause := some cause, origin := none }

/-- A BIND_LANES generated is asked for: queued, absorbed by a queued one, or owed (R43, R44, R67). -/
theorem LegRecord.generated_asks (r : LegRecord) (d : Drop) : (r.generated d .bindLanes).AsksBindLanes d := by
  unfold LegRecord.generated
  split
  · next h =>
    simp only [beq_self_eq_true, Bool.true_and, hasQueued, List.any_eq_true, Bool.and_eq_true, beq_iff_eq, Bool.not_eq_true'] at h
    obtain ⟨o, ho, ⟨ht, hk⟩, ha⟩ := h
    exact .inl ⟨o, ho, ht, hk, ha⟩
  · split
    · exact .inl ⟨_, List.mem_append_right _ (List.mem_singleton.mpr rfl), rfl, rfl, rfl⟩
    · split
      · next h =>
        simp only [List.any_eq_true, OwedItem.sameKind, Bool.and_eq_true, beq_iff_eq] at h
        obtain ⟨⟨c, k⟩, hi, rfl, hk⟩ := h
        cases k <;> simp at hk
        exact .inr hi
      · exact .inr (List.mem_append_right _ (List.mem_singleton.mpr rfl))

section
variable {w : Work} {l : Leg} {d : Drop}

theorem Work.awaitDrop_leg (cause : AwaitingCause) : (w.awaitDrop l d cause).leg l =
    { w.leg l with drops := (w.leg l).drops.set d.val ((w.drop l d).awaits cause w.stamp) } := by
  unfold Work.awaitDrop
  rw [Work.raise_leg, Work.raiseDropState, Work.raise_leg, Work.mapDrop_leg_drop]
  rfl

theorem Work.enrolOf_some {i : Fin 512} {v : EnrolEntry} (hi : (w.drop l d).enrolRef = some i) (hv : w.blocks.enrol[i] = some v) :
    w.enrolOf l d = some v := by
  unfold Work.enrolOf
  rw [hi]
  exact hv

theorem Work.admitByMode_auto {v : EnrolEntry} (h : w.enrolOf l d = some v) (hm : v.mode = .auto) :
    (w.admitByMode l d).leg l = (w.leg l).served d w.stamp (w.openedMeter l d) := by
  unfold Work.admitByMode
  rw [h]
  dsimp only
  rw [hm, if_pos (by decide), Work.serveDrop_leg]

theorem Work.admitByMode_hold {v : EnrolEntry} (h : w.enrolOf l d = some v) (hm : v.mode = .hold) : (w.admitByMode l d).leg l =
    { w.leg l with drops := (w.leg l).drops.set d.val ((w.drop l d).awaits .approval w.stamp) } := by
  unfold Work.admitByMode
  rw [h]
  dsimp only
  rw [hm, if_neg (by decide), Work.awaitDrop_leg]

/-- A drop admitted in some way: its entry is new in state and stamp alone, no other entry changes. -/
def LegRecord.EntryAdmitted (d : Drop) (t : Stamp) (r r' : LegRecord) : Prop :=
  ∃ e : DropEntry, r'.drops = r.drops.set d.val e ∧ e.marginal = r.drops[d].marginal ∧ e.since = t ∧ e.serial = r.drops[d].serial

theorem Work.serveDrop_admitted (m : Option Bool) : (w.leg l).EntryAdmitted d w.stamp ((w.serveDrop l d m).leg l) := by
  rw [Work.serveDrop_leg]
  exact ⟨_, rfl, rfl, rfl, rfl⟩

theorem Work.awaitDrop_admitted (cause : AwaitingCause) : (w.leg l).EntryAdmitted d w.stamp ((w.awaitDrop l d cause).leg l) := by
  rw [Work.awaitDrop_leg]
  exact ⟨_, rfl, rfl, rfl, rfl⟩

theorem Work.admitByMode_admitted : (w.leg l).EntryAdmitted d w.stamp ((w.admitByMode l d).leg l) := by
  unfold Work.admitByMode
  split
  · split
    · exact Work.serveDrop_admitted _
    · exact Work.awaitDrop_admitted _
  · exact Work.awaitDrop_admitted _

/-- A leg with other lanes, and perhaps a BIND_LANES asked for. -/
def Work.withLanes (w : Work) (l : Leg) (L : Vector (Option Lane) 256) (O : List OrderEntry) (W : List OwedItem) : Work :=
  w.mapLeg l fun r => { r with lanes := L, orders := O, owed := W }

theorem Work.withLanes_leg (L : Vector (Option Lane) 256) (O : List OrderEntry) (W : List OwedItem) :
    (w.withLanes l L O W).leg l = { w.leg l with lanes := L, orders := O, owed := W } := Work.leg_mapLeg_self ..

theorem Work.withLanes_enrolOf (L : Vector (Option Lane) 256) (O : List OrderEntry) (W : List OwedItem) :
    (w.withLanes l L O W).enrolOf l d = w.enrolOf l d := by
  unfold Work.enrolOf
  rw [Work.drop, Work.withLanes_leg]
  rfl

theorem Work.withLanes_openedMeter (L : Vector (Option Lane) 256) (O : List OrderEntry) (W : List OwedItem) :
    (w.withLanes l L O W).openedMeter l d = w.openedMeter l d := by
  unfold Work.openedMeter
  rw [Work.withLanes_enrolOf, Work.meter, Work.withLanes_leg]
  rfl

theorem LegRecord.lanesOf_isEmpty_iff {r : LegRecord} :
    (r.lanesOf d).isEmpty = true ↔ ∀ (n : Fin 256) (x : Lane), r.lanes[n] = some x → x.owner ≠ d := by
  rw [List.isEmpty_iff, LegRecord.lanesOf, List.filter_eq_nil_iff]
  refine ⟨fun h n x hx ho => h n (List.mem_finRange n) ?_, fun h n _ ht => ?_⟩
  · rw [hx]
    exact decide_eq_true ho
  · split at ht
    · next x hx => exact h n x hx (of_decide_eq_true ht)
    · cases ht

/-- The lanes put back in BINDING, and the BIND_LANES that names them (R74). -/
theorem Work.rebindLanes_eq (w : Work) (l : Leg) (d : Drop) : ∃ O W, w.rebindLanes l d = w.withLanes l (lanesFor d Lane.rebind (w.leg l).lanes) O W ∧
    ((∃ (n : Fin 256) (x : Lane), (w.leg l).lanes[n] = some x ∧ x.owner = d) →
      { w.leg l with lanes := lanesFor d Lane.rebind (w.leg l).lanes, orders := O, owed := W }.AsksBindLanes d) := by
  unfold Work.rebindLanes
  split
  · next h =>
    have none := LegRecord.lanesOf_isEmpty_iff.mp h
    have same : lanesFor d Lane.rebind (w.leg l).lanes = (w.leg l).lanes := by
      refine Vector.ext fun i hi => ?_
      change (lanesFor d Lane.rebind (w.leg l).lanes)[(⟨i, hi⟩ : Fin 256)] = (w.leg l).lanes[(⟨i, hi⟩ : Fin 256)]
      rw [lanesFor_get]
      cases hx : (w.leg l).lanes[(⟨i, hi⟩ : Fin 256)] with
      | none => rfl
      | some x => rw [Option.map_some, if_neg (none _ x hx)]
    refine ⟨(w.leg l).orders, (w.leg l).owed, ?_, fun ⟨n, x, hx, ho⟩ => absurd ho (none n x hx)⟩
    rw [same]
    exact ((w.mapLeg_congr l (g := fun r => r) rfl).trans (w.mapLeg_id l)).symm
  · obtain ⟨O, W, e⟩ := LegRecord.generated_rest { w.leg l with lanes := lanesFor d Lane.rebind (w.leg l).lanes } d .bindLanes
    refine ⟨O, W, ?_, fun _ => e ▸ LegRecord.generated_asks _ d⟩
    rw [Work.generate_eq, Work.mapLanesOf_eq, Work.mapLeg_mapLeg]
    exact w.mapLeg_congr l e

/-- The lanes made of a template list, and the BIND_LANES that names them (R73, R87). -/
theorem Work.madeLanes_eq (w : Work) (l : Leg) (d : Drop) (ts : List LaneFigures) : ∃ O W,
    (if ts.isEmpty then (templatePorts ts).foldl (fun w pf => w.createLane l (Lane.fresh d pf.1 pf.2)) w
      else ((templatePorts ts).foldl (fun w pf => w.createLane l (Lane.fresh d pf.1 pf.2)) w).generate l d .bindLanes) =
      w.withLanes l ((freshLanes d ts).foldl (fun t x => putLane x t) (w.leg l).lanes) O W ∧
    (ts ≠ [] → { w.leg l with
      lanes := (freshLanes d ts).foldl (fun t x => putLane x t) (w.leg l).lanes, orders := O, owed := W }.AsksBindLanes d) := by
  obtain ⟨q, -, made⟩ := w.createLanes_eq l (freshLanes d ts)
  rw [Work.createLanes_eq_fresh, made]
  split
  · next h =>
    refine ⟨q, (w.leg l).owed, ?_, fun hn => absurd (List.isEmpty_iff.mp h) hn⟩
    exact w.mapLeg_congr l rfl
  · obtain ⟨O, W, e⟩ := LegRecord.generated_rest { w.leg l with
      lanes := (freshLanes d ts).foldl (fun t x => putLane x t) (w.leg l).lanes, orders := q } d .bindLanes
    refine ⟨O, W, ?_, fun _ => e ▸ LegRecord.generated_asks _ d⟩
    rw [Work.generate_eq, Work.mapLeg_mapLeg]
    exact w.mapLeg_congr l e

/-- An admission whose templates fit (R73). -/
theorem Work.admitFresh_fits {v : EnrolEntry} (h : w.enrolOf l d = some v) (hfit : templatesFit (w.leg l) d v.templates = true) : ∃ O W,
    w.admitFresh l d = (w.withLanes l ((freshLanes d v.templates).foldl (fun t x => putLane x t) (w.leg l).lanes) O W).admitByMode l d ∧
    (v.templates ≠ [] → { w.leg l with
      lanes := (freshLanes d v.templates).foldl (fun t x => putLane x t) (w.leg l).lanes, orders := O, owed := W }.AsksBindLanes d) := by
  obtain ⟨O, W, made, asks⟩ := w.madeLanes_eq l d v.templates
  refine ⟨O, W, ?_, asks⟩
  unfold Work.admitFresh
  rw [h]
  dsimp only [Option.map_some, Option.getD_some]
  rw [if_pos hfit, made]

theorem Work.admitFresh_waits {v : EnrolEntry} (h : w.enrolOf l d = some v) (hfit : ¬templatesFit (w.leg l) d v.templates = true) :
    w.admitFresh l d = w.awaitDrop l d .lanes := by
  unfold Work.admitFresh
  rw [h]
  exact if_neg hfit

theorem Work.withLanes_admitted {L : Vector (Option Lane) 256} {O : List OrderEntry} {W : List OwedItem} {r' : LegRecord}
    (h : ((w.withLanes l L O W).leg l).EntryAdmitted d w.stamp r') : (w.leg l).EntryAdmitted d w.stamp r' := by
  rw [Work.withLanes_leg] at h
  exact h

theorem Work.admitFresh_admitted : (w.leg l).EntryAdmitted d w.stamp ((w.admitFresh l d).leg l) := by
  unfold Work.admitFresh
  dsimp only
  split
  · obtain ⟨O, W, made, -⟩ := w.madeLanes_eq l d (((w.enrolOf l d).map EnrolEntry.templates).getD [])
    rw [made]
    exact Work.withLanes_admitted Work.admitByMode_admitted
  · exact Work.awaitDrop_admitted _

/-! ### The end of trim (R70) -/

theorem Work.trimEnds_admitted (m : Bool) :
    ((w.mapDrop l d fun e => { e with marginal := m }).leg l).EntryAdmitted d w.stamp ((w.trimEnds l d m).leg l) := by
  unfold Work.trimEnds
  obtain ⟨v, hv⟩ : ∃ v, v = w.mapDrop l d fun e => { e with marginal := m } := ⟨_, rfl⟩
  have stamp : w.stamp = v.stamp := by rw [hv]; rfl
  rw [← hv, stamp]
  obtain ⟨O, W, rebound, -⟩ := v.rebindLanes_eq l d
  dsimp only
  rw [rebound]
  split
  · exact Work.admitFresh_admitted
  · split
    · exact Work.withLanes_admitted (Work.serveDrop_admitted _)
    · split
      · exact Work.admitFresh_admitted
      · exact Work.withLanes_admitted Work.admitByMode_admitted

theorem Work.trimEnds_fresh {m : Bool}
    (h : (w.drop l d).origin = some .new ∨ w.meter l d = none ∧ ∀ (n : Fin 256) (x : Lane), (w.leg l).lanes[n] = some x → x.owner ≠ d) :
    w.trimEnds l d m = (w.mapDrop l d fun e => { e with marginal := m }).admitFresh l d := by
  unfold Work.trimEnds
  obtain ⟨v, hv⟩ : ∃ v, v = w.mapDrop l d fun e => { e with marginal := m } := ⟨_, rfl⟩
  have vleg : v.leg l = _ := (congrArg (fun v => v.leg l) hv).trans (w.mapDrop_leg_drop l d _)
  dsimp only
  rw [← hv]
  rcases h with h | ⟨hm, hl⟩
  · rw [if_pos]
    rw [hv, Work.drop_mapDrop_self]
    simp [h]
  · split
    · rfl
    · rw [if_neg, if_pos]
      · rw [LegRecord.lanesOf_isEmpty_iff, vleg]
        exact hl
      · rw [Work.meter, vleg]
        simpa [Work.meter] using hm

theorem Work.trimEnds_metered {m : Bool} {y : Meter} (hn : (w.drop l d).origin ≠ some .new) (hm : w.meter l d = some y) :
    w.trimEnds l d m = ((w.mapDrop l d fun e => { e with marginal := m }).rebindLanes l d).serveDrop l d (some m) := by
  unfold Work.trimEnds
  dsimp only
  rw [if_neg, if_pos]
  · rw [Work.meter, Work.mapDrop_leg_drop]
    exact Option.isSome_iff_exists.mpr ⟨y, hm⟩
  · rw [Work.drop_mapDrop_self]
    simpa using hn

theorem Work.trimEnds_unmetered {m : Bool} (hn : (w.drop l d).origin ≠ some .new) (hm : w.meter l d = none)
    (hl : ∃ (n : Fin 256) (x : Lane), (w.leg l).lanes[n] = some x ∧ x.owner = d) :
    w.trimEnds l d m = ((w.mapDrop l d fun e => { e with marginal := m }).rebindLanes l d).admitByMode l d := by
  unfold Work.trimEnds
  dsimp only
  rw [if_neg, if_neg, if_neg]
  · rw [LegRecord.lanesOf_isEmpty_iff, Work.mapDrop_leg_drop]
    obtain ⟨n, x, hx, ho⟩ := hl
    exact fun h => h n x hx ho
  · rw [Work.meter, Work.mapDrop_leg_drop]
    simpa [Work.meter] using hm
  · rw [Work.drop_mapDrop_self]
    simpa using hn

end

/-! ### A TRIMMING drop heard with a CLEAN keepalive (R70, R73, R74) -/

section
variable {w : Work} {l : Leg} {d : Drop} {level : Nat}

theorem Work.judgeBurst_trimInBand (hs : (w.drop l d).state = .trimming) (ho : (w.leg l).stepOutstanding d = false)
    (hb : (w.leg l).control.settings.trimLow ≤ level ∧ level ≤ (w.leg l).control.settings.trimHigh) :
    w.judgeBurst l d level = w.trimEnds l d false := by
  unfold Work.judgeBurst Work.judgeTrim
  rw [hs]
  dsimp only
  rw [if_neg (by rw [ho]; exact Bool.false_ne_true), if_pos (by rwa [LegSettings.inBand_iff])]

theorem Work.judgeBurst_trimStuck (hs : (w.drop l d).state = .trimming) (ho : (w.leg l).stepOutstanding d = false)
    (hb : ¬((w.leg l).control.settings.trimLow ≤ level ∧ level ≤ (w.leg l).control.settings.trimHigh))
    (hc : 6 ≤ (w.drop l d).trimCount ∨
      appliedStep (w.leg l).control.settings.trimLow (w.leg l).control.settings.trimHigh level (w.drop l d).power = 0) :
    w.judgeBurst l d level = w.trimEnds l d true := by
  unfold Work.judgeBurst Work.judgeTrim
  rw [hs]
  dsimp only
  rw [if_neg (by rw [ho]; exact Bool.false_ne_true), if_neg (by rwa [LegSettings.inBand_iff]), if_pos]
  rw [Bool.or_eq_true, decide_eq_true_iff, beq_iff_eq]
  exact hc

/-- The work `p` in which a TRIMMING drop has been heard at a level in state `s`, and the state `t` behind the end of its trim. -/
structure TrimEnded (s t : State) (l : Leg) (d : Drop) (level : Nat) (backlog : Vector (BitVec 24) 4) (marginal : Bool) (p : Work) : Prop where
  kept : ∃ I H S, p.leg l =
    { s.leg l with
      inFlight := I, histories := H, stats := S, uplink := [], drops := (s.leg l).drops.set d.val ((s.drop l d).heardAt level) }
  stamp : p.stamp = s.now
  enrol : p.blocks.enrol = s.blocks.enrol
  leg : t.leg l = ((p.trimEnds l d marginal).leg l).delivered d backlog

namespace TrimEnded

variable {s t : State} {backlog : Vector (BitVec 24) 4} {marginal : Bool} {p : Work}

theorem drop_p (h : TrimEnded s t l d level backlog marginal p) : p.drop l d = (s.drop l d).heardAt level := by
  obtain ⟨I, H, S, e⟩ := h.kept
  rw [Work.drop, e]
  exact (get_set ..).trans (if_pos rfl)

theorem meter_p (h : TrimEnded s t l d level backlog marginal p) (c : Drop) : p.meter l c = s.meter l c := by
  obtain ⟨I, H, S, e⟩ := h.kept
  rw [Work.meter, e]
  rfl

theorem lanes_p (h : TrimEnded s t l d level backlog marginal p) : (p.leg l).lanes = (s.leg l).lanes := by
  obtain ⟨I, H, S, e⟩ := h.kept
  rw [e]

/-- The drop marked, in the work that admission begins with. -/
theorem marked (h : TrimEnded s t l d level backlog marginal p) : ∃ v : Work, v = (p.mapDrop l d fun e => { e with marginal := marginal }) ∧
    v.stamp = s.now ∧ v.blocks.enrol = s.blocks.enrol ∧ (v.leg l).lanes = (s.leg l).lanes ∧ (v.leg l).control = (s.leg l).control ∧
    v.drop l d = { (s.drop l d).heardAt level with marginal := marginal } ∧ v.meter l d = s.meter l d := by
  obtain ⟨I, H, S, e⟩ := h.kept
  refine ⟨_, rfl, h.stamp, h.enrol, ?_, ?_, ?_, ?_⟩
  · rw [Work.mapDrop_leg_drop, e]
  · rw [Work.mapDrop_leg_drop, e]
  · rw [Work.drop_mapDrop_self, h.drop_p]
  · rw [Work.meter, Work.mapDrop_leg_drop, e]
    rfl

/-- Every lane behind the end of trim has its backlog report. -/
theorem lane (h : TrimEnded s t l d level backlog marginal p) (n : Fin 256) :
    (t.leg l).lanes[n] = (((p.trimEnds l d marginal).leg l).lanes[n]).map fun x => if x.owner = d then x.reported backlog else x := by
  rw [h.leg]
  exact lanesFor_get ..

theorem entry (h : TrimEnded s t l d level backlog marginal p) :
    (t.drop l d).marginal = marginal ∧ (t.drop l d).since = s.now ∧ (t.drop l d).serial = (s.drop l d).serial ∧
      ∀ c : Drop, c ≠ d → t.drop l c = s.drop l c := by
  obtain ⟨e, drops, hmarginal, hsince, hserial⟩ := Work.trimEnds_admitted (w := p) (l := l) (d := d) marginal
  have own : t.drop l d = e := by
    change (t.leg l).drops[d] = e
    rw [h.leg, LegRecord.delivered, drops, get_set, if_pos rfl]
  rw [Work.mapDrop_leg_drop] at drops hmarginal hserial
  dsimp only at drops hmarginal hserial
  rw [get_set, if_pos rfl, h.drop_p] at hmarginal hserial
  rw [own]
  refine ⟨hmarginal, hsince.trans h.stamp, hserial, fun c hc => ?_⟩
  obtain ⟨I, H, S, kept⟩ := h.kept
  change (t.leg l).drops[c] = _
  rw [h.leg, LegRecord.delivered, drops, get_set, if_neg hc, get_set, if_neg hc, kept]
  exact (get_set ..).trans (if_neg hc)

/-- The end of trim by the approval mode, the drop's lanes in the table `L` (R73, R74). -/
theorem byMode (h : TrimEnded s t l d level backlog marginal p) {v : EnrolEntry} {i : Fin 512} (hi : (s.drop l d).enrolRef = some i)
    (hv : s.blocks.enrol[i] = some v) {L : Vector (Option Lane) 256} {O : List OrderEntry} {W : List OwedItem}
    (trim : p.trimEnds l d marginal = ((p.mapDrop l d fun e => { e with marginal := marginal }).withLanes l L O W).admitByMode l d) :
    (t.leg l).orders = O ∧ (t.leg l).owed = W ∧
      (∀ (n : Fin 256) (x : Lane), L[n] = some x → x.owner = d → x.state = .binding → (t.leg l).lanes[n] = some (x.reported backlog)) ∧
      (v.mode = .auto → (t.drop l d).state = .serving ∧ (t.drop l d).origin = none ∧
        (s.meter l d = none → ∃ u, t.meter l d = some u ∧ u.account = v.account ∧ u.start = s.now ∧ u.usage = false)) ∧
      (v.mode = .hold → (t.drop l d).state = .awaiting ∧ (t.drop l d).awaitingCause = some .approval ∧
        t.meter l d = s.meter l d) := by
  obtain ⟨a, ha, astamp, aenrol, -, -, adrop, ameter⟩ := h.marked
  rw [← ha] at trim
  obtain ⟨x, hx⟩ : ∃ x, x = a.withLanes l L O W := ⟨_, rfl⟩
  have xleg : x.leg l = { a.leg l with lanes := L, orders := O, owed := W } := by rw [hx, Work.withLanes_leg]
  have xdrop : x.drop l d = a.drop l d := by rw [Work.drop, xleg]; rfl
  have xmeter : x.meter l d = s.meter l d := by
    rw [← ameter, Work.meter, xleg]
    rfl
  have xstamp : x.stamp = s.now := by rw [hx]; exact astamp
  have xenrol : x.blocks.enrol[i] = some v := by rw [hx]; exact aenrol ▸ hv
  have enrolled : x.enrolOf l d = some v := Work.enrolOf_some (by rw [xdrop, adrop]; exact hi) xenrol
  have lane := h.lane
  have leg := h.leg
  rw [trim, ← hx] at lane leg
  have reports (n : Fin 256) (y : Lane) (hy : ((x.admitByMode l d).leg l).lanes[n] = some y) (ho : y.owner = d) :
      (t.leg l).lanes[n] = some (y.reported backlog) := by
    rw [lane, hy, Option.map_some, if_pos ho]
  cases hm : v.mode with
  | auto =>
    have served := Work.admitByMode_auto enrolled hm
    rw [xleg] at served
    rw [served] at leg
    have own : t.drop l d = (x.drop l d).served s.now := by
      change (t.leg l).drops[d] = _
      rw [leg, xstamp, xdrop]
      exact (get_set ..).trans (if_pos rfl)
    refine ⟨by rw [leg]; rfl, by rw [leg]; rfl, fun n y hy ho hb => reports n y ?_ ho, fun _ => ⟨?_, ?_, fun hnone => ?_⟩, nofun⟩
    · rw [served]
      refine (lanesFor_some hy).trans ?_
      rw [if_pos ho, Lane.ownerServes, if_neg (by rw [hb]; nofun)]
    · rw [own]; rfl
    · rw [own]; rfl
    · refine ⟨Meter.opened v.account x.stamp, ?_, rfl, xstamp, Meter.opened_usage _ _⟩
      change (t.leg l).meters[d] = _
      rw [leg]
      refine (get_set ..).trans ((if_pos rfl).trans ?_)
      exact Work.openedMeter_of_none _ _ _ (xmeter.trans hnone) (by rw [xdrop, adrop]; exact hi) xenrol
  | hold =>
    have waits := Work.admitByMode_hold enrolled hm
    rw [xleg] at waits
    rw [waits] at leg
    have own : t.drop l d = (x.drop l d).awaits .approval s.now := by
      change (t.leg l).drops[d] = _
      rw [leg, xstamp]
      exact (get_set ..).trans (if_pos rfl)
    refine ⟨by rw [leg]; rfl, by rw [leg]; rfl, fun n y hy ho _ => reports n y ?_ ho, nofun, fun _ => ⟨?_, ?_, ?_⟩⟩
    · rw [waits]
      exact hy
    · rw [own]; rfl
    · rw [own]; rfl
    · rw [← ameter]
      change (t.leg l).meters[d] = _
      rw [leg]
      rfl

/-- A template list with room (R73, R87). -/
theorem fits (h : TrimEnded s t l d level backlog marginal p) {i : Fin 512} {v : EnrolEntry}
    (ho : (s.drop l d).origin = some .new ∨
      s.meter l d = none ∧ ∀ (n : Fin 256) (x : Lane), (s.leg l).lanes[n] = some x → x.owner ≠ d)
    (hi : (s.drop l d).enrolRef = some i) (hv : s.blocks.enrol[i] = some v) (h4 : v.templates.length ≤ 4)
    (hroom : (s.leg l).HasRoomFor d v.templates) :
    (v.templates ≠ [] → (t.leg l).AsksBindLanes d) ∧
      (∀ (q : Fin 4) (g : LaneFigures), v.templates[q.val]? = some g →
        ∃ n : Fin 256, (s.leg l).lanes[n] = none ∧
          (t.leg l).lanes[n] = some { Lane.fresh d q g with backlog := (backlog[q]).toNat }) ∧
      (v.mode = .auto → (t.drop l d).state = .serving ∧ (t.drop l d).origin = none ∧
        (s.meter l d = none → ∃ u, t.meter l d = some u ∧ u.account = v.account ∧ u.start = s.now ∧ u.usage = false)) ∧
      (v.mode = .hold → (t.drop l d).state = .awaiting ∧ (t.drop l d).awaitingCause = some .approval ∧
        t.meter l d = s.meter l d) := by
  obtain ⟨a, ha, astamp, aenrol, alanes, acontrol, adrop, ameter⟩ := h.marked
  have trim : p.trimEnds l d marginal = a.admitFresh l d := by
    rw [ha]
    exact Work.trimEnds_fresh (by rw [h.drop_p, h.meter_p, h.lanes_p]; exact ho)
  have enrolled : a.enrolOf l d = some v := Work.enrolOf_some (by rw [adrop]; exact hi) (by rw [aenrol]; exact hv)
  have room : (a.leg l).HasRoomFor d v.templates := by
    unfold LegRecord.HasRoomFor
    rw [alanes, acontrol]
    exact hroom
  obtain ⟨O, W, fresh, asks⟩ := Work.admitFresh_fits enrolled ((templatesFit_iff h4).mpr room)
  rw [fresh, ha] at trim
  obtain ⟨orders, owed, lanes, auto, hold⟩ := h.byMode hi hv trim
  refine ⟨fun hn => ?_, fun q g hg => ?_, auto, hold⟩
  · have := asks hn
    unfold LegRecord.AsksBindLanes at this ⊢
    rw [orders, owed]
    exact this
  · have most : (freshLanes d v.templates).length + (laneList (a.leg l).lanes).length ≤ 256 := by
      rw [freshLanes_length h4, laneList_eq_lanes]
      exact room.1
    obtain ⟨n, hnone, hsome⟩ := (putLanes_places _ _ most).2 (Lane.fresh d q g) (List.mem_map_of_mem (templatePorts_get hg))
    rw [ha] at hsome
    rw [alanes] at hnone
    exact ⟨n, hnone, lanes n _ hsome rfl rfl⟩

/-- A template list without room (R73, R87). -/
theorem waits (h : TrimEnded s t l d level backlog marginal p) {i : Fin 512} {v : EnrolEntry}
    (ho : (s.drop l d).origin = some .new ∨
      s.meter l d = none ∧ ∀ (n : Fin 256) (x : Lane), (s.leg l).lanes[n] = some x → x.owner ≠ d)
    (hi : (s.drop l d).enrolRef = some i) (hv : s.blocks.enrol[i] = some v) (h4 : v.templates.length ≤ 4)
    (hroom : ¬(s.leg l).HasRoomFor d v.templates) :
    (t.drop l d).state = .awaiting ∧ (t.drop l d).awaitingCause = some .lanes ∧
      ∀ n : Fin 256, (s.leg l).lanes[n] = none → (t.leg l).lanes[n] = none := by
  obtain ⟨a, ha, -, aenrol, alanes, acontrol, adrop, -⟩ := h.marked
  have trim : p.trimEnds l d marginal = a.admitFresh l d := by
    rw [ha]
    exact Work.trimEnds_fresh (by rw [h.drop_p, h.meter_p, h.lanes_p]; exact ho)
  have enrolled : a.enrolOf l d = some v := Work.enrolOf_some (by rw [adrop]; exact hi) (by rw [aenrol]; exact hv)
  have room : ¬(a.leg l).HasRoomFor d v.templates := by
    unfold LegRecord.HasRoomFor
    rw [alanes, acontrol]
    exact hroom
  rw [Work.admitFresh_waits enrolled (mt (templatesFit_iff h4).mp room)] at trim
  have own : t.drop l d = (a.drop l d).awaits .lanes a.stamp := by
    change (t.leg l).drops[d] = _
    rw [h.leg, trim, Work.awaitDrop_leg]
    exact (get_set ..).trans (if_pos rfl)
  rw [own]
  refine ⟨rfl, rfl, fun n hn => ?_⟩
  rw [h.lane, trim, Work.awaitDrop_leg]
  dsimp only
  rw [alanes, hn]
  rfl

/-- A drop that has a meter and is not NEW (R74). -/
theorem metered (h : TrimEnded s t l d level backlog marginal p) {y : Meter} (ho : (s.drop l d).origin ≠ some .new)
    (hm : s.meter l d = some y) :
    (t.drop l d).state = .serving ∧ t.meter l d = some y ∧
      ((∃ (n : Fin 256) (u : Lane), (s.leg l).lanes[n] = some u ∧ u.owner = d) → (t.leg l).AsksBindLanes d) ∧
      ∀ (n : Fin 256) (u : Lane), (t.leg l).lanes[n] = some u → u.owner = d → u.state = .binding := by
  obtain ⟨a, ha, astamp, aenrol, alanes, -, adrop, ameter⟩ := h.marked
  have trim := Work.trimEnds_metered (w := p) (l := l) (d := d) (m := marginal) (by rw [h.drop_p]; exact ho) ((h.meter_p d).trans hm)
  obtain ⟨O, W, rebound, asks⟩ := a.rebindLanes_eq l d
  rw [← ha, rebound] at trim
  obtain ⟨x, hx⟩ : ∃ x, x = a.withLanes l (lanesFor d Lane.rebind (a.leg l).lanes) O W := ⟨_, rfl⟩
  have xleg : x.leg l = { a.leg l with lanes := lanesFor d Lane.rebind (a.leg l).lanes, orders := O, owed := W } := by
    rw [hx, Work.withLanes_leg]
  have xmeter : x.meter l d = some y := by
    rw [← hm, ← ameter, Work.meter, xleg]
    rfl
  have leg := h.leg
  rw [trim, ← hx, Work.serveDrop_leg, Work.openedMeter_of_some _ _ _ xmeter, xleg] at leg
  refine ⟨?_, ?_, fun hl => ?_, fun n u hu hud => ?_⟩
  · change ((t.leg l).drops[d]).state = _
    rw [leg]
    exact congrArg DropEntry.state ((get_set ..).trans (if_pos rfl))
  · change (t.leg l).meters[d] = _
    rw [leg]
    exact (get_set ..).trans (if_pos rfl)
  · rw [← alanes] at hl
    have := asks hl
    unfold LegRecord.AsksBindLanes at this ⊢
    rw [leg]
    exact this
  · have lane : (t.leg l).lanes[n] = (((a.leg l).lanes[n].map fun z => if z.owner = d then z.rebind else z).map fun z =>
        if z.owner = d then z.ownerServes else z).map fun z => if z.owner = d then z.reported backlog else z := by
      rw [leg, ← lanesFor_get, ← lanesFor_get, ← lanesFor_get]
      rfl
    rw [lane, Option.map_map, Option.map_map] at hu
    obtain ⟨z, -, rfl⟩ := Option.map_eq_some_iff.mp hu
    by_cases hz : z.owner = d
    · simp [hz, Lane.rebind, Lane.ownerServes, Lane.reported]
    · simp [hz] at hud

/-- A drop without a meter that is not NEW and holds lanes (R74). -/
theorem unmetered (h : TrimEnded s t l d level backlog marginal p) {i : Fin 512} {v : EnrolEntry} (ho : (s.drop l d).origin ≠ some .new)
    (hm : s.meter l d = none) (hl : ∃ (n : Fin 256) (u : Lane), (s.leg l).lanes[n] = some u ∧ u.owner = d)
    (hi : (s.drop l d).enrolRef = some i) (hv : s.blocks.enrol[i] = some v) :
    (t.leg l).AsksBindLanes d ∧
      (∀ (n : Fin 256) (u : Lane), (s.leg l).lanes[n] = some u → u.owner = d →
        (t.leg l).lanes[n] = some { u with state := .binding, backlog := (backlog[u.port]).toNat }) ∧
      (v.mode = .auto → (t.drop l d).state = .serving ∧ (t.drop l d).origin = none ∧
        ∃ u, t.meter l d = some u ∧ u.account = v.account ∧ u.start = s.now ∧ u.usage = false) ∧
      (v.mode = .hold → (t.drop l d).state = .awaiting ∧ (t.drop l d).awaitingCause = some .approval ∧ t.meter l d = none) := by
  obtain ⟨a, ha, -, -, alanes, -, -, -⟩ := h.marked
  have trim := Work.trimEnds_unmetered (w := p) (l := l) (d := d) (m := marginal) (by rw [h.drop_p]; exact ho) ((h.meter_p d).trans hm)
    (by rw [h.lanes_p]; exact hl)
  obtain ⟨O, W, rebound, asks⟩ := a.rebindLanes_eq l d
  rw [← ha, rebound, ha] at trim
  obtain ⟨orders, owed, lanes, auto, hold⟩ := h.byMode hi hv trim
  rw [← ha, alanes] at lanes
  refine ⟨?_, fun n u hu hud => ?_, fun hmode => ?_, fun hmode => ?_⟩
  · have := asks (by rw [alanes]; exact hl)
    unfold LegRecord.AsksBindLanes at this ⊢
    rw [orders, owed]
    exact this
  · exact lanes n u.rebind (by rw [lanesFor_some hu, if_pos hud]) hud rfl
  · obtain ⟨state, origin, meter⟩ := auto hmode
    exact ⟨state, origin, meter hm⟩
  · obtain ⟨state, cause, meter⟩ := hold hmode
    exact ⟨state, cause, meter.trans hm⟩

end TrimEnded

end

/-! ### A keepalive without an echo (R31, R107, R124) -/

section
variable {w : Work} {l : Leg} {d : Drop} {f : FoundBurst}

theorem Work.unitHeard_unechoed (he : f.header.echo = none) (hh : (w.drop l d).state.heard = true) :
    w.unitHeard l d f =
      ((w.mapDrop l d fun e => e.heardAt (meanLevel f.preamble)).takeStatus l d f.header).judgeBurst l d (meanLevel f.preamble) := by
  have heard : (w.mapDrop l d fun e => e.heardClean (meanLevel f.preamble)) = w.mapDrop l d fun e => e.heardAt (meanLevel f.preamble) := by
    refine w.mapLeg_congr l ?_
    dsimp only
    rw [DropEntry.heardClean_of_heard (by exact hh)]
  unfold Work.unitHeard
  rw [he, Work.deliverEcho, heard]

theorem Work.takeStatus_gasp {x : BurstHeader} (hg : x.dyingGasp = true) (hh : (w.drop l d).state.heard = true) :
    w.takeStatus l d x = w.lose l d .power := by
  unfold Work.takeStatus
  dsimp only
  rw [hg, hh]
  rfl

theorem Work.takeStatus_wake {x : BurstHeader} (hg : x.dyingGasp = false) (hw : x.wakeRequest = true)
    (hs : (w.drop l d).state = .dormant) : w.takeStatus l d x = w.wakeUp l d := by
  unfold Work.takeStatus
  dsimp only
  rw [hg, hw, hs]
  rfl

theorem Work.afterWake_of_not_serving {st : DropState} (h : (w.drop l d).state ≠ .serving) : w.afterWake l d st = w := by
  unfold Work.afterWake
  rw [if_neg]
  simp [h]

end

/-- A CLEAN keepalive without an echo, of a drop in service: the unit heard, its status, its level, its backlog reports. -/
theorem exec_heard {l : Leg} {d : Drop} {m : InFlight} {ms : List InFlight} {b : Burst} {f : FoundBurst} {lit : Bool} {s : State}
    (hm : (s.leg l).inFlight = m :: ms) (hb : m.map.bursts[m.judged]? = some b) (hc : classify b ⟨lit, some f⟩ = .clean)
    (hd : b.drop = d) (hseg : b.segments = []) (he : f.header.echo = none) (hh : (s.drop l d).state.heard = true) : ∃ p : Work,
    (∃ I H S, p.leg l =
      { s.leg l with
        inFlight := I, histories := H, stats := S, uplink := []
        drops := (s.leg l).drops.set d.val ((s.drop l d).heardAt (meanLevel f.preamble)) }) ∧
    p.drop l d = (s.drop l d).heardAt (meanLevel f.preamble) ∧ p.stamp = s.now ∧ p.blocks.enrol = s.blocks.enrol ∧
    ∃ u : Work, u = (((p.takeStatus l d f.header).judgeBurst l d (meanLevel f.preamble)).mapLeg l fun r =>
        r.delivered d f.header.backlog).afterWake l d (s.drop l d).state ∧
      exec (.grantedWindowEnd l ⟨lit, some f⟩) s = .next (event (fun _ => u) s) ∧ ∀ k : Leg, k ≠ l → u.leg k = s.leg k := by
  obtain ⟨v, ⟨I, H, S, hv⟩, ran, outside⟩ := exec_keepalive (lit := lit) hm hb hc hd hseg (by intro h; rw [h] at hh; cases hh)
  have vleg : v.leg l = { s.leg l with inFlight := I, histories := H, stats := S, uplink := [] } := by rw [hv, Work.leg_mapLeg_self]; rfl
  have vdrop : v.drop l d = s.drop l d := by rw [Work.drop, vleg]; rfl
  rw [Work.unitHeard_unechoed he (by rw [vdrop]; exact hh)] at ran outside
  refine ⟨_, ⟨I, H, S, ?_⟩, ?_, by rw [hv]; rfl, by rw [hv]; rfl, _, rfl, ran, fun k hk => Work.outside_leg outside hk⟩
  · rw [Work.mapDrop_leg_drop, vdrop, vleg]
  · rw [Work.drop_mapDrop_self, vdrop]

/-- Settles O42: the loss of `lose_left`, the waking of `wakeUp_leg`, and the end of trim by `TrimEnded`. -/
theorem cleanBurstsJudgeTheUnit : Obligations.CleanBurstsJudgeTheUnit := by
  intro l d m ms b f lit s hm hb hc hd hseg he level low high
  refine ⟨fun hh hg => ?_, fun hs hg hw hlow hhigh => ?_, fun hs hg hother howed => ?_⟩
  · obtain ⟨q, ⟨I, H, S, qleg⟩, qdrop, qstamp, -, u, hu, ran, others⟩ := exec_heard (lit := lit) hm hb hc hd hseg he hh
    have left := q.lose_left l d .power none
    rw [qdrop, qstamp] at left
    obtain ⟨w, hw⟩ : ∃ w, w = q.lose l d .power := ⟨_, rfl⟩
    rw [← hw] at left
    have state : (w.drop l d).state = .lost := congrArg DropEntry.state left.entry
    have lost : ((w.mapLeg l fun r => r.delivered d f.header.backlog).drop l d).state ≠ .serving := by
      rw [Work.drop, Work.leg_mapLeg_self]
      exact fun h => absurd (state.symm.trans h) nofun
    rw [Work.takeStatus_gasp hg (by rw [qdrop]; exact hh), ← hw, Work.judgeBurst_of_unjudged (by rw [state]; nofun) (by rw [state]; nofun),
      Work.afterWake_of_not_serving lost] at hu
    obtain ⟨t, ran, tleg, -, others⟩ := state_of_event ran others
    rw [hu, Work.leg_mapLeg_self] at tleg
    have shown := left.entersLost (s := s) (u := event (fun _ => w) s) (by rw [qleg]) rfl rfl rfl
    have tdrop : t.drop l d = ((s.drop l d).heardAt level).lostAt .power
        ((none : Option Nat).getD ((q.leg l).control.settings.lostHold * 4096)) s.now := by
      change (t.leg l).drops[d] = _
      rw [tleg]
      exact left.entry
    have settings : (q.leg l).control = (s.leg l).control := by rw [qleg]
    rw [settings] at tdrop
    refine ⟨t, ran, by rw [tdrop]; rfl, by rw [tdrop]; rfl, by rw [tdrop]; rfl, by rw [tdrop]; rfl, by rw [tdrop]; rfl, fun n x hx ho => ?_, ?_, ?_, fun y hy => ?_, others⟩
    · have lane : (t.leg l).lanes[n] = ((w.leg l).lanes[n]).map fun z => if z.owner = d then z.reported f.header.backlog else z := by
        rw [tleg]
        exact lanesFor_get ..
      rw [lane] at hx
      obtain ⟨z, hz, rfl⟩ := Option.map_eq_some_iff.mp hx
      by_cases hzo : z.owner = d
      · rw [if_pos hzo]
        exact shown.lanes n z hz hzo
      · rw [if_neg hzo] at ho
        exact absurd ho hzo
    · rw [tleg]
      exact left.no_orders
    · rw [tleg]
      exact left.no_owed
    · change (t.leg l).meters[d] = _
      rw [tleg]
      exact shown.meter y hy
  · obtain ⟨q, ⟨I, H, S, qleg⟩, qdrop, qstamp, -, u, hu, ran, others⟩ := exec_heard (lit := lit) hm hb hc hd hseg he (by rw [hs]; rfl)
    have wleg := q.wakeUp_leg l d
    rw [qdrop, qstamp] at wleg
    have wdrop : (q.wakeUp l d).drop l d =
        { ((s.drop l d).heardAt level).served s.now with wakeInterval := none, wakeCount := none, cleanSinceWake := false } := by
      rw [Work.drop, wleg]
      exact (get_set ..).trans (if_pos rfl)
    have wset : ((q.wakeUp l d).leg l).control = (s.leg l).control := by
      rw [wleg, qleg]
      rfl
    have judged : (q.wakeUp l d).judgeBurst l d (meanLevel f.preamble) = (q.wakeUp l d).mapDrop l d fun e => { e with outOfBand := 0 } :=
      Work.judgeBurst_inBand (by rw [wdrop]; rfl) (by rw [wset]; exact ⟨hlow, hhigh⟩)
    have woken : ((((q.wakeUp l d).mapDrop l d fun e => { e with outOfBand := 0 }).mapLeg l fun r => r.delivered d f.header.backlog).drop l d).state =
        .serving := by
      rw [Work.drop, Work.leg_mapLeg_self, LegRecord.delivered, Work.mapDrop_leg_drop, get_set, if_pos rfl, wdrop]
      rfl
    rw [Work.takeStatus_wake hg hw (by rw [qdrop]; exact hs), judged, hs, Work.afterWake_of_woken woken] at hu
    obtain ⟨t, ran, tleg, -, others⟩ := state_of_event ran others
    rw [hu, Work.mapDrop_leg_drop, Work.drop, Work.leg_mapLeg_self, Work.mapDrop_leg_drop, wdrop, wleg, qleg] at tleg
    refine ⟨t, ran, ?_, ?_, fun c hc => ?_, others⟩
    · change (t.leg l).drops[d] = _
      rw [tleg, get_set, if_pos rfl, LegRecord.delivered, get_set, if_pos rfl]
      rfl
    · rw [tleg]
      rfl
    · change (t.leg l).drops[c] = _
      rw [tleg, get_set, if_neg hc, LegRecord.delivered, get_set, if_neg hc, get_set, if_neg hc, get_set, if_neg hc]
      rfl
  · obtain ⟨p, ⟨I, H, S, pleg⟩, pdrop, pstamp, penrol, u, hu, ran, others⟩ := exec_heard (lit := lit) hm hb hc hd hseg he (by rw [hs]; rfl)
    have state : (p.drop l d).state = .trimming := by rw [pdrop]; exact hs
    have free : (p.leg l).stepOutstanding d = false := by
      rw [pleg]
      exact LegRecord.stepOutstanding_eq_false hother howed
    have settings : (p.leg l).control = (s.leg l).control := by rw [pleg]
    rw [Work.takeStatus_quiet hg (.inr (by rw [state]; nofun)), Work.afterWake_of_ne (by rw [hs]; nofun)] at hu
    obtain ⟨t, ran, tleg, -, others⟩ := state_of_event ran others
    rw [hu, Work.leg_mapLeg_self] at tleg
    change t.leg l = ((p.judgeBurst l d level).leg l).delivered d f.header.backlog at tleg
    have ended (marginal : Bool) (judged : p.judgeBurst l d level = p.trimEnds l d marginal) :
        TrimEnded s t l d level f.header.backlog marginal p := ⟨⟨I, H, S, pleg⟩, pstamp, penrol, by rw [tleg, judged]⟩
    have ends (marginal : Bool)
        (h : marginal = false ∧ low ≤ level ∧ level ≤ high ∨ marginal = true ∧ ¬(low ≤ level ∧ level ≤ high) ∧
          (6 ≤ (s.drop l d).trimCount ∨ appliedStep low high level (s.drop l d).power = 0)) :
        TrimEnded s t l d level f.header.backlog marginal p := by
      refine ended marginal ?_
      rcases h with ⟨rfl, hband⟩ | ⟨rfl, hband, hstuck⟩
      · exact Work.judgeBurst_trimInBand state free (by rw [settings]; exact hband)
      · exact Work.judgeBurst_trimStuck state free (by rw [settings]; exact hband) (by rw [settings, pdrop]; exact hstuck)
    have steps (hband : ¬(low ≤ level ∧ level ≤ high)) (h0 : appliedStep low high level (s.drop l d).power ≠ 0)
        (hcount : (s.drop l d).trimCount < 6) :
        t.leg l = ((p.leg l).generated d (.stepPower (appliedStep low high level (s.drop l d).power))).delivered d f.header.backlog := by
      rw [tleg, Work.judgeBurst_trims (step := appliedStep low high level (s.drop l d).power) state free (by rw [settings]; exact hband)
        (by rw [pdrop]; exact hcount) (by rw [settings, pdrop]; rfl) h0, Work.generate_eq, Work.leg_mapLeg_self]
    refine ⟨t, ran, ?_, others, fun step hband hstep h0 hcount hroom => ?_, fun marginal h => ?_⟩
    · by_cases hband : low ≤ level ∧ level ≤ high
      · exact (ends false (.inl ⟨rfl, hband⟩)).entry.2.2.2
      · by_cases hstuck : 6 ≤ (s.drop l d).trimCount ∨ appliedStep low high level (s.drop l d).power = 0
        · exact (ends true (.inr ⟨rfl, hband, hstuck⟩)).entry.2.2.2
        · obtain ⟨hcount, h0⟩ := not_or.mp hstuck
          intro c hcd
          change (t.leg l).drops[c] = _
          rw [steps hband h0 (by omega), LegRecord.delivered, (LegRecord.generated_drops _ _ _).1, pleg, get_set, if_neg hcd]
          rfl
    · have leg := steps hband (by rw [← hstep]; exact h0) hcount
      rw [← hstep, LegRecord.generated_queued _ _ (.stepPower step) rfl (by rw [pleg]; exact hroom), pleg] at leg
      refine ⟨by rw [leg]; rfl, ?_⟩
      change (t.leg l).drops[d] = _
      rw [leg, LegRecord.delivered, get_set, if_pos rfl]
      rfl
    · obtain ⟨hmarginal, hsince, hserial, -⟩ := (ends marginal h).entry
      refine ⟨hmarginal, hsince, hserial, fun i v ho hi hv h4 => ⟨(ends marginal h).fits ho hi hv h4, (ends marginal h).waits ho hi hv h4⟩,
        fun v ho hmeter => (ends marginal h).metered ho hmeter, fun i v ho hmeter hl hi hv => (ends marginal h).unmetered ho hmeter hl hi hv⟩

end Sys2Proof.Machine
end

section
set_option Elab.async false -- one theorem after another: side by side they ask for more threads than the check's memory limit grants
/-! PROOFS. A change of the reach span: entry by entry, then the leg (R32, R66, R76 to R78). -/

namespace Sys2Proof.Machine

/-! ### What a change of reach makes of one entry (R77) -/

/-- An entry in service whose rtt exceeds the leg delay under a new reach span. -/
def DropEntry.beyond (e : DropEntry) (reach : Nat) : Bool := e.state.heard && e.rtt.any fun n => n > 8 * reach

/-- An entry behind a change of reach. -/
def DropEntry.reached (e : DropEntry) (reach : Nat) (delta : Int) (hold : Nat) (t : Stamp) : DropEntry :=
  if e.beyond reach then e.lostAt .outOfReach hold t
  else if e.state.heard then { e with eqd := e.eqd.map fun q => shiftDelay q delta }
  else if e.state = .quarantined then { e with rtt := none, eqd := none }
  else e

/-- An order that leaves with a change of reach for its target's sake. -/
def DropEntry.sheds (e : DropEntry) (reach : Nat) (o : OrderEntry) : Bool :=
  e.beyond reach || e.state == .found && o.order.kind == .setDelay

/-- A leg that a drop left by a loss, where the leg searches nothing (R32, R54, R67). -/
def LegRecord.lost (r : LegRecord) (d : Drop) (e : DropEntry) : LegRecord :=
  { r.gone d with
    drops := r.drops.set d.val e
    orders := r.orders.filter fun o => o.target != some d
    owed := r.owed.filter fun i => i.drop != d
    monitor := { r.monitor with asks := r.monitor.asks.filter fun a => a != .mute d } }

section
variable {w : Work} {l : Leg} {d : Drop}

theorem Work.lose_leg_quiet (h : (w.leg l).monitor.state.searching = false) (reason : LostReason) (saved : Option Nat) :
    (w.lose l d reason saved).leg l =
      (w.leg l).lost d ((w.drop l d).lostAt reason (saved.getD ((w.leg l).control.settings.lostHold * 4096)) w.stamp) := by
  obtain ⟨v, hv⟩ : ∃ v, v = w.mapLeg l fun r => r.gone d := ⟨_, rfl⟩
  obtain ⟨g, hg⟩ : ∃ g : DropEntry → DropEntry, g = fun e =>
    e.lostAt reason (saved.getD ((w.leg l).control.settings.lostHold * 4096)) w.stamp := ⟨_, rfl⟩
  have leg : (((v.purge l d).mapDrop l d g).raiseDropState l d).leg l = (w.leg l).lost d (g (w.drop l d)) := by
    rw [Work.raiseDropState, Work.raise_leg, Work.mapDrop_eq, Work.purge, Work.mapLeg_mapLeg, hv, Work.mapLeg_mapLeg, Work.leg_mapLeg_self]
    rfl
  rw [Work.lose_eq, ← hv, ← hg, Work.leaves, Work.departure_of_not_searching (by rw [leg]; exact h), leg, hg]

theorem Work.reachDrop_of_heard {reach : Nat} {delta : Int} (h : (w.drop l d).state.heard = true) :
    w.reachDrop l reach delta d =
      if (w.drop l d).rtt.any fun r => r > 8 * reach then w.lose l d .outOfReach
      else w.mapDrop l d fun e => { e with eqd := e.eqd.map fun q => shiftDelay q delta } := by
  unfold Work.reachDrop
  cases hs : (w.drop l d).state with
  | trimming => simp only [hs]
  | awaiting => simp only [hs]
  | serving => simp only [hs]
  | dormant => simp only [hs]
  | _ => rw [hs] at h; cases h

/-- The leg behind the change of one entry, where the leg searches nothing. -/
theorem Work.reachDrop_leg {reach : Nat} {delta : Int} (hq : (w.leg l).monitor.state.searching = false) :
    (w.reachDrop l reach delta d).leg l =
      if (w.drop l d).beyond reach then
        (w.leg l).lost d ((w.drop l d).reached reach delta ((w.leg l).control.settings.lostHold * 4096) w.stamp)
      else
        { w.leg l with
          drops := (w.leg l).drops.set d.val
            ((w.drop l d).reached reach delta ((w.leg l).control.settings.lostHold * 4096) w.stamp)
          orders := (w.leg l).orders.filter fun o => !(o.target == some d && (w.drop l d).sheds reach o) } := by
  have unshed (hb : (w.drop l d).beyond reach = false) (hf : (w.drop l d).state ≠ .found) :
      ((w.leg l).orders.filter fun o => !(o.target == some d && (w.drop l d).sheds reach o)) = (w.leg l).orders := by
    rw [List.filter_eq_self]
    intro o _
    simp [DropEntry.sheds, hb, hf]
  have same : (w.leg l).drops.set d.val (w.drop l d) = (w.leg l).drops := Vector.set_getElem_self ..
  cases hh : (w.drop l d).state.heard with
  | true =>
    have far : (w.drop l d).beyond reach = (w.drop l d).rtt.any fun r => r > 8 * reach := by rw [DropEntry.beyond, hh, Bool.true_and]
    rw [Work.reachDrop_of_heard hh, ← far, DropEntry.reached]
    cases hb : (w.drop l d).beyond reach with
    | true =>
      rw [if_pos rfl, if_pos rfl, if_pos rfl, Work.lose_leg_quiet hq]
      rfl
    | false =>
      rw [if_neg Bool.false_ne_true, if_neg Bool.false_ne_true, if_neg Bool.false_ne_true, if_pos hh,
        unshed hb (by intro h; rw [h] at hh; cases hh), Work.mapDrop_leg_drop]
  | false =>
    have near : (w.drop l d).beyond reach = false := by rw [DropEntry.beyond, hh, Bool.false_and]
    rw [near, if_neg Bool.false_ne_true, DropEntry.reached, near, if_neg Bool.false_ne_true, if_neg (by rw [hh]; exact Bool.false_ne_true)]
    by_cases hf : (w.drop l d).state = .found
    · have removed : w.reachDrop l reach delta d = w.removeOrders l d .setDelay := by
        unfold Work.reachDrop
        simp only [hf]
      rw [removed, if_neg (by rw [hf]; nofun), Work.removeOrders, Work.leg_mapLeg_self, same]
      simp only [DropEntry.sheds, near, hf, beq_self_eq_true, Bool.true_and, Bool.false_or]
    · by_cases hm : (w.drop l d).state = .quarantined
      · have cleared : w.reachDrop l reach delta d = w.mapDrop l d fun e => { e with rtt := none, eqd := none } := by
          unfold Work.reachDrop
          simp only [hm]
        rw [cleared, if_pos hm, unshed near hf, Work.mapDrop_leg_drop]
      · have still : w.reachDrop l reach delta d = w := by
          unfold Work.reachDrop
          cases hs : (w.drop l d).state with
          | trimming => rw [hs] at hh; cases hh
          | awaiting => rw [hs] at hh; cases hh
          | serving => rw [hs] at hh; cases hh
          | dormant => rw [hs] at hh; cases hh
          | found => exact absurd hs hf
          | quarantined => exact absurd hs hm
          | _ => simp only [hs]
        rw [still, if_neg hm, unshed near hf, same]

end

/-! ### The entries one after another -/

/-- A meter of a drop that may be lost with a change of reach. -/
def Meter.outagedIf (b : Bool) (m : Meter) : Meter := if b then m.outaged else m

/-- A lane whose owner may be lost with a change of reach. -/
def Lane.goneIf (b : Bool) (x : Lane) : Lane := if b then x.ownerGone else x

/-- A leg `r` that began as `r₀`, behind the change of reach of the entries of a list. -/
structure LegRecord.Reached (reach : Nat) (delta : Int) (t : Stamp) (r₀ : LegRecord) (ds : List Drop) (r : LegRecord) : Prop where
  control : r.control = r₀.control
  inFlight : r.inFlight = r₀.inFlight
  monitor : r.monitor.state = r₀.monitor.state
  drops : ∀ c : Drop, r.drops[c] =
    if c ∈ ds then (r₀.drops[c]).reached reach delta (r₀.control.settings.lostHold * 4096) t else r₀.drops[c]
  orders : r.orders = r₀.orders.filter fun o => !(o.target.any fun c => ds.contains c && (r₀.drops[c]).sheds reach o)
  owed : ∀ i ∈ r.owed, i ∈ r₀.owed
  lanes : ∀ n : Fin 256, r.lanes[n] = r₀.lanes[n].map fun x => x.goneIf (ds.contains x.owner && (r₀.drops[x.owner]).beyond reach)
  meters : ∀ c : Drop, r.meters[c] = r₀.meters[c].map (Meter.outagedIf (ds.contains c && (r₀.drops[c]).beyond reach))

namespace LegRecord.Reached

variable {reach : Nat} {delta : Int} {t : Stamp} {r₀ r : LegRecord} {ds : List Drop}

theorem nil : r₀.Reached reach delta t [] r₀ where
  control := rfl
  inFlight := rfl
  monitor := rfl
  drops _ := rfl
  orders := (List.filter_eq_self.mpr fun o _ => by cases o.target <;> rfl).symm
  owed _ h := h
  lanes n := by cases r₀.lanes[n] <;> rfl
  meters c := by cases r₀.meters[c] <;> rfl

/-- One entry more. -/
theorem step (h : r₀.Reached reach delta t ds r) {d : Drop} (hd : d ∉ ds) {r' : LegRecord}
    (hr : r' = if (r₀.drops[d]).beyond reach then
        r.lost d ((r₀.drops[d]).reached reach delta (r₀.control.settings.lostHold * 4096) t)
      else
        { r with
          drops := r.drops.set d.val ((r₀.drops[d]).reached reach delta (r₀.control.settings.lostHold * 4096) t)
          orders := r.orders.filter fun o => !(o.target == some d && (r₀.drops[d]).sheds reach o) }) :
    r₀.Reached reach delta t (d :: ds) r' := by
  have drops (c : Drop) : (r.drops.set d.val ((r₀.drops[d]).reached reach delta (r₀.control.settings.lostHold * 4096) t))[c] =
      if c ∈ d :: ds then (r₀.drops[c]).reached reach delta (r₀.control.settings.lostHold * 4096) t else r₀.drops[c] := by
    rw [get_set]
    by_cases hc : c = d
    · rw [if_pos hc, if_pos (by rw [hc]; exact List.mem_cons_self), hc]
    · rw [if_neg hc, h.drops]
      simp only [List.mem_cons, hc, false_or]
  have fresh : ds.contains d = false := Bool.eq_false_iff.mpr (mt List.contains_iff_mem.mp hd)
  have member (c : Drop) : (d :: ds).contains c = (c == d || ds.contains c) := List.contains_cons
  have gone (b : Bool) (x : Lane) : (x.goneIf b).owner = x.owner := by
    unfold Lane.goneIf
    split
    · exact x.ownerGone_under.owner
    · rfl
  cases hb : (r₀.drops[d]).beyond reach with
  | true =>
    rw [hb, if_pos rfl] at hr
    subst hr
    refine ⟨h.control, h.inFlight, h.monitor, drops, ?_, fun i hi => h.owed i (List.mem_of_mem_filter hi), fun n => ?_, fun c => ?_⟩
    · change r.orders.filter (fun o => o.target != some d) = _
      rw [h.orders, List.filter_filter]
      refine List.filter_congr fun o _ => ?_
      cases o.target with
      | none => rfl
      | some c =>
        rw [Option.any_some, Option.any_some, member]
        by_cases hc : c = d
        · subst hc
          have shed : (r₀.drops[c]).sheds reach o = true := by rw [DropEntry.sheds, hb, Bool.true_or]
          simp [shed, -Fin.getElem_fin]
        · rw [show (some c != some d) = true by simpa using hc, Bool.true_and, beq_eq_false_iff_ne.mpr hc, Bool.false_or]
    · change (lanesFor d Lane.ownerGone r.lanes)[n] = _
      rw [lanesFor_get, h.lanes, Option.map_map]
      refine congrArg (fun f => Option.map f r₀.lanes[n]) (funext fun x => ?_)
      rw [Function.comp_apply, gone, member]
      by_cases hx : x.owner = d
      · subst hx
        rw [if_pos rfl, fresh, hb, Bool.false_and, beq_self_eq_true]
        rfl
      · rw [if_neg hx, beq_eq_false_iff_ne.mpr hx, Bool.false_or]
    · change (r.meters.set d.val (r.meters[d].map Meter.outaged))[c] = _
      rw [get_set, member]
      by_cases hc : c = d
      · subst hc
        rw [if_pos rfl, h.meters, fresh, hb, Bool.false_and, beq_self_eq_true, Option.map_map]
        rfl
      · rw [if_neg hc, h.meters, beq_eq_false_iff_ne.mpr hc, Bool.false_or]
  | false =>
    rw [hb, if_neg Bool.false_ne_true] at hr
    subst hr
    have kept (c : Drop) : ((d :: ds).contains c && (r₀.drops[c]).beyond reach) = (ds.contains c && (r₀.drops[c]).beyond reach) := by
      rw [member]
      by_cases hc : c = d
      · subst hc
        rw [hb, Bool.and_false, Bool.and_false]
      · rw [beq_eq_false_iff_ne.mpr hc, Bool.false_or]
    refine ⟨h.control, h.inFlight, h.monitor, drops, ?_, h.owed, fun n => ?_, fun c => ?_⟩
    · change r.orders.filter _ = _
      rw [h.orders, List.filter_filter]
      refine List.filter_congr fun o _ => ?_
      cases o.target with
      | none => rfl
      | some c =>
        rw [Option.any_some, Option.any_some, member]
        by_cases hc : c = d
        · subst hc
          simp [hd, -Fin.getElem_fin]
        · rw [show (some c == some d) = false by simpa using hc, beq_eq_false_iff_ne.mpr hc, Bool.false_and, Bool.not_false, Bool.true_and,
            Bool.false_or]
    · simp only [kept]
      exact h.lanes n
    · rw [kept]
      exact h.meters c

end LegRecord.Reached

/-- The entries of a list changed one after another. -/
theorem Work.reachDrops_reached {l : Leg} {reach : Nat} {delta : Int} {r₀ : LegRecord} (hq : r₀.monitor.state.searching = false)
    (ds : List Drop) : ∀ (done : List Drop) (w : Work), ds.Nodup → (∀ d ∈ ds, d ∉ done) →
    r₀.Reached reach delta w.stamp done (w.leg l) → ∃ all : List Drop, (∀ d, d ∈ all ↔ d ∈ ds ∨ d ∈ done) ∧
      r₀.Reached reach delta w.stamp all ((forDrops ds (fun d w => w.reachDrop l reach delta d) w).leg l) ∧
      (forDrops ds (fun d w => w.reachDrop l reach delta d) w).stamp = w.stamp := by
  induction ds with
  | nil => exact fun done w _ _ h => ⟨done, fun d => by simp, h, rfl⟩
  | cons d ds ih =>
    intro done w hn hdone h
    obtain ⟨hd, hn⟩ := List.nodup_cons.mp hn
    have new : d ∉ done := hdone d List.mem_cons_self
    have entry : w.drop l d = r₀.drops[d] := (h.drops d).trans (if_neg new)
    have stamp : (w.reachDrop l reach delta d).stamp = w.stamp := Work.outside_stamp (w.reachDrop_outside l d reach delta)
    have leg := Work.reachDrop_leg (w := w) (l := l) (d := d) (reach := reach) (delta := delta) (by rw [h.monitor]; exact hq)
    rw [entry, h.control] at leg
    obtain ⟨all, mem, reached, last⟩ := ih (d :: done) (w.reachDrop l reach delta d) hn
      (fun c hc hcd => (List.mem_cons.mp hcd).elim (fun e => hd (e ▸ hc)) (hdone c (List.mem_cons_of_mem _ hc)))
      (by rw [stamp]; exact h.step new leg)
    rw [stamp] at reached
    refine ⟨all, fun c => ?_, reached, last.trans stamp⟩
    rw [mem, List.mem_cons, List.mem_cons]
    tauto

/-! ### The change of the leg (R77, R78) -/

/-- The drops a change of reach makes LOST (R76). -/
def LegRecord.lostByReach (r : LegRecord) (reach : Nat) : List Drop := r.dropsWhere fun e => e.beyond reach

theorem LegRecord.mem_lostByReach {r : LegRecord} {reach : Nat} {d : Drop} : d ∈ r.lostByReach reach ↔ (r.drops[d]).beyond reach = true := by
  rw [LegRecord.lostByReach, LegRecord.dropsWhere, List.mem_filter]
  exact ⟨And.right, fun h => ⟨List.mem_finRange d, h⟩⟩

/-- A leg with a new reach span stored: its SET_DELAYs are owed no more, its maps in flight marked. -/
def LegRecord.respanned (r : LegRecord) (reach : Nat) : LegRecord :=
  { r with
    control := { r.control with settings := { r.control.settings with reach := reach } }
    owed := r.owed.filter fun i => i.kind != .setDelay
    inFlight := r.inFlight.map fun m => { m with reachChanged := true } }

theorem Work.changeReach_leg {w : Work} {l : Leg} {reach : Nat} {delta : Int} (hq : (w.leg l).monitor.state.searching = false) :
    ∃ (all : List Drop) (r : LegRecord), (∀ d, d ∈ all) ∧ ((w.leg l).respanned reach).Reached reach delta w.stamp all r ∧
      (w.changeReach l reach delta).leg l =
        { r with
          orders := r.orders ++ [.queued (.shiftDelay delta w.stamp.round) none]
          control := { r.control with state := .retiming, cause := none, roundsLeft := 4 }
          monitor := { r.monitor with span := none, owedLearning := r.monitor.span.any Span.learning } } := by
  obtain ⟨v, hv⟩ : ∃ v, v = w.mapLeg l fun r => r.respanned reach := ⟨_, rfl⟩
  have vleg : v.leg l = (w.leg l).respanned reach := by rw [hv, Work.leg_mapLeg_self]
  have vstamp : v.stamp = w.stamp := by rw [hv]; rfl
  obtain ⟨all, mem, reached, stamp⟩ := Work.reachDrops_reached (l := l) (reach := reach) (delta := delta)
    (r₀ := (w.leg l).respanned reach) hq allDrops [] v (List.nodup_finRange 128) (fun _ _ => List.not_mem_nil) (by rw [vleg]; exact .nil)
  rw [vstamp] at reached stamp
  refine ⟨all, _, fun d => (mem d).mpr (.inl (List.mem_finRange d)), reached, ?_⟩
  unfold Work.changeReach
  dsimp only
  rw [show (w.mapLeg l fun r => { r with
      control := { r.control with settings := { r.control.settings with reach := reach } }
      owed := r.owed.filter fun i => i.kind != .setDelay
      inFlight := r.inFlight.map fun m => { m with reachChanged := true } }) = v from hv.symm, stamp]
  generalize forDrops allDrops (fun d w => w.reachDrop l reach delta d) v = u
  rw [Work.abandonSpan, Work.mapMonitor_eq, Work.leg_mapLeg_self, Work.setLeg_eq, Work.raise_leg, Work.leg_mapLeg_self,
    Work.queueOrder_eq, Work.leg_mapLeg_self]

/-! ### The request (R76) -/

theorem LegRecord.outOfReach_eq (r : LegRecord) (reach : Nat) : r.outOfReach reach = (r.lostByReach reach).length := rfl

theorem DropEntry.beyond_iff (e : DropEntry) (reach : Nat) : e.beyond reach = true ↔
    (e.state = .trimming ∨ e.state = .awaiting ∨ e.state = .serving ∨ e.state = .dormant) ∧ ∃ rtt, e.rtt = some rtt ∧ 8 * reach < rtt := by
  have heard : e.state.heard = true ↔ (e.state = .trimming ∨ e.state = .awaiting ∨ e.state = .serving ∨ e.state = .dormant) := by
    cases e.state <;> simp [DropState.heard]
  rw [DropEntry.beyond, Bool.and_eq_true, heard, Option.any_eq_true]
  simp only [decide_eq_true_eq, gt_iff_lt]

/-- Where SET_REACH comes in R76's order of refusals. -/
theorem runRequest_setReach {leg : Byte} {reach : BitVec 16} {l : Leg} (p : Port) (w : Work) (hl : toLeg? leg = some l)
    (hin : 625 ≤ reach.toNat ∧ reach.toNat ≤ 6250) : runRequest (.setReach leg reach) p w =
      if (w.leg l).control.state != .on || (w.leg l).monitor.state.searching then .refuse .busy p w
      else if reach.toNat = (w.leg l).control.settings.reach then .ok (.setReach 0 0) p w
      else if !(fixedLimitsHold (w.leg l).lanes reach.toNat) then .refuse .ceiling p w
      else if !(urgentRoom (w.leg l).orders) then .refuse .queueFull p w
      else .ok (.setReach (8 * ((reach.toNat : Int) - (w.leg l).control.settings.reach)) ((w.leg l).outOfReach reach.toNat)) p
        (w.changeReach l reach.toNat (8 * ((reach.toNat : Int) - (w.leg l).control.settings.reach))) := by
  rw [runRequest, doSetReach, onLeg_of_some hl]
  exact if_neg (by simp [reachInRange, hin])

/-- Settles O23: the entries by `reachDrops_reached`, the leg by `changeReach_leg`. -/
theorem setReachStartsRetiming : Obligations.SetReachStartsRetiming := by
  refine ⟨fun tag leg reach l s hl ht hlow hhigh hon hq hnew hfit hroom => ?_, fun tag leg reach s ht => ⟨fun hout => ?_,
    fun l hl hlow hhigh => ⟨fun hbusy => ?_, fun hon hq => ⟨fun hsame => ?_, fun hnew => ⟨fun hfit => ?_, fun hfit hroom => ?_⟩⟩⟩⟩⟩
  · intro delta
    have busy : ¬((s.leg l).control.state != .on || (s.leg l).monitor.state.searching) = true := by simp [hon, hq]
    have ran : exec (.setReach tag leg reach) s = .next _ := exec_answered (c := .setReach tag leg reach) (q := .setReach leg reach)
      (body := .setReach delta ((s.leg l).lostByReach reach.toNat).length)
      (w := (Work.start s.blocks).changeReach l reach.toNat delta) rfl ht (by
        rw [runRequest_setReach _ _ hl ⟨hlow, hhigh⟩, Work.leg_start, if_neg busy, if_neg hnew, if_neg (by rw [hfit]; exact Bool.false_ne_true),
          if_neg (by simpa [urgentRoom] using hroom)]
        rfl)
    obtain ⟨all, r, hall, reached, leg⟩ := Work.changeReach_leg (w := Work.start s.blocks) (l := l) (reach := reach.toNat) (delta := delta) hq
    have outside := (Work.start s.blocks).changeReach_outside l reach.toNat delta
    generalize (Work.start s.blocks).changeReach l reach.toNat delta = w at ran leg outside
    have member (d : Drop) : all.contains d = true := List.contains_iff_mem.mpr (hall d)
    have entry (d : Drop) : w.drop l d = (s.drop l d).reached reach.toNat delta ((s.leg l).control.settings.lostHold * 4096) s.now := by
      rw [Work.drop, leg]
      exact (reached.drops d).trans (if_pos (hall d))
    refine ⟨_, (s.leg l).lostByReach reach.toNat, ran, List.Nodup.filter _ (List.nodup_finRange 128), fun d => ?_, ?_, ?_, ?_, fun i hi => ?_, ?_, ?_,
      fun d hd => ?_, fun d hh hd => ?_, fun d hm => ?_, fun d hh hm => ?_, fun k hk => ?_⟩
    · rw [LegRecord.mem_lostByReach]
      exact DropEntry.beyond_iff _ _
    · refine placeAll_reply _ ?_
      exact List.getElem?_concat_length
    · change (w.leg l).control = _
      rw [leg, reached.control]
      rfl
    · change (w.leg l).orders = _
      rw [leg]
      refine congrArg (fun q => q ++ [OrderEntry.queued (.shiftDelay delta s.blocks.time.round) none]) (reached.orders.trans ?_)
      refine List.filter_congr fun o _ => congrArg (fun b => !b) ?_
      cases o.target with
      | none => rfl
      | some c =>
        rw [Option.any_some, Option.any_some, member, Bool.true_and, DropEntry.sheds]
        congr 1
        rw [Bool.eq_iff_iff, List.contains_iff_mem, LegRecord.mem_lostByReach]
        rfl
    · change i ∈ (w.leg l).owed at hi
      rw [leg] at hi
      have := (List.mem_filter.mp (reached.owed i hi)).2
      simpa using this
    · change (w.leg l).monitor.span = none
      rw [leg]
    · change (w.leg l).inFlight = _
      rw [leg]
      exact reached.inFlight
    · have beyond : (s.drop l d).beyond reach.toNat = true := LegRecord.mem_lostByReach.mp hd
      have own : w.drop l d = (s.drop l d).lostAt .outOfReach ((s.leg l).control.settings.lostHold * 4096) s.now := by
        rw [entry, DropEntry.reached, if_pos beyond]
      refine ⟨congrArg DropEntry.state own, congrArg DropEntry.reason own, congrArg DropEntry.since own, congrArg DropEntry.hold own,
        (congrArg DropEntry.rtt own).trans rfl, (congrArg DropEntry.eqd own).trans rfl, fun n x hx ho => ?_, fun y hy => ?_⟩
      · change (w.leg l).lanes[n] = some x at hx
        rw [leg] at hx
        obtain ⟨z, hz, rfl⟩ := Option.map_eq_some_iff.mp ((reached.lanes n).symm.trans hx)
        have owner : z.owner = d := by
          rw [← ho]
          unfold Lane.goneIf
          split
          · exact z.ownerGone_under.owner.symm
          · rfl
        subst owner
        have lost : (all.contains z.owner && ((s.leg l).drops[z.owner]).beyond reach.toNat) = true := by
          rw [member, Bool.true_and]
          exact beyond
        change (z.goneIf (all.contains z.owner && ((s.leg l).drops[z.owner]).beyond reach.toNat)).state = _ ∧
          ∀ c, (z.goneIf (all.contains z.owner && ((s.leg l).drops[z.owner]).beyond reach.toNat)).credit = _ → _
        rw [lost]
        exact z.ownerGone_gone
      · change (w.leg l).meters[d] = _
        rw [leg]
        refine (reached.meters d).trans ?_
        change ((s.leg l).meters[d]).map (Meter.outagedIf (all.contains d && ((s.leg l).drops[d]).beyond reach.toNat)) = _
        rw [member, Bool.true_and, show ((s.leg l).drops[d]).beyond reach.toNat = true from beyond, show (s.leg l).meters[d] = some y from hy]
        rfl
    · have near : ¬(s.drop l d).beyond reach.toNat = true := fun h => hd (LegRecord.mem_lostByReach.mpr h)
      change w.drop l d = _
      rw [entry, DropEntry.reached, if_neg near, if_pos hh]
      refine congrArg (fun q => { s.drop l d with eqd := q }) ?_
      cases (s.drop l d).eqd <;> rfl
    · have unheard : (s.drop l d).state.heard = false := by rw [hm]; rfl
      change w.drop l d = _
      rw [entry, DropEntry.reached, DropEntry.beyond, unheard, Bool.false_and, if_neg Bool.false_ne_true, if_neg Bool.false_ne_true, if_pos hm]
    · change w.drop l d = _
      rw [entry, DropEntry.reached, DropEntry.beyond, hh, Bool.false_and, if_neg Bool.false_ne_true, if_neg Bool.false_ne_true, if_neg hm]
    · exact Work.outside_leg outside hk
  · refine exec_refused (c := .setReach tag leg reach) (q := .setReach leg reach) rfl ht ?_
    rw [runRequest, doSetReach]
    by_cases hleg : 3 < leg.toNat
    · exact onLeg_range hleg
    · obtain ⟨l, hl⟩ : ∃ l, toLeg? leg = some l := ⟨_, dif_pos (by omega)⟩
      rw [onLeg_of_some hl]
      refine if_pos ?_
      simp only [reachInRange, Bool.not_eq_true', Bool.and_eq_false_iff, decide_eq_false_iff_not]
      omega
  · refine exec_refused (c := .setReach tag leg reach) (q := .setReach leg reach) rfl ht ?_
    rw [runRequest_setReach _ _ hl ⟨hlow, hhigh⟩]
    refine if_pos ?_
    simpa using hbusy
  · have free : ¬((s.leg l).control.state != .on || (s.leg l).monitor.state.searching) = true := by simp [hon, hq]
    refine exec_answered (c := .setReach tag leg reach) (q := .setReach leg reach) (w := Work.start s.blocks) rfl ht ?_
    rw [runRequest_setReach _ _ hl ⟨hlow, hhigh⟩, Work.leg_start, if_neg free, if_pos hsame]
  · have free : ¬((s.leg l).control.state != .on || (s.leg l).monitor.state.searching) = true := by simp [hon, hq]
    refine exec_refused (c := .setReach tag leg reach) (q := .setReach leg reach) rfl ht ?_
    rw [runRequest_setReach _ _ hl ⟨hlow, hhigh⟩, Work.leg_start, if_neg free, if_neg hnew, if_pos (by rw [hfit]; rfl)]
  · have free : ¬((s.leg l).control.state != .on || (s.leg l).monitor.state.searching) = true := by simp [hon, hq]
    refine exec_refused (c := .setReach tag leg reach) (q := .setReach leg reach) rfl ht ?_
    rw [runRequest_setReach _ _ hl ⟨hlow, hhigh⟩, Work.leg_start, if_neg free, if_neg hnew, if_neg (by rw [hfit]; exact Bool.false_ne_true),
      if_pos (by simpa [urgentRoom] using hroom)]

end Sys2Proof.Machine
end

section
set_option Elab.async false -- one theorem after another: side by side they ask for more threads than the check's memory limit grants
/-! PROOFS. The expiry of a lost hold as a command of its own (R33, log 2). -/

namespace Sys2Proof.Machine

/-! ### The lost hold of an entry -/

theorem DropEntry.lostHold_of_lost {e : DropEntry} {n : Nat} (h : e.state = .lost) (hn : e.hold = some n) : e.lostHold = some n := by
  simp [DropEntry.lostHold, h, hn]

theorem DropEntry.lostHold_of_hushed {e : DropEntry} {b : Resume} {n : Nat} (h : e.state = .hushed) (hb : e.resume = some b)
    (hs : b.state = .lost) (hn : b.hold = some n) : e.lostHold = some n := by
  simp [DropEntry.lostHold, h, hb, hs, hn]

/-- An entry with a lost hold is LOST, or HUSHED with resume state LOST. -/
theorem DropEntry.lostHold_iff {e : DropEntry} {n : Nat} : e.lostHold = some n ↔
    e.state = .lost ∧ e.hold = some n ∨ e.state = .hushed ∧ ∃ b, e.resume = some b ∧ b.state = .lost ∧ b.hold = some n := by
  constructor
  · intro h
    unfold DropEntry.lostHold at h
    split at h
    · next _ hs => exact .inl ⟨hs, h⟩
    · next b hs hb =>
      split at h
      · next hl => exact .inr ⟨hs, b, hb, hl, h⟩
      · cases h
    · cases h
  · rintro (⟨hs, hn⟩ | ⟨hs, b, hb, hl, hn⟩)
    · exact DropEntry.lostHold_of_lost hs hn
    · exact DropEntry.lostHold_of_hushed hs hb hl hn

theorem DropEntry.in_use_of_lostHold {e : DropEntry} {n : Nat} (h : e.lostHold = some n) : e.state.resting = false := by
  rcases DropEntry.lostHold_iff.mp h with ⟨hs, -⟩ | ⟨hs, -⟩ <;> rw [hs] <;> rfl

/-- The expiry of a hold of one round is a retirement. -/
theorem Work.holdExpires_eq {w : Work} {l : Leg} {d : Drop} {n : Nat} (h : (w.drop l d).lostHold = some n) (hn : n ≤ 1) :
    w.holdExpires l d = w.retire l d .holdExpired := by
  unfold Work.holdExpires
  dsimp only
  refine if_pos ?_
  rcases DropEntry.lostHold_iff.mp h with ⟨hs, hh⟩ | ⟨hs, b, hb, hl, hh⟩
  · simp [hs, hh, hn]
  · simp [hs, hb, hl, hh, hn]

theorem exec_lostHoldExpiry {l : Leg} {d : Drop} {s : State} {n : Nat} (hp : s.blocks.time.part = .ready)
    (h : (s.drop l d).lostHold = some n) (hn : n ≤ 1) :
    exec (.lostHoldExpiry l d) s = .next (boundaryEvent (fun w => w.retire l d .holdExpired) s) := by
  have taken : exec (.lostHoldExpiry l d) s = .next (boundaryEvent (fun w => w.holdExpires l d) s) := congrArg Host.Outcome.next (if_pos hp)
  rw [taken, boundaryEvent, boundaryEvent, Work.holdExpires_eq (w := Work.atNextBoundary s.blocks) h hn]

/-- What the expiry of a lost hold leaves, given as a command before its boundary. -/
theorem lostHoldExpiry_retires {l : Leg} {d : Drop} {n : Nat} {s : State} (hp : s.blocks.time.part = .ready)
    (h : (s.drop l d).lostHold = some n) (hn : n ≤ 1) : ∃ t, exec (.lostHoldExpiry l d) s = .next t ∧
      (∀ k x, (t.leg l).lanes[(k : Fin 256)] = some x → x.owner ≠ d) ∧
      (∀ e ∈ (t.leg l).orders, e.target ≠ some d) ∧ (∀ i ∈ (t.leg l).owed, i.drop ≠ d) ∧
      (∀ k : Leg, k ≠ l → t.leg k = s.leg k) ∧ SearchLeft s t l d s.boundary ∧
      ((s.leg l).monitor.state.searching = false → ∀ c : Drop, c ≠ d → t.drop l c = s.drop l c) ∧
      (spareMeter (s.meter l d) → t.drop l d = DropEntry.vacant s.boundary ∧ t.meter l d = none ∧ t.blocks.journal = s.blocks.journal) ∧
      (∀ m, s.meter l d = some m → m.pending = none → m.usage = true →
        (s.blocks.journal.room = true →
          t.drop l d = DropEntry.vacant s.boundary ∧ t.meter l d = none ∧
          t.blocks.journal.entries = s.blocks.journal.entries ++
            [(Work.atNextBoundary s.blocks).entryFor l d m .retire]) ∧
        (s.blocks.journal.room = false →
          t.drop l d = (s.drop l d).retired .holdExpired s.boundary ∧ t.blocks.journal = s.blocks.journal ∧
          t.meter l d = some (m.heldFor .retire s.boundary))) ∧
      (∀ m was at', s.meter l d = some m → m.pending = some (was, at') → was = .period ∨ was = .host → m.usage = true →
        t.drop l d = (s.drop l d).retired .holdExpired s.boundary ∧
        t.blocks.journal = s.blocks.journal ∧ t.meter l d = some { m with pending := some (.retire, at') }) := by
  obtain ⟨r₁, retired⟩ := (Work.atNextBoundary s.blocks).retire_retiredAs l d .holdExpired (DropEntry.in_use_of_lostHold h)
  have outside := (Work.atNextBoundary s.blocks).retire_outside l d .holdExpired
  refine ⟨_, exec_lostHoldExpiry hp h hn, ?_⟩
  unfold boundaryEvent
  dsimp only
  generalize (Work.atNextBoundary s.blocks).retire l d .holdExpired = w at retired outside
  refine ⟨retired.no_lanes, fun e he => ?_, retired.owed, fun k hk => Work.outside_leg outside hk, ?_, fun hm c hc => ?_,
    retired.spare, fun m hm hpe hu => ⟨retired.written hm hpe hu, retired.held hm hpe hu⟩,
    fun m was at' hm hpe hw hu => retired.reheld hm hpe hw hu⟩
  · refine retired.left.no_orders e ?_
    rw [← retired.orders]
    exact he
  · exact retired.left.searchLeft rfl (fun _ _ => rfl) retired.monitor retired.others
  · exact (retired.others c hc).trans ((retired.left.goesOn (Monitor.endsWithout_of_not_searching hm)).1 c hc)

end Sys2Proof.Machine
end

section
set_option Elab.async false -- one theorem after another: side by side they ask for more threads than the check's memory limit grants
/-! PROOFS. One drop that a boundary's other work lets be: a LOST entry, one HUSHED from LOST, or one that has retired. One lemma per
operation, in the order of the model's definitions. -/

namespace Sys2Proof.Machine

/-- What is claimed of a drop while the rest of a boundary does its work: its entry, what its monitor may ask for, whether a search may be under
way, whether the drop has retired, and its meter. -/
structure Watch where
  /-- The entry of the drop. -/
  entry : DropEntry → Prop
  /-- What the monitor may ask for. -/
  asks : MonitorAsk → Prop
  /-- No search is under way. -/
  quiet : Prop
  /-- The drop has retired: it holds no lane, no order and no place in a search. -/
  gone : Prop
  /-- The meter of the drop stays. -/
  still : Prop
  /-- That meter. -/
  meter : Option Meter

/-- A leg on which a drop holds no lane, no order and no place in a search. -/
structure LegRecord.Without (d : Drop) (r : LegRecord) : Prop where
  lanes : ∀ (n : Fin 256) x, r.lanes[n] = some x → x.owner ≠ d
  orders : ∀ e ∈ r.orders, e.target ≠ some d
  owed : ∀ i ∈ r.owed, i.drop ≠ d
  hunting : ∀ cs, r.monitor.state = .hunting → r.monitor.candidates = some cs → d ∉ cs
  verifying : r.monitor.state = .verifying → r.monitor.suspectDrop ≠ some d

/-- A leg on which the claim `q` of drop `d` holds. -/
structure LegRecord.Watched (q : Watch) (d : Drop) (r : LegRecord) : Prop where
  entry : q.entry r.drops[d]
  asks : ∀ a ∈ r.monitor.asks, q.asks a
  quiet : q.quiet → r.monitor.state.searching = false
  gone : q.gone → r.Without d
  meter : q.still → r.meters[d] = q.meter

/-- An entry that nothing but its hold, a hush and the end of a hush moves. -/
def DropEntry.Asleep (e : DropEntry) : Prop :=
  e.state = .lost ∨ e.state.resting = true ∨ e.state = .hushed ∧ ∃ b, e.resume = some b ∧ b.state = .lost

/-- An entry that a HUSH_SET made HUSHED (R144). -/
def DropEntry.hushedAt (e : DropEntry) (t : Stamp) : DropEntry :=
  { e with state := .hushed, since := t, resume := some e.resumeOf, hold := none, reason := none }

/-- A claim that the rest of a boundary keeps. -/
structure Watch.Sound (q : Watch) (d : Drop) : Prop where
  asleep : ∀ e, q.entry e → e.Asleep
  resting : q.gone → ∀ e, q.entry e → e.state.resting = true
  returned : ¬q.quiet → ∀ e b t, q.entry e → e.state = .hushed → e.resume = some b → q.entry (e.returned b t)
  hushed : ∀ set n e t, q.asks (.stepHush set n) → d ∈ set → q.entry e → e.state = .lost → q.entry (e.hushedAt t)
  unhush : ¬q.quiet → q.asks .unhush
  askQuiet : ∀ a, q.asks a → ¬q.quiet
  mute : q.gone → ¬q.asks (.mute d)
  nextEcho : ¬q.gone → ∀ e n, q.entry e → q.entry { e with nextEcho := n }
  buildStarts : ∀ e, q.entry e → q.entry e.buildStarts
  buildEnds : ∀ e, q.entry e → q.entry e.buildEnds

theorem DropEntry.Asleep.not_heard {e : DropEntry} (h : e.Asleep) :
    e.state ≠ .found ∧ e.state ≠ .ranging ∧ e.state ≠ .trimming ∧ e.state ≠ .awaiting ∧ e.state ≠ .serving ∧ e.state ≠ .dormant := by
  rcases h with h | h | ⟨h, -⟩
  · simp [h]
  · refine ⟨?_, ?_, ?_, ?_, ?_, ?_⟩ <;> rintro hs <;> rw [hs] at h <;> cases h
  · simp [h]

/-- An order that fails for a sleeping drop leaves it as it is (R52). -/
theorem failOutcome_of_asleep {o : OrderEntry} {e : DropEntry} (h : e.Asleep) : failOutcome o e = .unchanged := by
  obtain ⟨h1, h2, h3, h4, h5, h6⟩ := h.not_heard
  unfold failOutcome
  split <;> simp [h1, h3, h4, h5, h6]

/-- What a change of a leg's record lets be of drop `d`. -/
structure LegRecord.Spares (q : Watch) (d : Drop) (r r' : LegRecord) : Prop where
  entry : q.entry r.drops[d] → q.entry r'.drops[d] := by exact id
  asks : ∀ a ∈ r'.monitor.asks, a ∈ r.monitor.asks ∨ q.asks a := by exact fun _ h => .inl h
  quiet : q.quiet → r.monitor.state.searching = false → r'.monitor.state.searching = false := by exact fun _ h => h
  meter : q.still → r'.meters[d] = r.meters[d] := by exact fun _ => rfl
  lanes : ∀ (n : Fin 256) y, r'.lanes[n] = some y → y.owner = d → ∃ (k : Fin 256) (x : Lane), r.lanes[k] = some x ∧ x.owner = d := by
    exact fun n y hy ho => ⟨n, y, hy, ho⟩
  orders : q.gone → ∀ e ∈ r'.orders, e.target = some d → ∃ x ∈ r.orders, x.target = some d := by exact fun _ e he ht => ⟨e, he, ht⟩
  owed : q.gone → ∀ i ∈ r'.owed, i.drop = d → ∃ x ∈ r.owed, x.drop = d := by exact fun _ i hi hd => ⟨i, hi, hd⟩
  hunting : ∀ cs, r'.monitor.state = .hunting → r'.monitor.candidates = some cs → d ∈ cs →
    r.monitor.state = .hunting ∧ ∃ cs', r.monitor.candidates = some cs' ∧ d ∈ cs' := by exact fun cs h hc hd => ⟨h, cs, hc, hd⟩
  verifying : r'.monitor.state = .verifying → r'.monitor.suspectDrop = some d →
    r.monitor.state = .verifying ∧ r.monitor.suspectDrop = some d := by exact fun h hd => ⟨h, hd⟩

theorem LegRecord.Watched.spared {q : Watch} {d : Drop} {r r' : LegRecord} (h : r.Watched q d) (k : r.Spares q d r') : r'.Watched q d where
  entry := k.entry h.entry
  asks a ha := (k.asks a ha).elim (h.asks a) id
  quiet hq := k.quiet hq (h.quiet hq)
  gone hg := by
    have g := h.gone hg
    refine ⟨fun n x hx ho => ?_, fun e he ht => ?_, fun i hi hd => ?_, fun cs hs hc hd => ?_, fun hs hd => ?_⟩
    · obtain ⟨m, y, hy, ho⟩ := k.lanes n x hx ho
      exact g.lanes m y hy ho
    · obtain ⟨x, hx, ht⟩ := k.orders hg e he ht
      exact g.orders x hx ht
    · obtain ⟨x, hx, hd⟩ := k.owed hg i hi hd
      exact g.owed x hx hd
    · obtain ⟨hs, cs', hc, hd⟩ := k.hunting cs hs hc hd
      exact g.hunting cs' hs hc hd
    · obtain ⟨hs, hd⟩ := k.verifying hs hd
      exact g.verifying hs hd
  meter hs := (k.meter hs).trans (h.meter hs)

/-- A table whose lanes stand under those of another holds no other owner's. -/
theorem LanesUnder.owned {t t' : Vector (Option Lane) 256} (h : LanesUnder t' t) {d : Drop} (n : Fin 256) (y : Lane) (hy : t'[n] = some y)
    (ho : y.owner = d) : ∃ (k : Fin 256) (x : Lane), t[k] = some x ∧ x.owner = d := by
  obtain ⟨x, hx, hyx⟩ := h n y hy
  exact ⟨n, x, hx, hyx.owner ▸ ho⟩

/-! ### The lanes of a build -/

theorem Build.refuse_lanes (b : Build) (d : Drop) : (b.refuse d).lanes = b.lanes := by
  unfold Build.refuse
  split <;> rfl

section
variable (b : Build) (r : LegRecord)

theorem Build.stage1_lanes : (b.stage1 r).lanes = b.lanes := by rw [Build.stage1_eq]

theorem Build.stage2_lanes (k : Nat) : (b.stage2 r k).lanes = b.lanes := by
  unfold Build.stage2
  refine List.foldlRecOn _ _ (motive := fun x : Build => x.lanes = b.lanes) rfl fun x hx d _ => ?_
  split
  · exact hx
  · exact hx

/-- A grant in full, a short one, or a refusal. -/
theorem Build.lanes_of_taken {p p' : Prop} [Decidable p] [Decidable p'] {full short : Build} {d : Drop} (hf : LanesUnder full.lanes b.lanes)
    (hs : LanesUnder short.lanes b.lanes) : LanesUnder (if p then full else if p' then short.refuse d else b.refuse d).lanes b.lanes := by
  split
  · exact hf
  · split
    · rw [Build.refuse_lanes]
      exact hs
    · rw [Build.refuse_lanes]
      exact .refl _

theorem Build.assured_lanes (n : Fin 256) : LanesUnder (b.assured n).lanes b.lanes := by
  have spent (beats : Nat) : LanesUnder (spendCredit b.lanes n beats) b.lanes := spendCredit_under _ n beats
  unfold Build.assured
  split
  · exact .refl _
  · split
    · dsimp only
      split
      · exact .refl _
      · split
        · rw [Build.refuse_lanes]
          exact .refl _
        · split
          · exact b.lanes_of_taken (spent _) (spent _)
          · exact b.lanes_of_taken (spent _) (spent _)
    · exact .refl _

theorem Build.stage3_lanes : LanesUnder (b.stage3 r).lanes b.lanes := by
  have accrued : LanesUnder (b.lanes.map fun o => o.map fun x => x.accrue r) b.lanes := .map _ fun x => x.accrue_under r
  unfold Build.stage3
  refine List.foldlRecOn _ _ (motive := fun x : Build => LanesUnder x.lanes b.lanes) accrued fun x hx d _ => ?_
  split
  · exact List.foldlRecOn _ _ (motive := fun x : Build => LanesUnder x.lanes b.lanes) hx fun x hx y _ => (x.assured_lanes y.1).trans hx
  · exact hx

theorem Build.stage4_lanes : (b.stage4 r).lanes = b.lanes := by
  unfold Build.stage4
  refine List.foldlRecOn _ _ (motive := fun x : Build => x.lanes = b.lanes) rfl fun x hx d _ => ?_
  split
  · split
    · exact hx
    · exact (x.refuse_lanes d).trans hx
  · exact hx

theorem Build.stage5_lanes (isOver : Drop → Bool) (before : List Drop) : (b.stage5 r isOver before).lanes = b.lanes := by
  unfold Build.stage5
  dsimp only
  refine List.foldlRecOn _ _ (motive := fun x : Build => x.lanes = b.lanes) ?_ fun x hx d _ => ?_
  · refine List.foldlRecOn _ _ (motive := fun x : Build => x.lanes = b.lanes) rfl fun x hx s _ => ?_
    split
    · exact hx
    · exact hx
  · split
    · exact hx
    · exact (x.refuse_lanes d).trans hx

end

/-- The lanes of a full build are those of the leg, their credits changed. -/
theorem fullMap_lanes (r : LegRecord) (isOver : Drop → Bool) (k : Stamp) (win : Option TailWindow) (ranging : Option RangingEntry) :
    LanesUnder (fullMap r isOver k win ranging).2.lanes r.lanes := by
  unfold fullMap buildGrants grantsToStage3
  dsimp only
  rw [Build.stage5_lanes, Build.stage4_lanes]
  have third := (((⟨r.lanes, 8000 - (win.map TailWindow.length).getD 0, [], [], []⟩ : Build).stage1 r).stage2 r k.round).stage3_lanes r
  rwa [Build.stage2_lanes, Build.stage1_lanes] at third

theorem LegRecord.afterBuild_lanes {r : LegRecord} {k : Stamp} {m : GrantMap} {b : Build} (h : LanesUnder b.lanes r.lanes) :
    LanesUnder (r.afterBuild k m b).lanes r.lanes := by
  refine LanesUnder.trans (fun n y hy => ?_) h
  unfold LegRecord.afterBuild at hy
  simp only [Fin.getElem_fin, Vector.getElem_ofFn, Fin.eta, Option.map_eq_some_iff] at hy
  obtain ⟨x, hx, rfl⟩ := hy
  refine ⟨x, hx, ?_⟩
  split
  · exact .of_eq rfl rfl
  · exact .refl x

/-! ### The operations -/

/-- The claim `q` of drop `d` holds on leg `l`. -/
structure Work.Watches (q : Watch) (l : Leg) (d : Drop) (w : Work) : Prop where
  leg : (w.leg l).Watched q d

namespace Work.Watches

variable {q : Watch} {l : Leg} {d c : Drop} {w : Work}

/-! ### Changes of the leg's record -/

theorem mapLeg {f : LegRecord → LegRecord} (h : w.Watches q l d) (hf : (w.leg l).Spares q d (f (w.leg l)) := by exact {}) :
    (w.mapLeg l f).Watches q l d := ⟨by rw [leg_mapLeg_self]; exact h.leg.spared hf⟩

theorem raise {a : Option Leg} {b : Option Drop} {n : NoticeBody} (h : w.Watches q l d) : (w.raise a b n).Watches q l d := ⟨h.leg⟩

/-- Another drop's entry changed. -/
theorem mapDrop {f : DropEntry → DropEntry} (h : w.Watches q l d) (hc : c ≠ d) : (w.mapDrop l c f).Watches q l d := by
  refine h.mapLeg { entry := fun he => ?_ }
  rw [get_set, if_neg hc.symm]
  exact he

/-- The drop's own entry changed within the claim. -/
theorem mapOwn {f : DropEntry → DropEntry} (h : w.Watches q l d) (hf : q.entry (w.drop l d) → q.entry (f (w.drop l d))) :
    (w.mapDrop l d f).Watches q l d := by
  refine h.mapLeg { entry := fun he => ?_ }
  rw [get_set, if_pos rfl]
  exact hf he

theorem setState {st : DropState} (h : w.Watches q l d) (hc : c ≠ d) : (w.setState l c st).Watches q l d := h.mapDrop hc

theorem setMeter {m : Option Meter} (h : w.Watches q l d) (hc : q.still → c ≠ d) : (w.setMeter l c m).Watches q l d := by
  rw [setMeter_eq]
  refine h.mapLeg { meter := fun hg => ?_ }
  rw [get_set, if_neg (hc hg).symm]

theorem mapLanesOf {f : Lane → Lane} (h : w.Watches q l d) (hf : ∀ x, (f x).Under x) : (w.mapLanesOf l c f).Watches q l d :=
  h.mapLeg
    { lanes := LanesUnder.owned (.map _ fun x => by
        split
        · exact hf x
        · exact .refl x) }

theorem mapMonitor {f : Monitor → Monitor} (h : w.Watches q l d) (hf : (w.leg l).Spares q d { w.leg l with monitor := f (w.leg l).monitor }) :
    (w.mapMonitor l f).Watches q l d := h.mapLeg hf

theorem mapStats {f : WindowStats → WindowStats} (h : w.Watches q l d) : (w.mapStats l f).Watches q l d := h.mapLeg

theorem foldl {α : Type} {xs : List α} {f : Work → α → Work} (h : w.Watches q l d)
    (hf : ∀ w, ∀ x ∈ xs, w.Watches q l d → (f w x).Watches q l d) : (xs.foldl f w).Watches q l d :=
  List.foldlRecOn xs f h fun _ hb x hx => hf _ x hx hb

theorem forDrops {ds : List Drop} {f : Drop → Work → Work} (h : w.Watches q l d)
    (hf : ∀ w, ∀ c ∈ ds, w.Watches q l d → (f c w).Watches q l d) : (Machine.forDrops ds f w).Watches q l d := h.foldl hf

/-! ### Orders and owed orders -/

theorem queueOrder {e : OrderEntry} (h : w.Watches q l d) (he : q.gone → e.target ≠ some d) : (w.queueOrder l e).Watches q l d :=
  h.mapLeg
    { orders := fun hg x hx ht => by
        rcases List.mem_append.mp hx with hx | hx
        · exact ⟨x, hx, ht⟩
        · rw [List.mem_singleton.mp hx] at ht
          exact absurd ht (he hg) }

theorem filterOrders {p : OrderEntry → Bool} (h : w.Watches q l d) :
    (w.mapLeg l fun r => { r with orders := r.orders.filter p }).Watches q l d :=
  h.mapLeg { orders := fun _ x hx ht => ⟨x, List.mem_of_mem_filter hx, ht⟩ }

theorem removeOrders {k : OrderKind} (h : w.Watches q l d) : (w.removeOrders l c k).Watches q l d := h.filterOrders

theorem purge (h : w.Watches q l d) : (w.purge l c).Watches q l d :=
  h.mapLeg
    { orders := fun _ x hx ht => ⟨x, List.mem_of_mem_filter hx, ht⟩
      owed := fun _ x hx ht => ⟨x, List.mem_of_mem_filter hx, ht⟩
      asks := fun _ ha => .inl (List.mem_of_mem_filter ha) }

theorem generate {k : OwedKind} (h : w.Watches q l d) (hc : q.gone → c ≠ d) : (w.generate l c k).Watches q l d := by
  unfold Work.generate
  split
  · exact h
  · split
    · exact h.queueOrder fun hg ht => hc hg (Option.some.inj ht)
    · split
      · exact h
      · exact h.mapLeg
          { owed := fun hg i hi hd => by
              rcases List.mem_append.mp hi with hi | hi
              · exact ⟨i, hi, hd⟩
              · rw [List.mem_singleton.mp hi] at hd
                exact absurd hd (hc hg) }

/-! ### Meters and the journal -/

theorem outage (h : w.Watches q l d) (hc : c ≠ d) : (w.outage l c).Watches q l d := by
  unfold Work.outage
  split
  · exact h
  · exact h.setMeter fun _ => hc

theorem openMeter (h : w.Watches q l d) (hc : c ≠ d) : (w.openMeter l c).Watches q l d := by
  unfold Work.openMeter
  split
  · exact h.setMeter fun _ => hc
  · exact h

theorem shedBytes {n : Nat} (h : w.Watches q l d) (hc : q.still → c ≠ d) : (w.shedBytes l c n).Watches q l d := by
  unfold Work.shedBytes
  split
  · exact h
  · exact h.setMeter hc

theorem judgeQuota (h : w.Watches q l d) (hc : q.still → c ≠ d) : (w.judgeQuota l c).Watches q l d := by
  unfold Work.judgeQuota
  split
  · exact h
  · split
    · exact h
    · split
      · exact (h.setMeter hc).raise
      · exact h

theorem charge {up : Bool} {n : Nat} {b : Fin 4} (h : w.Watches q l d) (hc : q.still → c ≠ d) : (w.charge l c up n b).Watches q l d := by
  unfold Work.charge
  split
  · exact h
  · exact (h.setMeter hc).judgeQuota hc

theorem closeMeter {k : CloseCause} (h : w.Watches q l d) (hc : c ≠ d) : (w.closeMeter l c k).1.Watches q l d := by
  refine ⟨?_⟩
  rw [(w.closeMeter_spec l c k).leg]
  refine h.leg.spared { meter := fun _ => ?_ }
  rw [get_set, if_neg hc.symm]

/-! ### Vacancy and service -/

theorem drained (h : w.Watches q l d) : (w.drained l).Watches q l d := by
  unfold Work.drained
  split
  · rw [setLeg_eq]
    exact h.mapLeg.raise
  · exact h

theorem vacate (h : w.Watches q l d) (hc : c ≠ d) : (w.vacate l c).Watches q l d := by
  have unbound : (w.unbound l c).Watches q l d := ⟨by rw [unbound_leg]; exact h.leg⟩
  rw [vacate_eq]
  refine ((unbound.mapLeg ?_).raise).drained
  exact {
    entry := fun he => by
      simp only [LegRecord.vacated, get_set, if_neg hc.symm]
      exact he
    owed := fun _ x hx ht => ⟨x, List.mem_of_mem_filter hx, ht⟩ }

theorem toServing (h : w.Watches q l d) (hc : c ≠ d) : (w.toServing l c).Watches q l d :=
  ((h.mapDrop hc).mapLanesOf Lane.ownerServes_under).openMeter hc

theorem wakeUp (h : w.Watches q l d) (hc : c ≠ d) : (w.wakeUp l c).Watches q l d :=
  (((h.toServing hc).mapDrop hc).removeOrders).raise

theorem unhushDrop_other (h : w.Watches q l d) (hc : c ≠ d) : (w.unhushDrop l c).Watches q l d := by
  unfold Work.unhushDrop
  split
  · exact h
  · split
    · split
      · exact h.wakeUp hc
      · exact h.toServing hc
    · have returned (f : DropEntry → DropEntry) : ((w.mapDrop l c f).mapLanesOf l c Lane.noCredit).Watches q l d :=
        (h.mapDrop hc).mapLanesOf Lane.noCredit_under
      dsimp only
      split
      · exact (returned _).raise
      · exact returned _

/-- The drop's own return from HUSHED, which the end of a search and an UNHUSH_ALL bring (R36, R144). -/
theorem unhushDrop_own (hq : q.Sound d) (h : w.Watches q l d) (hs : (w.drop l d).state = .hushed) (hn : ¬q.quiet) :
    (w.unhushDrop l d).Watches q l d := by
  unfold Work.unhushDrop
  split
  · exact h
  · next b hb =>
    have lost : b.state = .lost := by
      rcases hq.asleep _ h.leg.entry with hl | hr | ⟨-, b', hb', hl⟩
      · exact absurd (hs.symm.trans hl) nofun
      · rw [show (w.leg l).drops[d].state = .hushed from hs] at hr
        cases hr
      · rwa [Option.some.inj (hb.symm.trans hb')]
    have returned : (w.mapDrop l d fun e => e.returned b w.stamp).Watches q l d :=
      h.mapOwn fun he => hq.returned hn _ b w.stamp he hs hb
    rw [if_neg (by rw [lost]; exact Bool.false_ne_true)]
    dsimp only
    split
    · exact (returned.mapLanesOf Lane.noCredit_under).raise
    · exact returned.mapLanesOf Lane.noCredit_under

theorem unhushDrop (hq : q.Sound d) (h : w.Watches q l d) (hs : (w.drop l c).state = .hushed) (hn : ¬q.quiet) :
    (w.unhushDrop l c).Watches q l d := by
  by_cases hc : c = d
  · subst hc
    exact unhushDrop_own hq h hs hn
  · exact h.unhushDrop_other hc

/-- HUSHED drops returned one after another. -/
theorem unhushed (hq : q.Sound d) (hn : ¬q.quiet) {ds : List Drop} (nodup : ds.Nodup) (h : w.Watches q l d)
    (hs : ∀ c ∈ ds, (w.drop l c).state = .hushed) : (Machine.forDrops ds (fun c w => w.unhushDrop l c) w).Watches q l d := by
  induction ds generalizing w with
  | nil => exact h
  | cons c ds ih =>
    obtain ⟨hc, nodup⟩ := List.nodup_cons.mp nodup
    have first := hs c List.mem_cons_self
    refine ih nodup (unhushDrop hq h first hn) fun b hb => ?_
    have other : ((w.unhushDrop l c).leg l).drops[b] = (w.leg l).drops[b] :=
      (Work.unhushDrop_unhushed first).drops b (beq_eq_false_iff_ne.mpr fun hbc => hc (hbc ▸ hb))
    rw [Work.drop, other]
    exact hs b (List.mem_cons_of_mem _ hb)

theorem unhushAll {keep : Option Drop} (hq : q.Sound d) (h : w.Watches q l d) (hn : ¬q.quiet) : (w.unhushAll l keep).Watches q l d := by
  have nodup : ((w.hushedDrops l).filter fun c => some c != keep).Nodup := by
    unfold Work.hushedDrops LegRecord.dropsWhere
    exact ((List.nodup_finRange 128).filter _).filter _
  refine unhushed hq hn nodup h fun c hc => ?_
  exact beq_iff_eq.mp (List.mem_filter.mp (List.mem_filter.mp hc).1).2

/-! ### The end of a search, loss, retirement -/

theorem queueUnhush (hq : q.Sound d) (h : w.Watches q l d) (hn : ¬q.quiet) : (w.queueUnhush l).Watches q l d := by
  unfold Work.queueUnhush
  split
  · exact h.queueOrder fun _ => nofun
  · refine h.mapMonitor { asks := fun a ha => ?_ }
    rcases List.mem_append.mp ha with ha | ha
    · exact .inl ha
    · exact .inr (List.mem_singleton.mp ha ▸ hq.unhush hn)

theorem dropStepAsks (h : w.Watches q l d) : (w.dropStepAsks l).Watches q l d :=
  h.mapMonitor { asks := fun _ ha => .inl (List.mem_of_mem_filter ha) }

theorem endHunt {b : Bool} (hq : q.Sound d) (h : w.Watches q l d) (hn : ¬q.quiet) : (w.endHunt l b).Watches q l d := by
  obtain ⟨verdict, last, e⟩ := w.endHunt_eq l b
  have ended : (w.endSearch l verdict).Watches q l d :=
    unhushAll hq (queueUnhush hq (dropStepAsks (raise (a := some l) (b := none) (n := verdict) h)) hn) hn
  rw [e]
  generalize w.endSearch l verdict = v at ended ⊢
  exact ended.mapMonitor { quiet := fun _ _ => rfl, hunting := nofun, verifying := nofun }

theorem departure (hq : q.Sound d) (h : w.Watches q l d) : (w.departure l c).Watches q l d := by
  have busy (hs : (w.leg l).monitor.state.searching = true) : ¬q.quiet := fun hquiet => by
    rw [h.leg.quiet hquiet] at hs
    cases hs
  unfold Work.departure
  dsimp only
  split
  · next hm =>
    split
    · next cs hcs =>
      split
      · have fewer : (w.mapMonitor l fun m => { m with candidates := some (cs.filter fun x => x != c) }).Watches q l d :=
          h.mapMonitor { hunting := fun cs' hs hc hd => ⟨hs, cs, hcs, List.mem_of_mem_filter (Option.some.inj hc ▸ hd)⟩ }
        split
        · exact endHunt hq fewer (busy (by rw [hm]; rfl))
        · exact fewer
      · exact h
    · exact h
  · next hm =>
    split
    · exact endHunt hq h (busy (by rw [hm]; rfl))
    · exact h
  · exact h

theorem lose {reason : LostReason} {saved : Option Nat} (hq : q.Sound d) (h : w.Watches q l d) (hc : c ≠ d) :
    (w.lose l c reason saved).Watches q l d :=
  departure hq (((((h.mapLanesOf Lane.ownerGone_under).outage hc).purge).mapDrop hc).raise)

theorem loseByOrigin (hq : q.Sound d) (h : w.Watches q l d) (hc : c ≠ d) : (w.loseByOrigin l c).Watches q l d := by
  unfold Work.loseByOrigin
  split <;> exact lose hq h hc

theorem enterRetiring {reason : RetireReason} (hq : q.Sound d) (h : w.Watches q l d) (hc : c ≠ d) :
    (w.enterRetiring l c reason).Watches q l d :=
  departure hq ((((h.mapLeg { lanes := LanesUnder.owned (.filter _) }).purge).mapDrop hc).raise)

theorem retire {reason : RetireReason} (hq : q.Sound d) (h : w.Watches q l d) (hc : c ≠ d) : (w.retire l c reason).Watches q l d := by
  rw [retire_eq]
  split
  · exact h
  · have closed := (enterRetiring (reason := reason) hq h hc).closeMeter (k := reason.closeCause) hc
    dsimp only
    split
    · exact closed.vacate hc
    · exact closed

/-- The count of another drop's hold. -/
theorem holdTick (hq : q.Sound d) (h : w.Watches q l d) (hc : c ≠ d) : (w.holdTick l c).Watches q l d := by
  unfold Work.holdTick
  dsimp only
  split
  · split
    · exact retire hq h hc
    · exact h.mapDrop hc
  · split
    · split
      · exact retire hq h hc
      · exact h.mapDrop hc
    · exact h
  · exact h

/-! ### Lanes and admission (R73 to R75) -/

theorem putLane_owned {x : Lane} {t : Vector (Option Lane) 256} (hx : x.owner ≠ d) (n : Fin 256) (y : Lane)
    (hy : (putLane x t)[n] = some y) (ho : y.owner = d) : ∃ (k : Fin 256) (z : Lane), t[k] = some z ∧ z.owner = d := by
  unfold putLane at hy
  split at hy
  · rw [get_set_lane] at hy
    split at hy
    · rw [← Option.some.inj hy] at ho
      exact absurd ho hx
    · exact ⟨n, y, hy, ho⟩
  · exact ⟨n, y, hy, ho⟩

theorem createLane {x : Lane} (h : w.Watches q l d) (hx : x.owner ≠ d) : (w.createLane l x).Watches q l d := by
  refine h.mapLeg { lanes := putLane_owned hx, orders := fun _ e he ht => ?_ }
  dsimp only at he
  split at he
  · obtain ⟨y, hy, rfl⟩ := List.mem_map.mp he
    exact ⟨y, hy, ht⟩
  · exact ⟨e, he, ht⟩

theorem serveDrop {m : Option Bool} (h : w.Watches q l d) (hc : c ≠ d) : (w.serveDrop l c m).Watches q l d := (h.toServing hc).raise

theorem awaitDrop {a : AwaitingCause} (h : w.Watches q l d) (hc : c ≠ d) : (w.awaitDrop l c a).Watches q l d :=
  ((h.mapDrop hc).raise).raise

theorem admitByMode (h : w.Watches q l d) (hc : c ≠ d) : (w.admitByMode l c).Watches q l d := by
  unfold Work.admitByMode
  split
  · split
    · exact h.serveDrop hc
    · exact h.awaitDrop hc
  · exact h.awaitDrop hc

theorem admitFresh (h : w.Watches q l d) (hc : c ≠ d) : (w.admitFresh l c).Watches q l d := by
  unfold Work.admitFresh
  dsimp only
  split
  · have created := h.foldl (xs := templatePorts (((w.enrolOf l c).map EnrolEntry.templates).getD []))
      (f := fun w pf => w.createLane l (Lane.fresh c pf.1 pf.2)) fun _ _ _ k => k.createLane hc
    split
    · exact created.admitByMode hc
    · exact (created.generate fun _ => hc).admitByMode hc
  · exact h.awaitDrop hc

theorem rebindLanes (h : w.Watches q l d) (hc : c ≠ d) : (w.rebindLanes l c).Watches q l d := by
  unfold Work.rebindLanes
  split
  · exact h
  · exact (h.mapLanesOf Lane.rebind_under).generate fun _ => hc

theorem trimEnds {b : Bool} (h : w.Watches q l d) (hc : c ≠ d) : (w.trimEnds l c b).Watches q l d := by
  have marked : (w.mapDrop l c fun e => { e with marginal := b }).Watches q l d := h.mapDrop hc
  unfold Work.trimEnds
  dsimp only
  split
  · exact marked.admitFresh hc
  · split
    · exact (marked.rebindLanes hc).serveDrop hc
    · split
      · exact marked.admitFresh hc
      · exact (marked.rebindLanes hc).admitByMode hc

/-! ### Waits and failures (R50 to R52) -/

theorem applyFailure {k : OrderKind} {o : FailOutcome} (hq : q.Sound d) (h : w.Watches q l d) (hc : c ≠ d) :
    (w.applyFailure l c k o).Watches q l d := by
  unfold Work.applyFailure
  split
  · split
    · exact loseByOrigin hq h hc
    · exact lose hq h hc
  · split
    · exact h.trimEnds hc
    · exact h.mapDrop hc
  · split
    · exact h.removeOrders.mapDrop hc
    · exact h
  · exact h
  · exact h

theorem failOrder (hq : q.Sound d) (h : w.Watches q l d) : (w.failOrder l c).Watches q l d := by
  unfold Work.failOrder
  split
  · exact h
  · next e _ =>
    by_cases hc : c = d
    · subst hc
      have outcome : failOutcome e (w.drop l c) = .unchanged := failOutcome_of_asleep (hq.asleep _ h.leg.entry)
      rw [outcome]
      exact h.filterOrders.raise
    · refine applyFailure hq (raise (h.mapLeg { orders := fun _ x hx ht => ?_ })) hc
      dsimp only at hx
      split at hx
      · obtain ⟨y, hy, rfl⟩ := List.mem_map.mp hx
        split at ht
        · exact absurd (Option.some.inj ht) hc
        · exact ⟨y, hy, ht⟩
      · exact ⟨x, List.mem_of_mem_filter hx, ht⟩

theorem settleWaits (hq : q.Sound d) (h : w.Watches q l d) : (w.settleWaits l).Watches q l d := by
  unfold Work.settleWaits
  refine forDrops (h.mapLeg { orders := fun _ x hx ht => ?_ }) fun _ c _ k => failOrder hq k
  obtain ⟨y, hy, rfl⟩ := List.mem_map.mp hx
  exact ⟨y, hy, by rwa [OrderEntry.tick_target] at ht⟩

/-! ### Hushing and asks (R43, R144) -/

theorem hushDrop {set : List Drop} {n : Nat} (hq : q.Sound d) (h : w.Watches q l d) (ha : q.asks (.stepHush set n)) (hc : c ∈ set) :
    (w.hushDrop l c).Watches q l d := by
  have hushed : (w.mapDrop l c fun e =>
      { e with state := .hushed, since := w.stamp, resume := some e.resumeOf, hold := none, reason := none }).Watches q l d ∨
      (w.drop l c).state.hushable = false := by
    by_cases hcd : c = d
    · subst hcd
      rcases hq.asleep _ h.leg.entry with hl | hr | ⟨hs, -⟩
      · exact .inl (h.mapOwn fun he => hq.hushed set n _ w.stamp ha hc he hl)
      · refine .inr ?_
        rcases DropState.resting_iff.mp hr with hr | hr <;> rw [Work.drop, hr] <;> rfl
      · refine .inr ?_
        rw [Work.drop, hs]
        rfl
    · exact .inl (h.mapDrop hcd)
  unfold Work.hushDrop
  dsimp only
  split
  · next hh =>
    rcases hushed with k | hn
    · split
      · exact k.mapLanesOf Lane.ownerLeaves_under
      · exact k
    · rw [hn] at hh
      cases hh
  · exact h

theorem applyHush {set : List Drop} {n : Nat} (hq : q.Sound d) (h : w.Watches q l d) (ha : q.asks (.stepHush set n)) :
    (w.applyHush l set).Watches q l d :=
  h.forDrops fun w c _ k => by
    split
    · next hc => exact hushDrop hq k ha (List.contains_iff_mem.mp hc)
    · split
      · next hs => exact unhushDrop hq k (beq_iff_eq.mp hs) (hq.askQuiet _ ha)
      · exact k

theorem doAsk {a : MonitorAsk} (hq : q.Sound d) (h : w.Watches q l d) (ha : q.asks a) : (w.doAsk l a).Watches q l d := by
  unfold Work.doAsk
  split
  · cases a with
    | stepHush set n => exact applyHush hq (h.queueOrder fun _ => nofun) ha
    | stepUnhush keep => exact unhushAll hq (h.queueOrder fun _ => nofun) (hq.askQuiet _ ha)
    | mute c =>
      refine h.queueOrder fun hg ht => ?_
      obtain rfl : c = d := Option.some.inj ht
      exact hq.mute hg ha
    | unhush => exact h.queueOrder fun _ => nofun
  · refine h.mapMonitor { asks := fun b hb => ?_ }
    rcases List.mem_append.mp hb with hb | hb
    · exact .inl hb
    · exact .inr (List.mem_singleton.mp hb ▸ ha)

theorem retryAsks (hq : q.Sound d) (h : w.Watches q l d) : (w.retryAsks l).Watches q l d :=
  foldl (h.mapMonitor { asks := nofun }) fun _ a ha k => doAsk hq k (h.leg.asks a ha)

theorem retryOwed (h : w.Watches q l d) : (w.retryOwed l).Watches q l d :=
  foldl (h.mapLeg (f := fun r => { r with owed := [] }) { owed := fun _ => nofun }) fun _ i hi k =>
    k.generate fun hg => (h.leg.gone hg).owed i hi

theorem retryOrders (hq : q.Sound d) (h : w.Watches q l d) : (w.retryOrders l).Watches q l d := (retryAsks hq h).retryOwed

/-! ### The orders of a round (R45 to R48) -/

theorem setOrder {i : Nat} {e e' : OrderEntry} (h : w.Watches q l d) (he : (w.leg l).orders[i]? = some e) (ht : e'.target = e.target) :
    (w.mapLeg l fun r => { r with orders := r.orders.set i e' }).Watches q l d :=
  h.mapLeg
    { orders := fun _ x hx hxt => by
        rcases List.mem_or_eq_of_mem_set hx with hx | rfl
        · exact ⟨x, hx, hxt⟩
        · exact ⟨e, List.mem_of_getElem? he, ht ▸ hxt⟩ }

theorem sendOrder {i : Nat} (hq : q.Sound d) (h : w.Watches q l d) : (w.sendOrder l i).1.Watches q l d := by
  unfold Work.sendOrder
  dsimp only
  split
  · exact h
  · next e he =>
    split
    · next c _ hc =>
      dsimp only
      have sent := h.setOrder (e' := e.firstSend ((w.leg l).fixArguments c e.order)
        (echoSequence (w.leg l).drops[c].nextEcho (w.leg l).lastEcho[c]) w.stamp.round) he rfl
      by_cases hcd : c = d
      · subst hcd
        exact sent.mapOwn fun k => hq.nextEcho (fun hg => (h.leg.gone hg).orders e (List.mem_of_getElem? he) hc) _ _ k
      · exact sent.mapDrop hcd
    · dsimp only
      have sent := h.setOrder (e' := e.sendAgain w.stamp.round) he rfl
      split
      · exact sent.mapMonitor {}
      · exact sent

theorem sendOrders (hq : q.Sound d) (h : w.Watches q l d) : (w.sendOrders l).1.Watches q l d := by
  have sent : (w.sendAll l (w.leg l).chosen).1.Watches q l d :=
    List.foldlRecOn _ _ (motive := fun acc : Work × List OrderPlace => acc.1.Watches q l d) h fun _ k _ _ => sendOrder hq k
  rw [sendOrders_eq]
  exact sent.filterOrders

theorem ordersSent (hq : q.Sound d) (h : w.Watches q l d) : (w.ordersSent l).1.Watches q l d := by
  unfold Work.ordersSent
  refine sendOrders hq (retryOrders hq ?_)
  split
  · exact settleWaits hq h
  · exact h

/-! ### The map of a round (R89 to R101) -/

theorem awardWindow (hq : q.Sound d) (h : w.Watches q l d) : (w.awardWindow l).1.Watches q l d := by
  have asked (x : WindowRequests) : (w.mapLeg l fun r => { r with requests := x }).Watches q l d := h.mapLeg
  unfold Work.awardWindow
  dsimp only
  split
  · next c _ hc =>
    refine (asked _).setState ?_
    rintro rfl
    have eligible : (w.leg l).eligibleForRanging w.stamp c = true := by
      simp only [LegRecord.requestsAt, LegRecord.asksRanging] at hc
      split at hc
      · exact List.find?_some hc
      · cases hc
    simp only [LegRecord.eligibleForRanging, LegRecord.waitsForRanging, Bool.and_eq_true, beq_iff_eq] at eligible
    exact (hq.asleep _ h.leg.entry).not_heard.1 eligible.1.1.1
  · dsimp only
    exact (asked _).mapLeg
  · dsimp only
    exact asked _

theorem windowAwarded (hq : q.Sound d) (h : w.Watches q l d) : (w.windowAwarded l).Watches q l d := by
  refine (awardWindow hq h).mapLeg { entry := fun he => ?_ }
  simp only [Fin.getElem_fin, Vector.getElem_map]
  exact hq.buildStarts _ he

theorem takeMap {m : GrantMap} (h : w.Watches q l d) : (w.mapLeg l fun r => r.takeMap m).Watches q l d := h.mapLeg

theorem afterBuild {k : Stamp} {m : GrantMap} {b : Build} (hq : q.Sound d) (h : w.Watches q l d) (hb : LanesUnder b.lanes (w.leg l).lanes) :
    (w.mapLeg l fun r => r.afterBuild k m b).Watches q l d := by
  have lanes := LanesUnder.owned (d := d) (LegRecord.afterBuild_lanes (k := k) (m := m) hb)
  refine h.mapLeg ?_
  generalize w.leg l = r at lanes ⊢
  unfold LegRecord.afterBuild at lanes ⊢
  exact {
    entry := fun he => by
      simp only [Fin.getElem_fin, Vector.getElem_ofFn, Fin.eta]
      split
      · exact hq.buildEnds _ he
      · exact he
    lanes := lanes }

theorem buildFull (hq : q.Sound d) (h : w.Watches q l d) : (w.buildFull l).Watches q l d := by
  have awarded := windowAwarded hq h
  have lanes : LanesUnder (w.mapBuilt l).2.lanes ((w.windowAwarded l).leg l).lanes := fullMap_lanes _ _ _ _ _
  have built := (afterBuild (k := (w.windowAwarded l).stamp) (m := (w.mapBuilt l).1) hq awarded lanes).takeMap (m := (w.mapBuilt l).1)
  rw [Work.mapLeg_mapLeg] at built
  rw [Work.buildFull_eq]
  exact built

theorem buildEmpty (h : w.Watches q l d) : (w.buildEmpty l).Watches q l d := by
  have taken (m : LegRecord → GrantMap) :
      (w.mapLeg l fun r => ({ r with requests := WindowRequests.none } : LegRecord).takeMap (m r)).Watches q l d := h.mapLeg
  exact taken fun r => emptyMap r.pointer w.stamp

/-! ### The assembly of a round (R155, R164 to R166) -/

theorem sendFrame {f : Frame} (h : w.Watches q l d) (hf : q.still → f.drop ≠ d) : (w.sendFrame l f).Watches q l d := by
  have drawn : (w.drawAllowance l f.drop f.data.length).Watches q l d := h.mapLeg
  unfold Work.sendFrame
  dsimp only
  split
  · exact drawn.charge hf
  · exact h.charge hf

theorem fillFrames {fs sent : List Frame} {room : Nat} (hq : q.Sound d) (hg : q.still → q.gone) (h : w.Watches q l d) :
    (Machine.fillFrames l fs room sent w).1.Watches q l d := by
  induction fs generalizing room sent w with
  | nil => exact h
  | cons f fs ih =>
    unfold Machine.fillFrames
    split
    · exact ih h.mapStats
    · next ht =>
      have other : q.still → f.drop ≠ d := by
        rintro hs rfl
        refine ht (Bool.or_eq_true_iff.mpr (.inl ?_))
        rcases DropState.resting_iff.mp (hq.resting (hg hs) _ h.leg.entry) with hs | hs <;> rw [Work.drop, hs] <;> rfl
      split
      · exact ih (h.shedBytes other)
      · split
        · exact h
        · exact ih (h.sendFrame other)

theorem assemble {os : List OrderPlace} (hq : q.Sound d) (hg : q.still → q.gone) (h : w.Watches q l d) : (w.assemble l os).Watches q l d := by
  have filled : (w.filled l os).1.Watches q l d := by
    unfold Work.filled
    split
    · exact h
    · rw [Work.fill_eq]
      have drained : (w.drained? l (128000 - (w.header l os (w.mapNow l)).length)).1.Watches q l d :=
        fillFrames hq hg (h.mapLeg (f := fun r => { r with allowance := Vector.replicate 128 r.control.settings.downThrottle }))
      dsimp only
      refine drained.mapLeg ?_
      exact {}
  rw [Work.assemble_eq]
  refine filled.mapLeg ?_
  exact {}

/-- The begin of a round keeps what is claimed of a sleeping drop. -/
theorem beginRound (hq : q.Sound d) (hg : q.still → q.gone) (h : w.Watches q l d) : (w.beginRound l).Watches q l d := by
  rw [Work.beginRound_eq]
  split
  · refine assemble hq hg ?_
    split
    · exact buildFull hq (ordersSent hq h)
    · exact (ordersSent hq h).buildEmpty
  · exact h

/-! ### The first half of a leg's boundary (R10, R11, R16, R130, R140, R149) -/

/-- A monitor out of a search that stays out of it, its asks kept. -/
theorem mapCalm {f : Monitor → Monitor} (h : w.Watches q l d) (asks : (f (w.leg l).monitor).asks = (w.leg l).monitor.asks)
    (searching : (f (w.leg l).monitor).state.searching = false) : (w.mapMonitor l f).Watches q l d :=
  h.mapMonitor
    { asks := fun _ ha => .inl (asks ▸ ha)
      quiet := fun _ _ => searching
      hunting := fun _ hs => by
        change (f (w.leg l).monitor).state = _ at hs
        rw [hs] at searching
        cases searching
      verifying := fun hs => by
        change (f (w.leg l).monitor).state = _ at hs
        rw [hs] at searching
        cases searching }

theorem beginSpan {b : Bool} (h : w.Watches q l d) : (w.beginSpan l b).Watches q l d := by
  unfold Work.beginSpan
  split
  · exact h.mapMonitor {}
  · exact h.mapMonitor {}

theorem holdoffTick (h : w.Watches q l d) : (w.holdoffTick l).Watches q l d := by
  unfold Work.holdoffTick Work.holdoffEnds
  dsimp only
  split
  · split
    · exact (h.mapCalm rfl rfl).beginSpan
    · exact h.mapMonitor {}
  · exact h

theorem suspectTimeout (h : w.Watches q l d) : (w.suspectTimeout l).Watches q l d := by
  unfold Work.suspectTimeout
  dsimp only
  split
  · split
    · exact h.mapCalm rfl rfl
    · exact h
  · exact h

theorem setLeg {st : LegState} {cause : Option FaultCause} {n : Nat} (h : w.Watches q l d) : (w.setLeg l st cause n).Watches q l d := by
  rw [setLeg_eq]
  exact h.mapLeg.raise

theorem resumeSpan (h : w.Watches q l d) : (w.resumeSpan l).Watches q l d := by
  have settled : (w.mapMonitor l fun m => { m with owedLearning := false }).Watches q l d := h.mapMonitor {}
  unfold Work.resumeSpan
  dsimp only
  split
  · exact settled.beginSpan
  · exact settled.beginSpan
  · exact settled

theorem advanceLeg (h : w.Watches q l d) : (w.advanceLeg l).Watches q l d := by
  have recovered : (w.recover l).Watches q l d := by
    unfold Work.recover
    dsimp only
    split
    · exact h.setLeg
    · exact h
  have prepared : ((w.recover l).endPreparing l).Watches q l d := by
    unfold Work.endPreparing
    dsimp only
    split
    · exact recovered.setLeg
    · exact recovered
  have retimed : (((w.recover l).endPreparing l).endRetiming l).Watches q l d := by
    unfold Work.endRetiming
    dsimp only
    split
    · exact prepared.setLeg.resumeSpan
    · exact prepared
  unfold Work.advanceLeg
  generalize ((w.recover l).endPreparing l).endRetiming l = v at retimed ⊢
  rw [mapControl_eq]
  exact retimed.mapLeg

theorem stepTick (h : w.Watches q l d) : (w.stepTick l).Watches q l d := by
  unfold Work.stepTick
  exact h.mapMonitor {}

theorem legReady (h : w.Watches q l d) : (w.legReady l).Watches q l d := h.holdoffTick.suspectTimeout.stepTick.advanceLeg

theorem scheduleTicked (h : w.Watches q l d) : (w.scheduleTicked l).Watches q l d := h.mapLeg

end Work.Watches

end Sys2Proof.Machine
end

section
set_option Elab.async false -- one theorem after another: side by side they ask for more threads than the check's memory limit grants
/-! PROOFS. What a boundary writes in the journal before a drop's hold is counted: at most one entry for each other drop (R179 to R182). -/

namespace Sys2Proof.Machine

/-! ### Meters without usage -/

/-- No meter, or one without usage. -/
def meterIdle (o : Option Meter) : Prop := ∀ m, o = some m → m.usage = false

theorem meterIdle_none : meterIdle none := nofun

/-- A close leaves no meter with usage where there was none. -/
theorem closeOf_idle {o : Option Meter} {c : CloseCause} {room : Bool} {t : Stamp} {out : Bool} (h : meterIdle o) :
    meterIdle (closeOf o c room t out).left := by
  cases o with
  | none => exact meterIdle_none
  | some m =>
    have hu : m.usage = false := h m rfl
    intro m' hm'
    unfold closeOf Meter.close at hm'
    dsimp only at hm'
    cases hp : m.pending with
    | some p =>
      simp only [hp, hu, Bool.false_eq_true, if_false] at hm'
      split at hm'
      · cases hm'
      · rwa [← Option.some.inj hm']
    | none =>
      simp only [hp] at hm'
      split at hm'
      · rw [← Option.some.inj hm']
        exact hu
      · split at hm'
        · cases hm'
        · split at hm'
          · split at hm'
            · cases hm'
            · rw [← Option.some.inj hm']
              exact Meter.restarted_usage _ _ _
          · rw [← Option.some.inj hm']
            exact hu

/-- What an ending close writes had usage (R182). -/
theorem closeOf_written_ending {o : Option Meter} {c : CloseCause} {room : Bool} {t : Stamp} {out : Bool} (hc : c.ending = true)
    (h : (closeOf o c room t out).written = true) : ¬meterIdle o := by
  intro idle
  cases o with
  | none => cases h
  | some m =>
    have hu : m.usage = false := idle m rfl
    unfold closeOf Meter.close at h
    dsimp only at h
    cases hp : m.pending with
    | some p =>
      simp only [hp, hu, Bool.false_eq_true, if_false] at h
      split at h <;> cases h
    | none =>
      simp [hp, hu, hc] at h

/-- What a continuing close writes begins a new period without usage (R179). -/
theorem closeOf_written_continuing {o : Option Meter} {c : CloseCause} {room : Bool} {t : Stamp} {out : Bool} (hc : c.ending = false)
    (h : (closeOf o c room t out).written = true) : meterIdle (closeOf o c room t out).left := by
  cases o with
  | none => exact meterIdle_none
  | some m =>
    cases hp : m.pending with
    | some p =>
      unfold closeOf Meter.close at h
      simp [hp, hc] at h
    | none =>
      by_cases hu : m.usage = false
      · exact closeOf_idle fun m' hm' => by rwa [← Option.some.inj hm']
      · have due : closeOf (some m) c room t out =
            if room then ⟨some (m.restarted t out), true, false⟩ else ⟨some (m.heldFor c t), false, false⟩ := by
          simp [closeOf, Meter.close, hp, hc, hu]
        rw [due] at h ⊢
        cases room with
        | false => cases h
        | true =>
          intro m' hm'
          rw [← Option.some.inj hm']
          exact Meter.restarted_usage _ _ _

/-- From `w` to `w'` a drop's meter comes to no usage. -/
structure Work.Idles (l : Leg) (c : Drop) (w w' : Work) : Prop where
  idle : meterIdle (w.meter l c) → meterIdle (w'.meter l c)

namespace Work.Idles

variable {l : Leg} {c d : Drop} {w w' w'' : Work}

theorem refl : Idles l c w w := ⟨id⟩

theorem trans (h : Idles l c w w') (k : Idles l c w' w'') : Idles l c w w'' := ⟨k.idle ∘ h.idle⟩

theorem of_meters (h : Idles l c w w') (k : (w''.leg l).meters = (w'.leg l).meters) : Idles l c w w'' where
  idle hi := by
    rw [Work.meter, k]
    exact h.idle hi

theorem mapLeg {f : LegRecord → LegRecord} (h : Idles l c w w') (k : (f (w'.leg l)).meters = (w'.leg l).meters := by rfl) :
    Idles l c w (w'.mapLeg l f) := h.of_meters (by rw [leg_mapLeg_self, k])

theorem mapDrop {f : DropEntry → DropEntry} (h : Idles l c w w') : Idles l c w (w'.mapDrop l d f) := h.mapLeg

theorem mapMonitor {f : Monitor → Monitor} (h : Idles l c w w') : Idles l c w (w'.mapMonitor l f) := h.mapLeg

theorem raise {a : Option Leg} {b : Option Drop} {n : NoticeBody} (h : Idles l c w w') : Idles l c w (w'.raise a b n) := ⟨h.idle⟩

theorem forDrops {ds : List Drop} {f : Drop → Work → Work} (h : Idles l c w w')
    (hf : ∀ (d : Drop) (v : Work), Idles l c v (f d v)) : Idles l c w (forDrops ds f w') :=
  List.foldlRecOn (motive := fun v => Idles l c w v) ds (fun w d => f d w) h fun v hv d _ => hv.trans (hf d v)

theorem openMeter (h : Idles l c w w') : Idles l c w (w'.openMeter l d) := by
  unfold Work.openMeter
  split
  · refine ⟨fun hi => ?_⟩
    rw [Work.meter, setMeter_leg]
    dsimp only
    rw [get_set]
    split
    · intro m hm
      rw [← Option.some.inj hm]
      exact Meter.opened_usage _ _
    · exact h.idle hi
  · exact h

theorem toServing (h : Idles l c w w') : Idles l c w (w'.toServing l d) := ((h.mapDrop).mapLeg).openMeter

theorem unhushDrop (h : Idles l c w w') : Idles l c w (w'.unhushDrop l d) := by
  unfold Work.unhushDrop
  split
  · exact h
  · split
    · split
      · exact ((h.toServing.mapDrop).mapLeg).raise
      · exact h.toServing
    · have returned (f : DropEntry → DropEntry) : Idles l c w ((w'.mapDrop l d f).mapLanesOf l d Lane.noCredit) := (h.mapDrop).mapLeg
      dsimp only
      split
      · exact (returned _).raise
      · exact returned _

theorem queueUnhush (h : Idles l c w w') : Idles l c w (w'.queueUnhush l) := by
  unfold Work.queueUnhush
  split
  · rw [queueOrder_eq]
    exact h.mapLeg
  · exact h.mapLeg

theorem endHunt {b : Bool} (h : Idles l c w w') : Idles l c w (w'.endHunt l b) := by
  obtain ⟨verdict, last, e⟩ := w'.endHunt_eq l b
  have raised : Idles l c w (w'.raise (some l) none verdict) := h.raise
  have asked : Idles l c w ((w'.raise (some l) none verdict).dropStepAsks l) := raised.mapMonitor
  have ended : Idles l c w (w'.endSearch l verdict) := asked.queueUnhush.forDrops fun _ v => refl.unhushDrop
  rw [e]
  exact ended.mapLeg

theorem departure (h : Idles l c w w') : Idles l c w (w'.departure l d) := by
  unfold Work.departure
  dsimp only
  split
  · split
    · split
      · have fewer (cs : List Drop) : Idles l c w (w'.mapMonitor l fun m => { m with candidates := some cs }) := h.mapLeg
        split
        · exact (fewer _).endHunt
        · exact fewer _
      · exact h
    · exact h
  · split
    · exact h.endHunt
    · exact h
  · exact h

theorem enterRetiring {reason : RetireReason} (h : Idles l c w w') : Idles l c w (w'.enterRetiring l d reason) :=
  ((((h.mapLeg).mapLeg).mapDrop).raise).departure

theorem closeMeter {k : CloseCause} (h : Idles l c w w') : Idles l c w (w'.closeMeter l d k).1 where
  idle hi := by
    rw [Work.meter, (w'.closeMeter_spec l d k).leg]
    dsimp only
    rw [get_set]
    split
    · next hc =>
      subst hc
      exact closeOf_idle (h.idle hi)
    · exact h.idle hi

theorem retire {reason : RetireReason} (h : Idles l c w w') : Idles l c w (w'.retire l d reason) := by
  rw [retire_eq]
  split
  · exact h
  · have closed := (h.enterRetiring (d := d) (reason := reason)).closeMeter (d := d) (k := reason.closeCause)
    dsimp only
    split
    · exact closed.of_meters (Work.vacate_meters _ l d)
    · exact closed

theorem holdTick (h : Idles l c w w') : Idles l c w (w'.holdTick l d) := by
  unfold Work.holdTick
  dsimp only
  split
  · split
    · exact h.retire
    · exact h.mapDrop
  · split
    · split
      · exact h.retire
      · exact h.mapDrop
    · exact h
  · exact h

end Work.Idles

/-! ### Entries written -/

/-- From `w` to `w'` the journal grows by at most one entry for each place, all of places that meet `P`. -/
structure Work.Writes (P : Leg × Drop → Prop) (w w' : Work) : Prop where
  written : ∃ new, w'.blocks.journal.entries = w.blocks.journal.entries ++ new ∧
    w'.blocks.journal.nextSeq = w.blocks.journal.nextSeq + new.length ∧ (new.map JournalEntry.place).Nodup ∧ ∀ e ∈ new, P e.place

namespace Work.Writes

variable {P Q : Leg × Drop → Prop} {w w' w'' : Work}

theorem of_journal (h : w'.blocks.journal = w.blocks.journal) : Writes P w w' :=
  ⟨[], by rw [h, List.append_nil], by rw [h]; rfl, List.nodup_nil, nofun⟩

theorem mono (h : Writes P w w') (hPQ : ∀ p, P p → Q p) : Writes Q w w' := by
  obtain ⟨new, entries, nextSeq, nodup, each⟩ := h.written
  exact ⟨new, entries, nextSeq, nodup, fun e he => hPQ _ (each e he)⟩

/-- Entries of other places behind those written. -/
theorem trans (h : Writes P w w') (k : Writes Q w' w'') (apart : ∀ p, P p → ¬Q p) : Writes (fun p => P p ∨ Q p) w w'' := by
  obtain ⟨new, entries, nextSeq, nodup, each⟩ := h.written
  obtain ⟨new', entries', nextSeq', nodup', each'⟩ := k.written
  refine ⟨new ++ new', by rw [entries', entries, List.append_assoc], by rw [nextSeq', nextSeq, List.length_append, Nat.add_assoc], ?_,
    fun e he => (List.mem_append.mp he).imp (each e) (each' e)⟩
  rw [List.map_append]
  refine nodup.append nodup' fun p hp hp' => ?_
  obtain ⟨e, he, rfl⟩ := List.mem_map.mp hp
  obtain ⟨e', he', eq⟩ := List.mem_map.mp hp'
  exact apart _ (each e he) (eq ▸ each' e' he')

/-- Work that writes nothing. -/
theorem of_logs {l : Leg} {σ : Scope} (h : w.Logs l σ w') (hc : ∀ c, ¬σ.causes c) : Writes P w w' := by
  obtain ⟨new, entries, nextSeq, each⟩ := h.written
  cases new with
  | nil => exact ⟨[], entries, nextSeq, List.nodup_nil, nofun⟩
  | cons e _ => exact absurd (each e List.mem_cons_self).2.2.1 (hc _)

/-- A journal without room stays without. -/
theorem full (h : Writes P w w') (hr : w.blocks.journal.room = false) : w'.blocks.journal.room = false := by
  obtain ⟨new, entries, nextSeq, -, -⟩ := h.written
  rw [← Bool.not_eq_true, Journal.room_eq_true] at hr ⊢
  rw [entries, nextSeq, List.length_append]
  omega

/-- With 512 places free there is one left for a place that was not written. -/
theorem room (h : Writes P w w') {p : Leg × Drop} (hp : ¬P p) (hr : w.blocks.journal.entries.length + 512 ≤ 1024)
    (hn : w.blocks.journal.nextSeq + 512 ≤ 4294967296) : w'.blocks.journal.room = true := by
  obtain ⟨new, entries, nextSeq, nodup, each⟩ := h.written
  have others : (p :: new.map JournalEntry.place).Nodup := by
    refine List.nodup_cons.mpr ⟨fun hm => ?_, nodup⟩
    obtain ⟨e, he, rfl⟩ := List.mem_map.mp hm
    exact hp (each e he)
  have count := others.length_le_card
  have places : Fintype.card (Leg × Drop) = 4 * 128 := by simp only [Fintype.card_prod, Fintype.card_fin]
  rw [List.length_cons, List.length_map, places] at count
  rw [Journal.room_eq_true, entries, nextSeq, List.length_append]
  omega

end Work.Writes

/-! ### The closes of a boundary -/

section
variable {w : Work} {l : Leg} {d : Drop}

/-- A continuing close writes an entry of its own place alone, and only for a meter that it leaves without usage. -/
theorem Work.closeMeter_writes (w : Work) (l : Leg) (d : Drop) {c : CloseCause} (hc : c.ending = false) :
    Work.Writes (fun p => p = (l, d) ∧ meterIdle ((w.closeMeter l d c).1.meter l d)) w (w.closeMeter l d c).1 := by
  have spec := w.closeMeter_spec l d c
  refine ⟨w.closeEntries l d c, spec.entries, spec.nextSeq, ?_, fun e he => ?_⟩
  · unfold Work.closeEntries
    split
    · cases w.meter l d with
      | none => exact List.nodup_nil
      | some m => exact List.nodup_singleton _
    · exact List.nodup_nil
  · unfold Work.closeEntries at he
    split at he
    · next hw =>
      obtain ⟨m, -, rfl⟩ := List.mem_map.mp he
      refine ⟨rfl, ?_⟩
      rw [Work.closeMeter_meter]
      exact closeOf_written_continuing hc hw
    · cases he

theorem Work.closeFor_writes (w : Work) (l : Leg) (d : Drop) (due : Bool) :
    Work.Writes (fun p => p = (l, d) ∧ meterIdle ((w.closeFor (w.closeCause due l) l d).meter l d)) w
      (w.closeFor (w.closeCause due l) l d) := by
  unfold Work.closeFor Work.closeCause
  cases due with
  | true => exact w.closeMeter_writes l d rfl
  | false =>
    cases w.blocks.hostClose[l] with
    | true => exact w.closeMeter_writes l d rfl
    | false => exact .of_journal rfl

/-- The places that a sweep of closes writes are left without usage. -/
theorem Work.closes_write (due : Bool) {ps : List (Leg × Drop)} (nodup : ps.Nodup) (w : Work) :
    Work.Writes (fun p => p ∈ ps ∧ meterIdle ((ps.foldl (fun v p => v.closeFor (v.closeCause due p.1) p.1 p.2) w).meter p.1 p.2)) w
      (ps.foldl (fun v p => v.closeFor (v.closeCause due p.1) p.1 p.2) w) := by
  induction ps generalizing w with
  | nil => exact .of_journal rfl
  | cons p ps ih =>
    obtain ⟨hp, nodup⟩ := List.nodup_cons.mp nodup
    have first := w.closeFor_writes p.1 p.2 due
    have later := Work.closesSwept_foldl due ps (w.closeFor (w.closeCause due p.1) p.1 p.2)
    have rest := ih nodup (w.closeFor (w.closeCause due p.1) p.1 p.2)
    rw [List.foldl_cons]
    refine (first.trans rest fun q hq hq' => ?_).mono fun q hq => ?_
    · rw [hq.1] at hq'
      exact hp hq'.1
    · rcases hq with ⟨rfl, idle⟩ | ⟨hq, idle⟩
      · refine ⟨List.mem_cons_self, ?_⟩
        rw [later.meters p.1 p.2 hp]
        exact idle
      · exact ⟨List.mem_cons_of_mem _ hq, idle⟩

/-- The places that the closes of a boundary write are left without usage. -/
theorem Work.boundaryCloses_writes (w : Work) :
    Work.Writes (fun p => meterIdle (w.boundaryCloses.meter p.1 p.2)) w w.boundaryCloses := by
  have swept := Work.closes_write (w.blocks.periodDue w.stamp) allPlaces_nodup w
  have closed := w.boundaryCloses_eq
  dsimp only at closed
  generalize allPlaces.foldl _ w = v at swept closed
  rw [closed]
  exact ⟨(swept.mono fun _ h => h.2).written⟩

/-! ### The holds of a leg -/

/-- A retirement writes an entry of its own place alone, and only for a meter with usage. -/
theorem Work.retire_writes (reason : RetireReason) :
    Work.Writes (fun p => p = (l, d) ∧ ¬meterIdle (w.meter l d)) w (w.retire l d reason) := by
  cases hd : (w.drop l d).state.resting with
  | true =>
    rw [Work.retire_eq, if_pos hd]
    exact .of_journal rfl
  | false =>
    obtain ⟨r₁, retired⟩ := w.retire_retiredAs l d reason hd
    have reach : Work.Reach l .all w (w.retire l d reason) := (Work.Reach.refl trivial).retire trivial trivial
    obtain ⟨new, entries, nextSeq, -⟩ := reach.runs.written
    obtain rfl : new = w.closeEntries l d reason.closeCause := List.append_cancel_left (entries.symm.trans retired.entries)
    refine ⟨_, entries, nextSeq, ?_, fun e he => ?_⟩
    · unfold Work.closeEntries
      split
      · cases w.meter l d with
        | none => exact List.nodup_nil
        | some m => exact List.nodup_singleton _
      · exact List.nodup_nil
    · unfold Work.closeEntries at he
      split at he
      · next hw =>
        obtain ⟨m, -, rfl⟩ := List.mem_map.mp he
        exact ⟨rfl, closeOf_written_ending reason.closeCause_ending hw⟩
      · cases he

theorem Work.holdTick_writes : Work.Writes (fun p => p = (l, d) ∧ ¬meterIdle (w.meter l d)) w (w.holdTick l d) := by
  unfold Work.holdTick
  dsimp only
  split
  · split
    · exact Work.retire_writes _
    · exact .of_journal rfl
  · split
    · split
      · exact Work.retire_writes _
      · exact .of_journal rfl
    · exact .of_journal rfl
  · exact .of_journal rfl

/-- The holds of some drops of a leg, counted one after another. -/
theorem Work.holdTicks_write {ds : List Drop} (nodup : ds.Nodup) (w : Work) (l : Leg) :
    Work.Writes (fun p => (p.1 = l ∧ p.2 ∈ ds) ∧ ¬meterIdle (w.meter p.1 p.2)) w (ds.foldl (fun w d => w.holdTick l d) w) := by
  induction ds generalizing w with
  | nil => exact .of_journal rfl
  | cons d ds ih =>
    obtain ⟨hd, nodup⟩ := List.nodup_cons.mp nodup
    rw [List.foldl_cons]
    refine ((Work.holdTick_writes (d := d)).trans (ih nodup (w.holdTick l d)) fun p hp hp' => ?_).mono fun p hp => ?_
    · rw [hp.1] at hp'
      exact hd hp'.1.2
    · rcases hp with ⟨rfl, used⟩ | ⟨⟨rfl, hp⟩, used⟩
      · exact ⟨⟨rfl, List.mem_cons_self⟩, used⟩
      · exact ⟨⟨rfl, List.mem_cons_of_mem _ hp⟩, fun idle => used (Work.Idles.refl.holdTick.idle idle)⟩

end

/-! ### The turns of the legs -/

/-- The scope of work that writes nothing. -/
def Scope.unwritten : Scope := ⟨True, False, True, True, fun _ => True, fun _ => False⟩

section
variable (w : Work) (l : Leg) (d : Drop)

theorem Work.legReady_meter : (w.legReady l).meter l d = w.meter l d := by
  obtain ⟨m, ready, -⟩ := w.legReady_leg l
  rw [Work.meter, ready]
  rfl

/-- A leg's turn writes entries of its own drops with usage. -/
theorem Work.legBoundary_writes : Work.Writes (fun p => p.1 = l ∧ ¬meterIdle (w.meter p.1 p.2)) w (w.legBoundary l) := by
  have ready : Work.Writes (fun _ => False) w (w.legReady l) := .of_logs (w.legReady_logs l (σ := .unwritten)) fun _ => id
  have held := Work.holdTicks_write (List.nodup_finRange 128) (w.legReady l) l
  have begun : Work.Writes (fun _ => False) ((w.legReady l).holdsTicked l) (w.legBoundary l) := by
    rw [Work.legBoundary_eq]
    exact .of_logs ((Work.scheduleTicked_turns _ l .unwritten).trans
      (Work.beginRound_turns trivial trivial (fun _ _ => trivial) fun _ _ _ _ _ => trivial)).logs fun _ => id
  refine ((ready.trans held fun _ h => h.elim).trans begun fun _ _ => id).mono fun p hp => ?_
  obtain (⟨⟨⟩⟩ | ⟨⟨rfl, -⟩, used⟩) | ⟨⟨⟩⟩ := hp
  rw [Work.legReady_meter] at used
  exact ⟨rfl, used⟩

theorem Work.legBoundary_beside {k : Leg} (hk : k ≠ l) : Work.Beside l w (w.legBoundary k) :=
  (w.legBoundary_logs k).beside (Ne.symm hk)

theorem Work.legBoundaries_beside {ks : List Leg} (hl : l ∉ ks) : Work.Beside l w (ks.foldl (fun w k => w.legBoundary k) w) :=
  List.foldlRecOn ks _ (motive := fun v => Work.Beside l w v) (.refl l w) fun v hv _ hk =>
    hv.trans (v.legBoundary_beside l fun e => hl (e ▸ hk))

theorem Work.legBoundaries_write {ks : List Leg} (nodup : ks.Nodup) :
    Work.Writes (fun p => p.1 ∈ ks ∧ ¬meterIdle (w.meter p.1 p.2)) w (ks.foldl (fun w k => w.legBoundary k) w) := by
  induction ks generalizing w with
  | nil => exact .of_journal rfl
  | cons k ks ih =>
    obtain ⟨hk, nodup⟩ := List.nodup_cons.mp nodup
    rw [List.foldl_cons]
    refine ((w.legBoundary_writes k).trans (ih (w.legBoundary k) nodup) fun p hp hp' => hk (hp.1 ▸ hp'.1)).mono fun p hp => ?_
    rcases hp with ⟨rfl, used⟩ | ⟨hp, used⟩
    · exact ⟨List.mem_cons_self, used⟩
    · have other : p.1 ≠ k := fun e => hk (e ▸ hp)
      rw [Work.meter_of_leg (w.legBoundary_beside p.1 other.symm).leg] at used
      exact ⟨List.mem_cons_of_mem _ hp, used⟩

end

/-! ### The turn of one hold -/

/-- The work `u` in which a boundary comes to the hold of drop `d` of leg `l`. -/
structure Work.HoldTurn (w : Work) (l : Leg) (d : Drop) (u : Work) : Prop where
  stamp : u.stamp = w.boundaryOpened.stamp
  before : ∀ q : Watch, q.Sound d → w.boundaryOpened.Watches q l d → u.Watches q l d
  after : ∀ q : Watch, q.Sound d → (q.still → q.gone) → (u.holdTick l d).Watches q l d → w.boundary.Watches q l d
  writes : Work.Writes (fun p => p ≠ (l, d) ∧ ¬meterIdle (w.boundaryOpened.meter p.1 p.2)) w.boundaryOpened u

theorem Work.boundary_holdTurn (w : Work) (l : Leg) (d : Drop) : ∃ u, w.HoldTurn l d u := by
  obtain ⟨kb, ka, legs⟩ := List.append_of_mem (List.mem_finRange l)
  obtain ⟨db, da, drops⟩ := List.append_of_mem (List.mem_finRange d)
  have legsOnce : (kb ++ l :: ka).Nodup := legs ▸ List.nodup_finRange 4
  have dropsOnce : (db ++ d :: da).Nodup := drops ▸ List.nodup_finRange 128
  obtain ⟨kbOnce, lka, kapart⟩ := List.nodup_append.mp legsOnce
  obtain ⟨dbOnce, dda, dapart⟩ := List.nodup_append.mp dropsOnce
  have hkb : l ∉ kb := fun h => kapart l h l List.mem_cons_self rfl
  have hdb : d ∉ db := fun h => dapart d h d List.mem_cons_self rfl
  have hka : l ∉ ka := (List.nodup_cons.mp lka).1
  have hda : d ∉ da := (List.nodup_cons.mp dda).1
  obtain ⟨v, hv⟩ : ∃ v, v = kb.foldl (fun w k => w.legBoundary k) w.boundaryOpened := ⟨_, rfl⟩
  obtain ⟨u, hu⟩ : ∃ u, u = db.foldl (fun w c => w.holdTick l c) (v.legReady l) := ⟨_, rfl⟩
  have opened : Work.Beside l w.boundaryOpened v := hv ▸ w.boundaryOpened.legBoundaries_beside l hkb
  have turn : v.legBoundary l = ((da.foldl (fun w c => w.holdTick l c) (u.holdTick l d)).scheduleTicked l).beginRound l := by
    have ticked : (v.legReady l).holdsTicked l = da.foldl (fun w c => w.holdTick l c) (u.holdTick l d) := by
      rw [Work.holdsTicked, Machine.forDrops, allDrops, drops, List.foldl_append, List.foldl_cons, ← hu]
    rw [Work.legBoundary_eq, ticked]
  have closed : Work.Beside l (v.legBoundary l) w.boundary := by
    have eq : w.boundary = ka.foldl (fun w k => w.legBoundary k) (v.legBoundary l) := by
      rw [Work.boundary_eq, forLegs, allLegs, legs, List.foldl_append, List.foldl_cons, ← hv]
    exact eq ▸ (v.legBoundary l).legBoundaries_beside l hka
  refine ⟨u, ?_, fun q hq h => ?_, fun q hq hg h => ?_, ?_⟩
  · have ticked : Work.Reach l .all (v.legReady l) u :=
      hu ▸ (Work.Reach.refl trivial).foldl fun _ c _ k => k.holdTick trivial trivial
    exact ticked.stamp.trans ((v.legReady_logs l (σ := .all)).stamp.trans (Work.shared_stamp opened.shared))
  · have ready : v.Watches q l d := ⟨opened.leg ▸ h.leg⟩
    rw [hu]
    exact ready.legReady.foldl fun _ c hc k => Work.Watches.holdTick hq k fun e => hdb (e ▸ hc)
  · refine ⟨?_⟩
    rw [closed.leg, turn]
    refine (Work.Watches.beginRound hq hg (Work.Watches.scheduleTicked ?_)).leg
    exact h.foldl fun _ c hc k => Work.Watches.holdTick hq k fun e => hda (e ▸ hc)
  · have legsWrite : Work.Writes _ w.boundaryOpened v := hv ▸ w.boundaryOpened.legBoundaries_write kbOnce
    have ready : Work.Writes (fun _ => False) v (v.legReady l) := .of_logs (v.legReady_logs l (σ := .unwritten)) fun _ => id
    have ticks : Work.Writes _ (v.legReady l) u := hu ▸ Work.holdTicks_write dbOnce (v.legReady l) l
    refine ((legsWrite.trans ready fun _ _ => id).trans ticks fun p hp hp' => ?_).mono fun p hp => ?_
    · rcases hp with hp | hp
      · exact hkb (hp'.1.1 ▸ hp.1)
      · exact hp
    · obtain (⟨hp, used⟩ | ⟨⟨⟩⟩) | ⟨⟨hl, hp⟩, used⟩ := hp
      · exact ⟨fun e => hkb (by rw [e] at hp; exact hp), used⟩
      · obtain ⟨k, c⟩ := p
        obtain rfl : k = l := hl
        rw [Work.legReady_meter, Work.meter_of_leg opened.leg] at used
        exact ⟨fun e => hdb ((Prod.mk.inj e).2 ▸ hp), used⟩

end Sys2Proof.Machine
end

section
set_option Elab.async false -- one theorem after another: side by side they ask for more threads than the check's memory limit grants
/-! PROOFS. The count of a lost hold at a round boundary, and its end (R33 to R35, R182). -/

namespace Sys2Proof.Machine

/-! ### The counts of a map build leave a sleeping entry -/

theorem DropEntry.buildStarts_of_asleep {e : DropEntry} (h : e.Asleep) (hv : e.state ≠ .vacant) :
    e.buildStarts = { e with noBurst := min (e.noBurst + 1) 8 } := by
  have dormant : e.state ≠ .dormant := h.not_heard.2.2.2.2.2
  simp [DropEntry.buildStarts, hv, dormant]

theorem DropEntry.buildEnds_of_asleep {e : DropEntry} (h : e.Asleep) : e.buildEnds = { e with noBurst := 0 } := by
  have dormant : e.state ≠ .dormant := h.not_heard.2.2.2.2.2
  simp [DropEntry.buildEnds, dormant]

theorem DropEntry.asleep_of_lostHold {e : DropEntry} {n : Nat} (h : e.lostHold = some n) : e.Asleep := by
  rcases DropEntry.lostHold_iff.mp h with ⟨hs, -⟩ | ⟨hs, b, hb, hl, -⟩
  · exact .inl hs
  · exact .inr (.inr ⟨hs, b, hb, hl⟩)

theorem DropEntry.not_vacant_of_lostHold {e : DropEntry} {n : Nat} (h : e.lostHold = some n) : e.state ≠ .vacant := by
  rcases DropEntry.lostHold_iff.mp h with ⟨hs, -⟩ | ⟨hs, -⟩ <;> rw [hs] <;> nofun

/-! ### What is claimed of a drop -/

/-- The drop has a lost hold of `n` rounds, LOST or HUSHED. -/
def Watch.held (n : Nat) (still : Prop) (m : Option Meter) : Watch := ⟨fun e => e.lostHold = some n, fun _ => True, False, False, still, m⟩

/-- The drop is LOST, and no HUSH_SET that is asked for names it. -/
def Watch.lost (d : Drop) (n : Nat) (reason : Option Reason) (since : Stamp) : Watch :=
  ⟨fun e => e.state = .lost ∧ e.hold = some n ∧ e.reason = reason ∧ e.since = since, fun a => ∀ set span, a = .stepHush set span → d ∉ set, False,
    False, False, none⟩

/-- The drop is HUSHED with a LOST resume state on a leg without a search, whose monitor asks for nothing. -/
def Watch.hushed (b : Resume) (since : Stamp) : Watch :=
  ⟨fun e => (e.state = .hushed ∧ e.resume = some b ∧ e.since = since) ∧ b.state = .lost, fun _ => False, True, False, False, none⟩

/-- The drop is RETIRING or VACANT and no MUTE of it is asked for; where it has gone, its meter is the one given. -/
def Watch.rests (entry : DropEntry → Prop) (d : Drop) (gone : Prop) (m : Option Meter) : Watch :=
  ⟨entry, fun a => a ≠ .mute d, False, gone, gone, m⟩

/-- An entry that a retirement leaves and that the counts of a map build keep. -/
structure DropEntry.Settled (entry : DropEntry → Prop) : Prop where
  resting : ∀ e, entry e → e.state.resting = true
  buildStarts : ∀ e, entry e → entry e.buildStarts
  buildEnds : ∀ e, entry e → entry e.buildEnds

section
variable {d : Drop} {n : Nat}

theorem Watch.held_sound {still : Prop} {m : Option Meter} : (Watch.held n still m).Sound d where
  asleep _ h := DropEntry.asleep_of_lostHold h
  resting := False.elim
  returned _ e b t he hs hb := by
    rcases DropEntry.lostHold_iff.mp he with ⟨hl, -⟩ | ⟨-, b', hb', hl, hn⟩
    · exact absurd (hs.symm.trans hl) nofun
    · obtain rfl := Option.some.inj (hb.symm.trans hb')
      exact DropEntry.lostHold_of_lost hl hn
  hushed set k e t _ _ he hl := by
    have hn : e.hold = some n := by
      rcases DropEntry.lostHold_iff.mp he with ⟨-, hn⟩ | ⟨hs, -⟩
      · exact hn
      · exact absurd (hl.symm.trans hs) nofun
    refine DropEntry.lostHold_of_hushed (b := e.resumeOf) rfl rfl ?_ hn
    exact (if_neg (by rw [hl]; nofun)).trans hl
  unhush _ := trivial
  askQuiet _ _ := id
  mute := False.elim
  nextEcho _ _ _ := id
  buildStarts e he := by
    rw [DropEntry.buildStarts_of_asleep (DropEntry.asleep_of_lostHold he) (DropEntry.not_vacant_of_lostHold he)]
    exact he
  buildEnds e he := by
    rw [DropEntry.buildEnds_of_asleep (DropEntry.asleep_of_lostHold he)]
    exact he

theorem Watch.lost_sound {reason : Option Reason} {since : Stamp} : (Watch.lost d n reason since).Sound d where
  asleep _ h := .inl h.1
  resting := False.elim
  returned _ e b t he hs := absurd (hs.symm.trans he.1) nofun
  hushed set k e t ha hd _ _ := absurd hd (ha set k rfl)
  unhush _ _ _ := nofun
  askQuiet _ _ := id
  mute := False.elim
  nextEcho _ _ _ := id
  buildStarts e he := by
    rw [DropEntry.buildStarts_of_asleep (.inl he.1) (by rw [he.1]; nofun)]
    exact he
  buildEnds e he := by
    rw [DropEntry.buildEnds_of_asleep (.inl he.1)]
    exact he

theorem Watch.hushed_sound {b : Resume} {since : Stamp} : (Watch.hushed b since).Sound d where
  asleep _ h := .inr (.inr ⟨h.1.1, b, h.1.2.1, h.2⟩)
  resting := False.elim
  returned hn := absurd trivial hn
  hushed _ _ _ _ := False.elim
  unhush hn := absurd trivial hn
  askQuiet _ := False.elim
  mute := False.elim
  nextEcho _ _ _ := id
  buildStarts e he := by
    rw [DropEntry.buildStarts_of_asleep (.inr (.inr ⟨he.1.1, b, he.1.2.1, he.2⟩)) (by rw [he.1.1]; nofun)]
    exact he
  buildEnds e he := by
    rw [DropEntry.buildEnds_of_asleep (.inr (.inr ⟨he.1.1, b, he.1.2.1, he.2⟩))]
    exact he

theorem Watch.rests_sound {entry : DropEntry → Prop} {gone : Prop} {m : Option Meter} (h : DropEntry.Settled entry)
    (hn : ¬gone → ∀ e k, entry e → entry { e with nextEcho := k }) : (Watch.rests entry d gone m).Sound d where
  asleep e he := .inr (.inl (h.resting e he))
  resting _ := h.resting
  returned _ e b t he hs := by
    have := h.resting e he
    rw [hs] at this
    cases this
  hushed set k e t _ _ he hl := by
    have := h.resting e he
    rw [hl] at this
    cases this
  unhush _ := nofun
  askQuiet _ _ := id
  mute _ hm := hm rfl
  nextEcho := hn
  buildStarts := h.buildStarts
  buildEnds := h.buildEnds

end

theorem DropEntry.settled_resting : DropEntry.Settled (fun e => e.state.resting = true) where
  resting _ := id
  buildStarts e he := by
    by_cases hv : e.state = .vacant
    · have same : e.buildStarts = e := by simp [DropEntry.buildStarts, hv]
      rw [same]
      exact he
    · rw [DropEntry.buildStarts_of_asleep (.inr (.inl he)) hv]
      exact he
  buildEnds e he := by
    rw [DropEntry.buildEnds_of_asleep (.inr (.inl he))]
    exact he

/-- An entry that became VACANT at `t`. -/
theorem DropEntry.settled_vacant (t : Stamp) : DropEntry.Settled (· = DropEntry.vacant t) where
  resting := by rintro _ rfl; rfl
  buildStarts := by rintro _ rfl; rfl
  buildEnds := by rintro _ rfl; rfl

/-- An entry that is RETIRING since `t` for its hold. -/
def DropEntry.ExpiredAt (t : Stamp) (e : DropEntry) : Prop := e.state = .retiring ∧ e.reason = some (.retire .holdExpired) ∧ e.since = t

theorem DropEntry.settled_expired (t : Stamp) : DropEntry.Settled (DropEntry.ExpiredAt t) where
  resting e he := by rw [he.1]; rfl
  buildStarts e he := by
    rw [DropEntry.buildStarts_of_asleep (.inr (.inl (by rw [he.1]; rfl))) (by rw [he.1]; nofun)]
    exact he
  buildEnds e he := by
    rw [DropEntry.buildEnds_of_asleep (.inr (.inl (by rw [he.1]; rfl)))]
    exact he

/-! ### The hold of two rounds or more -/

section
variable {w : Work} {l : Leg} {d : Drop} {n : Nat}

theorem Work.holdTick_of_lost (hs : (w.drop l d).state = .lost) (hn : (w.drop l d).hold = some n) :
    w.holdTick l d = if n ≤ 1 then w.retire l d .holdExpired else w.mapDrop l d fun e => { e with hold := some (n - 1) } := by
  unfold Work.holdTick
  dsimp only
  rw [hs, hn]

theorem Work.holdTick_of_hushed {b : Resume} (hs : (w.drop l d).state = .hushed) (hb : (w.drop l d).resume = some b) (hl : b.state = .lost)
    (hn : b.hold = some n) : w.holdTick l d =
      if n ≤ 1 then w.retire l d .holdExpired else w.mapDrop l d fun e => { e with resume := some { b with hold := some (n - 1) } } := by
  unfold Work.holdTick
  dsimp only
  rw [hs, hb]
  dsimp only
  rw [hl, hn]

/-- A hold of one round runs out. -/
theorem Work.holdTick_expires (h : (w.drop l d).lostHold = some n) (hn : n ≤ 1) : w.holdTick l d = w.retire l d .holdExpired := by
  rcases DropEntry.lostHold_iff.mp h with ⟨hs, hh⟩ | ⟨hs, b, hb, hl, hh⟩
  · rw [Work.holdTick_of_lost hs hh, if_pos hn]
  · rw [Work.holdTick_of_hushed hs hb hl hh, if_pos hn]

/-- The drop's own entry changed, and what is claimed of it. -/
theorem Work.Watches.recounted {q q' : Watch} {f : DropEntry → DropEntry} (h : w.Watches q l d) (entry : q'.entry (f (w.drop l d)))
    (asks : ∀ a, q.asks a → q'.asks a) (quiet : q'.quiet → q.quiet) (gone : ¬q'.gone) (still : ¬q'.still) :
    (w.mapDrop l d f).Watches q' l d := by
  refine ⟨?_⟩
  rw [Work.mapDrop_eq, Work.leg_mapLeg_self]
  refine ⟨?_, fun a ha => asks a (h.leg.asks a ha), fun hq => h.leg.quiet (quiet hq), fun hg => absurd hg gone, fun hs => absurd hs still⟩
  dsimp only
  rw [get_set, if_pos rfl]
  exact entry

theorem Work.Watches.held_counted (h : w.Watches (.held n False none) l d) (hn : 2 ≤ n) :
    (w.holdTick l d).Watches (.held (n - 1) False none) l d := by
  rcases DropEntry.lostHold_iff.mp (show (w.drop l d).lostHold = some n from h.leg.entry) with ⟨hs, hh⟩ | ⟨hs, b, hb, hl, hh⟩
  · rw [Work.holdTick_of_lost hs hh, if_neg (by omega)]
    exact h.recounted (DropEntry.lostHold_of_lost hs rfl) (fun _ => id) id id id
  · rw [Work.holdTick_of_hushed hs hb hl hh, if_neg (by omega)]
    exact h.recounted (DropEntry.lostHold_of_hushed hs rfl hl rfl) (fun _ => id) id id id

theorem Work.Watches.lost_counted {reason : Option Reason} {since : Stamp} (h : w.Watches (.lost d n reason since) l d) (hn : 2 ≤ n) :
    (w.holdTick l d).Watches (.lost d (n - 1) reason since) l d := by
  obtain ⟨hs, hh, hr, ht⟩ := h.leg.entry
  rw [Work.holdTick_of_lost hs hh, if_neg (by omega)]
  exact h.recounted ⟨hs, rfl, hr, ht⟩ (fun _ => id) id id id

theorem Work.Watches.hushed_counted {b : Resume} {since : Stamp} (h : w.Watches (.hushed b since) l d) (hh : b.hold = some n) (hn : 2 ≤ n) :
    (w.holdTick l d).Watches (.hushed { b with hold := some (n - 1) } since) l d := by
  obtain ⟨⟨hs, hb, ht⟩, hl⟩ := h.leg.entry
  rw [Work.holdTick_of_hushed hs hb hl hh, if_neg (by omega)]
  exact h.recounted ⟨⟨hs, rfl, ht⟩, hl⟩ (fun _ => id) id id id

/-- A claim that holds of a leg holds behind the closes of a boundary. -/
theorem Work.Watches.opened {q : Watch} (h : w.Watches q l d) (gone : ¬q.gone) (still : q.still → w.boundaryOpened.meter l d = q.meter) :
    w.boundaryOpened.Watches q l d := by
  have same := w.boundaryOpened_sansMeters l
  have drops : (w.boundaryOpened.leg l).drops = (w.leg l).drops := congrArg (·.drops) same
  have monitor : (w.boundaryOpened.leg l).monitor = (w.leg l).monitor := congrArg (·.monitor) same
  refine ⟨⟨?_, ?_, ?_, fun hg => absurd hg gone, still⟩⟩
  · rw [drops]
    exact h.leg.entry
  · rw [monitor]
    exact h.leg.asks
  · rw [monitor]
    exact h.leg.quiet

/-- What a boundary makes of a claim that the count of the hold moves. -/
theorem Work.Watches.boundary {q q' : Watch} (h : w.Watches q l d) (hq : q.Sound d) (hq' : q'.Sound d) (gone : ¬q.gone) (still : ¬q.still)
    (still' : ¬q'.still) (count : ∀ u : Work, u.Watches q l d → (u.holdTick l d).Watches q' l d) : w.boundary.Watches q' l d := by
  obtain ⟨u, turn⟩ := w.boundary_holdTurn l d
  have before := turn.before q hq (h.opened gone fun hs => absurd hs still)
  exact turn.after q' hq' (fun hs => absurd hs still') (count u before)

end

end Sys2Proof.Machine
end

section
set_option Elab.async false -- one theorem after another: side by side they ask for more threads than the check's memory limit grants
/-! PROOFS. A lost hold that runs out at a round boundary: the close of the drop's meter before it, and the retirement (R33 to R35, R179 to
R182). -/

namespace Sys2Proof.Machine

/-! ### A retirement as a claim -/

section
variable {w w' : Work} {l : Leg} {d : Drop} {reason : RetireReason}

/-- A drop that enters RETIRING, before its meter is closed. -/
theorem Work.enterRetiring_rests :
    (w.enterRetiring l d reason).Watches (.rests (fun e => e.state.resting = true) d False none) l d := by
  have sound : (Watch.rests (fun e => e.state.resting = true) d False none).Sound d :=
    Watch.rests_sound DropEntry.settled_resting fun _ _ _ => id
  refine Work.Watches.departure sound (Work.Watches.raise ⟨⟨?_, fun a ha => ?_, False.elim, False.elim, False.elim⟩⟩)
  · rw [Work.mapDrop_eq, Work.leg_mapLeg_self]
    dsimp only [Watch.rests]
    rw [get_set, if_pos rfl]
    rfl
  · rw [Work.mapDrop_eq, Work.leg_mapLeg_self] at ha
    dsimp only at ha
    rw [Work.purge, Work.leg_mapLeg_self] at ha
    exact bne_iff_ne.mp (List.mem_filter.mp ha).2

/-- A retirement leaves no MUTE of its drop asked for (R67). -/
theorem Work.retire_asks (hd : (w.drop l d).state.resting = false) :
    ∀ a ∈ ((w.retire l d reason).leg l).monitor.asks, a ≠ .mute d := by
  have asks := (Work.enterRetiring_rests (w := w) (l := l) (d := d) (reason := reason)).leg.asks
  have closed : ((((w.enterRetiring l d reason).closeMeter l d reason.closeCause).1).leg l).monitor =
      ((w.enterRetiring l d reason).leg l).monitor := by rw [(Work.closeMeter_spec _ l d _).leg]
  rw [Work.retire_eq, if_neg (by rw [hd]; exact Bool.false_ne_true)]
  dsimp only
  generalize (w.enterRetiring l d reason).closeMeter l d reason.closeCause = x at closed ⊢
  rw [← closed] at asks
  split
  · obtain ⟨k, hk, -⟩ := ((x.1.leg l).vacated d x.1.stamp).offIfVacant_eq
    rw [Work.vacate_leg, hk]
    exact asks
  · exact asks

/-- A search that goes on without a drop has it among its candidates no more. -/
theorem Monitor.not_mem_candidatesWithout {m : Monitor} {cs : List Drop} (hs : m.state = .hunting) (hc : m.candidatesWithout d = some cs) :
    d ∉ cs := by
  rw [Monitor.candidatesWithout, if_pos hs, Option.map_eq_some_iff] at hc
  obtain ⟨cs', -, rfl⟩ := hc
  intro hd
  exact absurd rfl (bne_iff_ne.mp (List.mem_filter.mp hd).2)

/-- A drop that retired, as a claim of its leg. -/
theorem Work.RetiredAs.watches {r₁ : LegRecord} {entry : DropEntry → Prop} (h : w.RetiredAs l d reason r₁ w')
    (asks : ∀ a ∈ (w'.leg l).monitor.asks, a ≠ .mute d) (he : entry (w'.drop l d)) :
    w'.Watches (.rests entry d True (w'.meter l d)) l d := by
  have left := h.left
  have search : (∀ cs, r₁.monitor.state = .hunting → r₁.monitor.candidates = some cs → d ∉ cs) ∧
      (r₁.monitor.state = .verifying → r₁.monitor.suspectDrop ≠ some d) := by
    cases ends : (w.leg l).monitor.endsWithout d with
    | true =>
      obtain ⟨asked, monitor⟩ := left.holdoff ends
      rw [monitor]
      exact ⟨fun _ hs => (nomatch hs), fun hs => (nomatch hs)⟩
    | false =>
      obtain ⟨-, -, monitor⟩ := left.goesOn ends
      rw [monitor]
      refine ⟨fun cs hs hc => Monitor.not_mem_candidatesWithout (m := (w.leg l).monitor) hs hc, fun hs hd => ?_⟩
      have suspect : (w.leg l).monitor.endsWithout d = ((w.leg l).monitor.suspectDrop == some d) := by
        unfold Monitor.endsWithout
        rw [show (w.leg l).monitor.state = .verifying from hs]
      rw [suspect, show (w.leg l).monitor.suspectDrop = some d from hd, beq_self_eq_true] at ends
      cases ends
  rw [← h.monitor] at search
  refine ⟨⟨he, asks, False.elim, fun _ => ⟨h.no_lanes, fun e he => ?_, h.owed, search.1, search.2⟩, fun _ => rfl⟩⟩
  rw [h.orders] at he
  exact left.no_orders e he

end

/-! ### The meter behind the closes of a boundary (R179 to R181) -/

/-- A meter behind the closes of a boundary is as it was, or as one continuing close left it, for which the journal had the room `room`. -/
theorem Work.boundaryOpened_meter (w : Work) (l : Leg) (d : Drop) : ∃ room : Bool,
    (w.blocks.journal.entries.length + 512 ≤ 1024 → w.blocks.journal.nextSeq + 512 ≤ 4294967296 → room = true) ∧
    (w.blocks.journal.room = false → room = false) ∧
    (w.boundaryOpened.meter l d = w.meter l d ∨ ∃ (c : CloseCause) (out : Bool), (c = .period ∨ c = .host) ∧
      w.boundaryOpened.meter l d = (closeOf (w.meter l d) c room w.stamp out).left) := by
  obtain ⟨stamp, journal, -⟩ := w.opening_kept
  have before : w.opening.meter l d = w.meter l d := congrArg (·.meters[d]) (w.opening_leg l)
  obtain ⟨v, mine, ⟨hstamp, hmeter, room, full⟩, -, last, -⟩ := w.opening.boundaryCloses_at l d
  rw [journal] at room full
  rw [← Work.boundaryOpened_eq] at last
  have closed {c : CloseCause} (hc : c = .period ∨ c = .host)
      (h : w.opening.closeCause (w.opening.blocks.periodDue w.opening.stamp) l = some c) : ∃ (c : CloseCause) (out : Bool),
        (c = .period ∨ c = .host) ∧
          w.boundaryOpened.meter l d = (closeOf (w.meter l d) c v.blocks.journal.room w.stamp out).left := by
    refine ⟨c, (v.drop l d).outOfService, hc, ?_⟩
    rw [last, h]
    refine Work.closeMeter_meter.trans ?_
    rw [Work.closing, hmeter, before, hstamp, stamp]
  refine ⟨v.blocks.journal.room, room, full, ?_⟩
  cases hd : w.opening.blocks.periodDue w.opening.stamp with
  | true => exact .inr (closed (.inl rfl) (by rw [hd]; exact Work.closeCause_period rfl))
  | false =>
    cases hh : w.opening.blocks.hostClose[l] with
    | true => exact .inr (closed (.inr rfl) (by rw [hd]; exact Work.closeCause_host Bool.false_ne_true hh))
    | false =>
      refine .inl ?_
      rw [last, hd, Work.closeCause_none Bool.false_ne_true hh]
      exact hmeter.trans before

theorem closeOf_due {m : Meter} {c : CloseCause} {room : Bool} {t : Stamp} {out : Bool} (hc : c = .period ∨ c = .host) (hp : m.pending = none)
    (hu : m.usage = true) : (closeOf (some m) c room t out).left = if room then some (m.restarted t out) else some (m.heldFor c t) := by
  have cont := CloseCause.continuing hc
  cases room <;> simp [closeOf, Meter.close, hp, hu, cont]

/-- A continuing close of a meter without usage leaves one that needs no entry to leave. -/
theorem spareMeter_of_closed {o : Option Meter} {c : CloseCause} {room : Bool} {t : Stamp} {out : Bool} (hc : c = .period ∨ c = .host)
    (h : ∀ m, o = some m → m.pending = none ∧ m.usage = false) : spareMeter (closeOf o c room t out).left := by
  have cont := CloseCause.continuing hc
  cases o with
  | none => exact .inl rfl
  | some m =>
    obtain ⟨hp, hu⟩ := h m rfl
    unfold closeOf Meter.close
    simp only [hp, hu, cont, Bool.not_false, Bool.true_and, Bool.false_and, Bool.false_eq_true, if_false]
    split
    · exact .inr ⟨_, rfl, hu, .inl rfl⟩
    · split
      · exact .inr ⟨_, rfl, Meter.restarted_usage m t out, .inl rfl⟩
      · exact .inr ⟨_, rfl, hu, .inr ⟨c, t, rfl, hc⟩⟩

section
variable {w : Work} {l : Leg} {d : Drop}

/-- Without usage the meter behind the closes needs no entry to leave. -/
theorem Work.boundaryOpened_spare (h : ∀ m, w.meter l d = some m → m.pending = none ∧ m.usage = false) :
    spareMeter (w.boundaryOpened.meter l d) := by
  obtain ⟨room, -, -, same | ⟨c, out, hc, closed⟩⟩ := w.boundaryOpened_meter l d
  · rw [same]
    cases hm : w.meter l d with
    | none => exact .inl rfl
    | some m => exact .inr ⟨m, rfl, (h m hm).2, .inl (h m hm).1⟩
  · rw [closed]
    exact spareMeter_of_closed hc h

/-- With usage and 512 places free the meter behind the closes is as it was, or restarted. -/
theorem Work.boundaryOpened_used {m : Meter} (hm : w.meter l d = some m) (hp : m.pending = none) (hu : m.usage = true)
    (hr : w.blocks.journal.entries.length + 512 ≤ 1024) (hn : w.blocks.journal.nextSeq + 512 ≤ 4294967296) :
    spareMeter (w.boundaryOpened.meter l d) ∨ w.boundaryOpened.meter l d = some m := by
  obtain ⟨room, free, -, same | ⟨c, out, hc, closed⟩⟩ := w.boundaryOpened_meter l d
  · exact .inr (same.trans hm)
  · refine .inl ?_
    rw [closed, hm, closeOf_due hc hp hu, free hr hn]
    exact .inr ⟨_, rfl, Meter.restarted_usage m _ out, .inl rfl⟩

/-- With usage and no room the meter behind the closes is as it was, or HELD for a continuing close. -/
theorem Work.boundaryOpened_full {m : Meter} (hm : w.meter l d = some m) (hp : m.pending = none) (hu : m.usage = true)
    (hr : w.blocks.journal.room = false) : w.boundaryOpened.meter l d = some m ∨
      ∃ c t, (c = .period ∨ c = .host) ∧ w.boundaryOpened.meter l d = some (m.heldFor c t) := by
  obtain ⟨room, -, full, same | ⟨c, out, hc, closed⟩⟩ := w.boundaryOpened_meter l d
  · exact .inl (same.trans hm)
  · refine .inr ⟨c, w.stamp, hc, ?_⟩
    rw [closed, hm, closeOf_due hc hp hu, full hr]
    rfl

end

/-! ### The journal at the turn of a hold -/

section
variable {w u : Work} {l : Leg} {d : Drop}

/-- What the boundary wrote before the turn of a drop's hold. -/
theorem Work.HoldTurn.written (h : w.HoldTurn l d u) : Work.Writes (fun p => meterIdle (w.boundaryOpened.meter p.1 p.2) ∨
    p ≠ (l, d) ∧ ¬meterIdle (w.boundaryOpened.meter p.1 p.2)) w u := by
  obtain ⟨-, journal, -⟩ := w.opening_kept
  have closes := w.opening.boundaryCloses_writes
  rw [← Work.boundaryOpened_eq] at closes
  obtain ⟨new, entries, nextSeq, rest⟩ := (closes.trans h.writes fun _ idle used => used.2 idle).written
  rw [journal] at entries nextSeq
  exact ⟨new, entries, nextSeq, rest⟩

/-- With 512 places free there is room for a drop with usage. -/
theorem Work.HoldTurn.room (h : w.HoldTurn l d u) (hu : ¬meterIdle (w.boundaryOpened.meter l d))
    (hr : w.blocks.journal.entries.length + 512 ≤ 1024) (hn : w.blocks.journal.nextSeq + 512 ≤ 4294967296) :
    u.blocks.journal.room = true :=
  h.written.room (p := (l, d)) (fun hp => hp.elim hu fun hp => hp.1 rfl) hr hn

/-- A full journal is full at the turn of a hold. -/
theorem Work.HoldTurn.full (h : w.HoldTurn l d u) (hr : w.blocks.journal.room = false) : u.blocks.journal.room = false :=
  h.written.full hr

end

/-! ### The expiry at a boundary -/

section
variable {w u : Work} {l : Leg} {d : Drop} {n : Nat}

/-- At its turn a drop whose hold runs out has the meter that the closes left, and retires. -/
structure Work.ExpiresAt (w : Work) (l : Leg) (d : Drop) (u : Work) (r₁ : LegRecord) : Prop where
  turn : w.HoldTurn l d u
  meter : u.meter l d = w.boundaryOpened.meter l d
  stamp : u.stamp = w.stamp
  retired : u.RetiredAs l d .holdExpired r₁ (u.holdTick l d)
  asks : ∀ a ∈ ((u.holdTick l d).leg l).monitor.asks, a ≠ .mute d

theorem Work.boundary_expires (h : (w.drop l d).lostHold = some n) (hn : n ≤ 1) : ∃ u r₁, w.ExpiresAt l d u r₁ := by
  obtain ⟨u, turn⟩ := w.boundary_holdTurn l d
  have start : w.Watches (.held n False none) l d := ⟨⟨h, fun _ _ => trivial, False.elim, False.elim, False.elim⟩⟩
  have opened := start.opened id False.elim
  have at_turn := turn.before (.held n True (w.boundaryOpened.meter l d)) Watch.held_sound
    ⟨⟨opened.leg.entry, fun _ _ => trivial, False.elim, False.elim, fun _ => rfl⟩⟩
  have hold : (u.drop l d).lostHold = some n := at_turn.leg.entry
  have used := DropEntry.in_use_of_lostHold hold
  obtain ⟨r₁, retired⟩ := u.retire_retiredAs l d .holdExpired used
  have asks := Work.retire_asks (reason := .holdExpired) used
  rw [← Work.holdTick_expires hold hn] at retired asks
  exact ⟨u, r₁, turn, at_turn.leg.meter trivial, turn.stamp.trans w.boundaryOpened_stamp, retired, asks⟩

variable {r₁ : LegRecord}

/-- What a retirement at its turn leaves stands to the end of the boundary. -/
theorem Work.ExpiresAt.stands {kept : DropEntry → Prop} (h : w.ExpiresAt l d u r₁) (settled : DropEntry.Settled kept)
    (he : kept ((u.holdTick l d).drop l d)) : w.boundary.Watches (.rests kept d True ((u.holdTick l d).meter l d)) l d :=
  h.turn.after _ (Watch.rests_sound settled fun hg => absurd trivial hg) id (h.retired.watches h.asks he)

/-- The entry is VACANT, or RETIRING with its hold expired. -/
theorem Work.ExpiresAt.entry (h : w.ExpiresAt l d u r₁) : (u.holdTick l d).drop l d = DropEntry.vacant w.stamp ∨
    DropEntry.ExpiredAt w.stamp ((u.holdTick l d).drop l d) := by
  have entry := h.retired.entry
  rw [h.stamp] at entry
  split at entry
  · exact .inl entry
  · rw [entry]
    exact .inr ⟨rfl, rfl, rfl⟩

/-- A drop that needs no entry in the journal, or for which there is room, is VACANT behind the boundary. -/
theorem Work.ExpiresAt.vacant (h : w.ExpiresAt l d u r₁) (hm : spareMeter (w.boundaryOpened.meter l d) ∨
    ∃ m, w.boundaryOpened.meter l d = some m ∧ m.pending = none ∧ m.usage = true ∧ u.blocks.journal.room = true) :
    w.boundary.drop l d = DropEntry.vacant w.stamp ∧ w.boundary.meter l d = none := by
  rw [← h.meter] at hm
  have gone : (u.holdTick l d).drop l d = DropEntry.vacant w.stamp ∧ (u.holdTick l d).meter l d = none := by
    rw [← h.stamp]
    rcases hm with hm | ⟨m, hm, hp, hu, hr⟩
    · obtain ⟨entry, meter, -⟩ := h.retired.spare hm
      exact ⟨entry, meter⟩
    · obtain ⟨entry, meter, -⟩ := h.retired.written hm hp hu hr
      exact ⟨entry, meter⟩
  have stands := h.stands (DropEntry.settled_vacant w.stamp) gone.1
  exact ⟨stands.leg.entry, (stands.leg.meter trivial).trans gone.2⟩

/-- A drop with usage and no room for its close stays RETIRING with its meter HELD. -/
theorem Work.ExpiresAt.held {m : Meter} (h : w.ExpiresAt l d u r₁) (hm : w.meter l d = some m) (hp : m.pending = none) (hu : m.usage = true)
    (hr : w.blocks.journal.room = false) :
    (w.boundary.drop l d).state = .retiring ∧ ∃ at', (w.boundary.meter l d).bind Meter.pending = some (.retire, at') := by
  have held : DropEntry.ExpiredAt w.stamp ((u.holdTick l d).drop l d) ∧
      ∃ at', ((u.holdTick l d).meter l d).bind Meter.pending = some (.retire, at') := by
    rw [← h.stamp]
    rcases Work.boundaryOpened_full hm hp hu hr with same | ⟨c, t, hc, closed⟩
    · obtain ⟨entry, -, meter⟩ := h.retired.held (h.meter.trans same) hp hu (h.turn.full hr)
      rw [entry, meter]
      exact ⟨⟨rfl, rfl, rfl⟩, u.stamp, rfl⟩
    · obtain ⟨entry, -, meter⟩ := h.retired.reheld (h.meter.trans closed) rfl hc hu
      rw [entry, meter]
      exact ⟨⟨rfl, rfl, rfl⟩, t, rfl⟩
  have stands := h.stands (DropEntry.settled_expired w.stamp) held.1
  refine ⟨stands.leg.entry.1, ?_⟩
  rw [show w.boundary.meter l d = _ from stands.leg.meter trivial]
  exact held.2

end

/-- What a boundary makes of a hold of two rounds or more (R33). -/
theorem Work.boundary_counts_hold {w : Work} {l : Leg} {d : Drop} {n : Nat} (h : (w.drop l d).lostHold = some n) (hn : 2 ≤ n) :
    (w.boundary.drop l d).lostHold = some (n - 1) ∧
    ((w.drop l d).state = .lost → (∀ set span, MonitorAsk.stepHush set span ∈ (w.leg l).monitor.asks → d ∉ set) →
      (w.boundary.drop l d).state = .lost ∧ (w.boundary.drop l d).hold = some (n - 1) ∧
      (w.boundary.drop l d).reason = (w.drop l d).reason ∧ (w.boundary.drop l d).since = (w.drop l d).since) ∧
    ((w.drop l d).state = .hushed → (w.leg l).monitor.asks = [] → (w.leg l).monitor.state.searching = false →
      (w.boundary.drop l d).state = .hushed ∧ (w.boundary.drop l d).since = (w.drop l d).since ∧
      (w.boundary.drop l d).resume = (w.drop l d).resume.map fun back => { back with hold := some (n - 1) }) := by
  have cases := DropEntry.lostHold_iff.mp h
  refine ⟨?_, fun hs asks => ?_, fun hs asks idle => ?_⟩
  · have held : w.Watches (.held n False none) l d := ⟨⟨h, fun _ _ => trivial, False.elim, False.elim, False.elim⟩⟩
    exact (held.boundary Watch.held_sound Watch.held_sound id id id fun u k => k.held_counted hn).leg.entry
  · have hh : (w.drop l d).hold = some n := by
      rcases cases with ⟨-, hh⟩ | ⟨hs', -⟩
      · exact hh
      · exact absurd (hs.symm.trans hs') nofun
    have lost : w.Watches (.lost d n (w.drop l d).reason (w.drop l d).since) l d :=
      ⟨⟨⟨hs, hh, rfl, rfl⟩, fun a ha set span e => asks set span (e ▸ ha), False.elim, False.elim, False.elim⟩⟩
    exact (lost.boundary Watch.lost_sound Watch.lost_sound id id id fun u k => k.lost_counted hn).leg.entry
  · obtain ⟨b, hb, hl, hh⟩ : ∃ b, (w.drop l d).resume = some b ∧ b.state = .lost ∧ b.hold = some n := by
      rcases cases with ⟨hs', -⟩ | ⟨-, back⟩
      · exact absurd (hs.symm.trans hs') nofun
      · exact back
    have hushed : w.Watches (.hushed b (w.drop l d).since) l d :=
      ⟨⟨⟨⟨hs, hb, rfl⟩, hl⟩, fun a ha => absurd (asks ▸ ha) List.not_mem_nil, fun _ => idle, False.elim, False.elim⟩⟩
    obtain ⟨⟨state, resume, since⟩, -⟩ :=
      (hushed.boundary Watch.hushed_sound Watch.hushed_sound id id id fun u k => k.hushed_counted hh hn).leg.entry
    refine ⟨state, since, ?_⟩
    rw [hb]
    exact resume

/-- What a boundary makes of a hold that runs out (R33 to R35, R182). -/
theorem Work.boundary_ends_hold {w : Work} {l : Leg} {d : Drop} {n : Nat} (h : (w.drop l d).lostHold = some n) (hn : n ≤ 1) :
    ((w.boundary.drop l d).state = .vacant ∨ DropEntry.ExpiredAt w.stamp (w.boundary.drop l d)) ∧
    (w.boundary.leg l).Without d ∧
    (w.meter l d = none → w.boundary.drop l d = DropEntry.vacant w.stamp ∧ w.boundary.meter l d = none) ∧
    (∀ m, w.meter l d = some m → m.pending = none →
      (m.usage = false ∨ w.blocks.journal.entries.length + 512 ≤ 1024 ∧ w.blocks.journal.nextSeq + 512 ≤ 4294967296 →
        w.boundary.drop l d = DropEntry.vacant w.stamp ∧ w.boundary.meter l d = none) ∧
      (m.usage = true → w.blocks.journal.room = false →
        (w.boundary.drop l d).state = .retiring ∧ ∃ at', (w.boundary.meter l d).bind Meter.pending = some (.retire, at'))) := by
  obtain ⟨u, r₁, expires⟩ := Work.boundary_expires h hn
  refine ⟨?_, ?_, fun hm => ?_, fun m hm hp => ⟨fun hu => ?_, fun hu hr => expires.held hm hp hu hr⟩⟩
  · rcases expires.entry with entry | entry
    · have vacant : w.boundary.drop l d = DropEntry.vacant w.stamp :=
        (expires.stands (DropEntry.settled_vacant w.stamp) entry).leg.entry
      exact .inl (by rw [vacant]; rfl)
    · exact .inr (expires.stands (DropEntry.settled_expired w.stamp) entry).leg.entry
  · rcases expires.entry with entry | entry
    · exact (expires.stands (DropEntry.settled_vacant w.stamp) entry).leg.gone trivial
    · exact (expires.stands (DropEntry.settled_expired w.stamp) entry).leg.gone trivial
  · exact expires.vacant (.inl (Work.boundaryOpened_spare fun m hm' => absurd (hm.symm.trans hm') nofun))
  · cases used : m.usage with
    | false =>
      refine expires.vacant (.inl (Work.boundaryOpened_spare fun m' hm' => ?_))
      obtain rfl := Option.some.inj (hm.symm.trans hm')
      exact ⟨hp, used⟩
    | true =>
      obtain ⟨hr, hn⟩ := hu.resolve_left (by rw [used]; nofun)
      refine expires.vacant ((Work.boundaryOpened_used hm hp used hr hn).imp_right fun same => ⟨m, same, hp, used, ?_⟩)
      refine expires.turn.room (fun idle => ?_) hr hn
      rw [same] at idle
      exact Bool.false_ne_true ((idle m rfl).symm.trans used)

/-- Settles O36: the command is one retirement at the next boundary, as `Work.RetiredAs` says; the boundary counts or ends the hold at
its turn in the sweep of the leg's holds, and the rest of its work lets the drop be. -/
theorem lostHoldExpires : Obligations.LostHoldExpires := by
  refine ⟨fun l d n s hp hn hold => ?_, fun l d n s hp ok hold => ?_⟩
  · obtain ⟨t, taken, lanes, orders, owed, legs, search, others, spare, used, continuing⟩ :=
      lostHoldExpiry_retires hp (DropEntry.lostHold_iff.mpr hold) hn
    refine ⟨t, taken, lanes, orders, owed, legs, search, others, spare, fun m hm hpe hu => ⟨(used m hm hpe hu).1, fun hr => ?_⟩,
      fun m was at' hm hpe hw hu => ?_⟩
    · obtain ⟨entry, journal, meter⟩ := (used m hm hpe hu).2 hr
      rw [entry]
      exact ⟨rfl, rfl, rfl, rfl, journal, meter⟩
    · obtain ⟨entry, journal, meter⟩ := continuing m was at' hm hpe hw hu
      rw [entry]
      exact ⟨rfl, rfl, journal, meter⟩
  · obtain ⟨t, taken, legs, -⟩ := exec_roundBoundary_next hp
    have stamp : (Work.start s.blocks.atNextRound).stamp = s.boundary := nextRound_now ok
    have entry : t.drop l d = (Work.boundary (Work.start s.blocks.atNextRound)).drop l d := congrArg (fun r : LegRecord => r.drops[d]) (legs l)
    have meter : t.meter l d = (Work.boundary (Work.start s.blocks.atNextRound)).meter l d := congrArg (fun r : LegRecord => r.meters[d]) (legs l)
    have counts := Work.boundary_counts_hold (w := Work.start s.blocks.atNextRound) (l := l) (d := d) (n := n) hold
    have ends := Work.boundary_ends_hold (w := Work.start s.blocks.atNextRound) (l := l) (d := d) (n := n) hold
    rw [← entry] at counts ends
    rw [← meter, ← legs l, stamp] at ends
    refine ⟨t, taken, counts, fun hn => ?_⟩
    obtain ⟨state, without, none, some⟩ := ends hn
    exact ⟨state, without.lanes, without.orders, without.owed, without.hunting, without.verifying, none, some⟩

end Sys2Proof.Machine
end
